-- ==== Sys2Proof/Word.lean ====
section
/-! DEFINITION. The word and index types of the Ulkena 716 bridge, with their plainest arithmetic. -/

namespace Sys2Proof

/-- A data byte. -/
abbrev Byte := BitVec 8

/-- The number of a staging entry, 0 to 15 (R1). -/
abbrev Slot := Fin 16

/-- The index of a delayed transaction entry, 0 to 7 (R96). -/
abbrev DttIndex := Fin 8

/-- One of the eight sources of system requests, 0 to 7 (R76). -/
abbrev Requester := Fin 8

/-- The number of a protection region, 0 to 7 (R135). -/
abbrev RegionIndex := Fin 8

/-- The 512 bytes of one page (R1). -/
abbrev PageImage := Vector Byte 512

/-- A set of the page offsets 0 to 511, laid out as the maps of the inspection window are (12.4):
bit `o` is set when offset `o` is a member. -/
abbrev OffsetSet := BitVec 512

/-- A set of requesters, laid out as the writer set of the inspection window is (12.4): bit `n` for requester `n`. -/
abbrev RequesterSet := BitVec 8

/-- The whole page as a set of offsets. -/
abbrev wholePage : OffsetSet := BitVec.allOnes 512

/-- A 16-bit counter that holds at 65535 (1.6, "saturates"). -/
def satInc16 (c : BitVec 16) : BitVec 16 := if c = 65535#16 then c else c + 1#16

/-- An 8-bit counter that holds at 255 (1.6, "saturates"). -/
def satInc8 (c : BitVec 8) : BitVec 8 := if c = 255#8 then c else c + 1#8

end Sys2Proof
end

