-- ==== Sys2Proof/Syntax.lean ====
section
/-! DEFINITION. The commands the block takes: one constructor per row of spec/opcode_table.json, with the row's operands. -/

namespace Sys2Proof

/-- The device's condition as a STATUS reply gives it (R54). -/
inductive DeviceCondition where
  | ready | busy | suspended
deriving DecidableEq, Repr

/-- The four counters of the management port (R193), in the order of the register map. -/
inductive CounterId where
  | stagingRetries | elidedCommits | suspensions | unrecordedRetries
deriving DecidableEq, Repr

/-- The register that a byte is read from: the low byte of a counter (R186), or whichever register the pointer names (R185). -/
inductive ReadPlace where
  | counter (counter : CounterId)
  | pointer
deriving DecidableEq, Repr

/-- One command: an event that reaches the bridge at one of its ports, lines or timers, or one step that a block of the
bridge takes. What the outside world supplies with the event is the constructor's operands; everything else is in the state. -/
inductive Instr where
  /-- A WRITE on the system port: requester, address, length as carried, data (R76). -/
  | writeRequest (req : Requester) (addr : BitVec 24) (len : BitVec 7) (data : List Byte)
  /-- A READ on the system port: requester, address, length as carried (R76). -/
  | readRequest (req : Requester) (addr : BitVec 24) (len : BitVec 7)
  /-- A FENCE on the system port. It carries no address, length or data (R76). -/
  | fenceRequest (req : Requester)
  /-- A request whose kind field holds 3 (R197): requester and address field. -/
  | invalidKindRequest (req : Requester) (addr : BitVec 24)
  /-- The idle timer of a staging entry expires (R10). -/
  | idleTimerExpiry (slot : Slot)
  /-- The open-age timer of a staging entry expires (R11). -/
  | openAgeTimerExpiry (slot : Slot)
  /-- The commit engine's claim on the head of the commit queue is taken (R19). -/
  | takeHead
  /-- The arbiter of the array link decides (R60). -/
  | arbiterDecision
  /-- The device accepts the ERASE or PROGRAM in flight (R58). -/
  | longOperationAccepted
  /-- The READ in flight completes, and the device has returned these bytes (R57). -/
  | readCompletion (bytes : List Byte)
  /-- A poll time arrives (R54, R64). -/
  | pollTime
  /-- The SUSPEND transaction ends (R64). -/
  | suspendAccepted
  /-- The reply to the STATUS in flight returns: the condition and the fail flag (R54). -/
  | statusReply (cond : DeviceCondition) (failFlag : Bool)
  /-- One step of serving reads inside a suspension (R65). -/
  | suspendedFetchStep
  /-- The controller ends a suspension (R66). -/
  | endSuspension
  /-- The RESUME transaction ends (R66). -/
  | resumeAccepted
  /-- The operation timer expires (R68). -/
  | operationTimerExpiry
  /-- The suspend wait timer expires (R69). -/
  | suspendWaitTimerExpiry
  /-- The RESET transaction ends (R70, R174). -/
  | resetAccepted
  /-- The reset wait timer expires (R72). -/
  | resetWaitTimerExpiry
  /-- The discard timer of a delayed transaction entry expires (R113). -/
  | discardTimerExpiry (index : DttIndex)
  /-- The refresh scheduler takes a step (R152). -/
  | refreshStep
  /-- PFAIL has been held asserted for 2 µs (R160). -/
  | pfailAssertion
  /-- PFAIL has been held deasserted for 2 µs (R160). -/
  | pfailDeassertion
  /-- The drain start owed at the entry to RUNNING with PFAIL asserted (R160). -/
  | deferredDrainStart
  /-- The mode controller takes the REINIT claim (R164). -/
  | reinitClaim
  /-- The mode controller takes drain completion (R166). -/
  | drainCompletion
  /-- Power is applied and stable: the levels of PFAIL and of MADDR[1:0] (R170, R185). -/
  | powerOn (pfail : Bool) (maddr : BitVec 2)
  /-- RESET_N asserts (R28). -/
  | resetNAssertion
  /-- RESET_N deasserts: the levels of PFAIL and of MADDR[1:0] (R160, R185). -/
  | resetNDeassertion (pfail : Bool) (maddr : BitVec 2)
  /-- The start-up sequencer samples ASIZE[2:0] (R173). -/
  | size (asize : BitVec 3)
  /-- The start-up sequencer issues RESET (R174). -/
  | deviceReset
  /-- The start-up sequencer issues the READ of copy A (R175). -/
  | readA
  /-- The start-up sequencer issues the READ of copy B (R175). -/
  | readB
  /-- The start-up sequencer chooses a copy and applies the configuration (R178, R179). -/
  | apply
  /-- The mode controller takes the entry to RUNNING at the end of a start-up (R179). -/
  | startComplete
  /-- The byte 01h is written to CMD (R188). -/
  | sync
  /-- The byte 02h is written to CMD; ARG0 names the slot. -/
  | retryEntry
  /-- The byte 03h is written to CMD; ARG0 names the slot. -/
  | discardEntry
  /-- The byte 04h is written to CMD; ARG0 to ARG3 hold the descriptor. -/
  | setRegion
  /-- The byte 05h is written to CMD; ARG0 names the region. -/
  | freezeRegion
  /-- The byte 06h is written to CMD. -/
  | writeConfig
  /-- The byte 07h is written to CMD. -/
  | reinit
  /-- The byte 08h is written to CMD. -/
  | clearCounters
  /-- The byte 09h is written to CMD; ARG0 names the slot and ARG1 the line. -/
  | inspectEntry
  /-- A byte that names no command is written to CMD. -/
  | unknownCommand (code : Byte)
  /-- The first data byte of a write transfer (R185). -/
  | pointerWrite (value : Byte)
  /-- A further data byte of a write transfer, written to the register at the pointer (R185). -/
  | registerWrite (value : Byte)
  /-- A byte is read from EVDATA (R191). -/
  | evdataRead
  /-- A byte is read from EVLOST (R190). -/
  | evlostRead
  /-- A byte is read from a register of R186: the low byte of a counter, or the register at the pointer (log entry 18). -/
  | counterLowByteRead (place : ReadPlace)
  /-- A byte is written to CFG_INDEX (R195). -/
  | cfgIndexWrite (value : Byte)
  /-- A byte is read from CFG_DATA (R195). -/
  | cfgDataRead
  /-- A byte is written to CFG_DATA (R195). -/
  | cfgDataWrite (value : Byte)
  /-- A stop or a repeated start ends a transfer (R191). -/
  | transferEnd
deriving DecidableEq, Repr

end Sys2Proof
end

