-- ==== Sys2Proof/Config.lean ====
section
/-! DEFINITION. What an implementation fixes and the spec leaves open: free values, none with a body. -/

namespace Sys2Proof

/-- At a link DOWN during a commit four things happen: the engine ends the commit (E: the entry becomes FAILED and COMMIT_FAILED
is appended), the mode controller enters HALTED (H: the HALTED record), the outcome report reaches the fence logic, SYNC and the
configuration writer (R), and the notice of HALTED reaches the delayed transaction table and SYNC (N).
E comes before R and H before N (R42, R116); R48, R114 and R133 say that nothing else is ordered.
These are the orders that a state can tell apart. -/
inductive DownOrder where
  | engineReportHaltNotice
  | engineHaltReportNotice
  | engineHaltNoticeReport
  | haltEngineReportNotice
  | haltEngineNoticeReport
deriving DecidableEq, Repr, Inhabited

/-- FREE VALUE: the order taken at the `n`-th link DOWN that cuts a commit short (R48, R114: "Either may be taken first"). Log entry 3. -/
opaque Config.downOrder : Nat → DownOrder

/-- FREE VALUE: the place that the end of a WRITE_CONFIG whose entry is still queued takes among the four things of the `n`-th such link DOWN
(R169 gives it none; R190: "Either may be taken first"). Log entry 23. -/
opaque Config.queuedConfigPlace : Nat → Fin 5

/-- FREE VALUE: the revision in the low four bits of REV (R186; 1.8 says that the manual applies to every revision). Log entry 4. -/
opaque Config.revision : BitVec 4

/-- FREE VALUE: the places that the FENCE_FAULT records of the `n`-th failure report take among each other (R126 gives no order; R190: "Either
may be taken first"): a fence with a lower key comes earlier, the lower index first among equals. Log entry 8. -/
opaque Config.fenceOrder : Nat → DttIndex → Nat

/-- FREE VALUE: the places that the CLIP records of the `n`-th application take among each other (R145 step 3 gives no order; R190: "Either may be
taken first"): a region with a lower key comes earlier, the lower number first among equals. Log entry 39. -/
opaque Config.clipOrder : Nat → RegionIndex → Nat

/-- FREE VALUE: what ATTN_MASK shows at bits 0 and 22 to 31, which name no event code, while a mask is in force (R176 and R198 ignore those
bits at load, and R186 gives one enable for each event code). Log entry 40. -/
opaque Config.attnMaskSpare : BitVec 32 → BitVec 32

/-- FREE VALUE: what bits 3:0 of byte 3 of an event record hold where the record has no slot, for the record with a sequence number (12.3 gives
only the presence bit). Log entry 41. -/
opaque Config.absentSlot : BitVec 16 → Slot

/-- FREE VALUE: what bits 6:4 of byte 3 of an event record hold where the record has no requester, for the record with a sequence number (12.3
gives only the presence bit). Log entry 41. -/
opaque Config.absentRequester : BitVec 16 → Requester

/-- FREE VALUE: bits 3:2 of CMD_STATUS, which 12.4 does not name. Log entry 41. -/
opaque Config.cmdStatusSpare : BitVec 2

/-- FREE VALUE: the reason bits of RESULT where the result is not REFUSED (12.4 codes the six reasons alone). Log entry 41. -/
opaque Config.noReason : BitVec 4

/-- FREE VALUE: the places that the expiries and the poll time of the `n`-th tick take among each other (1.6: events that may fall together are
taken in either order). Log entry 9. -/
opaque Config.tickOrder : Nat → Instr → Nat

end Sys2Proof
end

