-- ==== Sys2Proof/Decode.lean ====
section
/-! DEFINITION. What the table's bits and the management port's CMD codes spell. -/

namespace Sys2Proof

/-- The command that a word spells by the bits of spec/opcode_table.json. The table gives bits for NONE of its 55 rows
(every row's "fields" is empty and none has "fixed"), so no word spells a command. -/
def decodeTableWord (_nbits _w : Nat) : Option Instr := none

/-- The nine commands of the command unit (R188). -/
inductive MgmtCommand where
  | sync | retryEntry | discardEntry | setRegion | freezeRegion | writeConfig | reinit | clearCounters | inspectEntry
deriving DecidableEq, Repr

/-- The code of a command, as CMD takes it (12.4). -/
def MgmtCommand.code : MgmtCommand → Byte
  | .sync => 0x01#8
  | .retryEntry => 0x02#8
  | .discardEntry => 0x03#8
  | .setRegion => 0x04#8
  | .freezeRegion => 0x05#8
  | .writeConfig => 0x06#8
  | .reinit => 0x07#8
  | .clearCounters => 0x08#8
  | .inspectEntry => 0x09#8

/-- The command that a byte written to CMD names, if it names one of the nine (12.4). -/
def decodeCommand (code : Byte) : Option MgmtCommand :=
  match code.toNat with
  | 1 => some .sync
  | 2 => some .retryEntry
  | 3 => some .discardEntry
  | 4 => some .setRegion
  | 5 => some .freezeRegion
  | 6 => some .writeConfig
  | 7 => some .reinit
  | 8 => some .clearCounters
  | 9 => some .inspectEntry
  | _ => none

end Sys2Proof
end

