-- ==== Sys2Proof/Machine/State.lean ====
section
/-! DEFINITION. The state of the bridge: every record that a chapter of the spec gives a block, as plain data, and the state
right after power-on. What the spec derives from other state (the FREE and FAILED counts, the seal orders, PSAFE, ATTN, the
shadow's region fields) is computed in Machine/Flags.lean and Machine/Management.lean, not stored a second time. -/

namespace Sys2Proof.Machine

/-! ### Names the records use -/

/-- The mode of the part (R159). -/
inductive Mode where
  | start | running | drain | drained | halted
deriving DecidableEq, Repr

/-- Why a drain began (R159). -/
inductive DrainCause where
  | pfail | reinit
deriving DecidableEq, Repr

/-- The state of a staging entry (R2). `opened` is the spec's OPEN. -/
inductive EntryState where
  | free | opened | sealed | committing | failed
deriving DecidableEq, Repr

/-- Why a staging entry exists (R1). -/
inductive Origin where
  | host | refresh | config
deriving DecidableEq, Repr

/-- The kinds of fault response (R77). -/
inductive FaultKind where
  | range | format | protect | staging | durability | device
deriving DecidableEq, Repr

/-- The one answer to a request (R77). -/
inductive Response where
  | data (bytes : List Byte)
  | done
  | retry
  | fault (kind : FaultKind)
deriving DecidableEq, Repr

/-- The access a region grants, and the effective mode of a page (R135, R136). -/
inductive AccessMode where
  | readWrite | readOnly | noAccess
deriving DecidableEq, Repr

/-- The causes of an attempt failure, and DEVICE for a commit cut short (R38, R48). -/
inductive CommitCause where
  | eraseFail | programFail | verifyMismatch | timeout | device
deriving DecidableEq, Repr

/-- The kind of a long operation (R55). -/
inductive OpKind where
  | erase | program
deriving DecidableEq, Repr

/-- The phase an ARRAY_TIMEOUT record names (R70). -/
inductive TimeoutPhase where
  | running | suspending
deriving DecidableEq, Repr

/-- The phase a FENCE_FAULT record names (R122, R126). -/
inductive FencePhase where
  | arrival | wait
deriving DecidableEq, Repr

/-- The two copies of the configuration record (R53). -/
inductive Copy where
  | a | b
deriving DecidableEq, Repr

/-- The source of the active configuration: a copy, or DEFAULT (R171). -/
inductive Source where
  | a | b | default
deriving DecidableEq, Repr

/-- The cause of a START (R171). -/
inductive StartKind where
  | powerOn | resetN | reinit
deriving DecidableEq, Repr

/-- Why a copy is BAD, in the order of the checks (R177). -/
inductive BadReason where
  | magic | version | crc | range | order | window | region
deriving DecidableEq, Repr

/-- Why HALTED was entered (R72, R173). -/
inductive HaltCause where
  | linkDown
  | asizeInvalid (code : BitVec 3)
deriving DecidableEq, Repr

/-- The cause a REGION_CHANGED record names (R141, R145). -/
inductive RegionCause where
  | set | held | clip
deriving DecidableEq, Repr

/-- What was recorded in a delayed transaction entry (R96). -/
inductive DttKind where
  | read | fence
deriving DecidableEq, Repr

/-- The answer a READY delayed transaction entry holds (R96). -/
inductive DttResult where
  | data
  | done
  | fault (kind : FaultKind)
deriving DecidableEq, Repr

/-- Why a command is refused (R188, 12.4). -/
inductive RefusalReason where
  | badArgument | wrongState | frozen | stagedInRange | noSlot | mode
deriving DecidableEq, Repr

/-! ### The staging table and the commit engine -/

/-- A staging entry (R1). The seal order is the entry's place in `State.commitQueue` (`sealOrder`, Machine/Flags.lean). -/
structure Entry where
  state : EntryState
  generation : BitVec 8
  page : Option Nat
  origin : Option Origin
  buffer : PageImage
  written : OffsetSet
  valid : OffsetSet
  writers : RequesterSet
  /-- The remaining µs of the idle timer, or none when it is stopped. -/
  idleTimer : Option Nat
  /-- The remaining µs of the open-age timer, or none when it is stopped. -/
  ageTimer : Option Nat
  allocTime : Option Nat
  lastWrite : Option Nat
  attempts : Nat
deriving DecidableEq, Repr

/-- An entry as power-on and RESET_N leave it (R28). The buffer bytes are no one's to see while the valid set is empty. -/
def Entry.initial : Entry where
  state := .free
  generation := 0#8
  page := none
  origin := none
  buffer := Vector.replicate 512 0#8
  written := 0#512
  valid := 0#512
  writers := 0#8
  idleTimer := none
  ageTimer := none
  allocTime := none
  lastWrite := none
  attempts := 0

/-- One use of a staging slot (R5). -/
structure WaitPair where
  slot : Slot
  generation : BitVec 8
deriving DecidableEq, Repr

/-- The stage of the commit engine (R29). -/
inductive Stage where
  | idle | fill | erase | program | verify
deriving DecidableEq, Repr

/-- The step of the commit engine (R29). -/
inductive EngineStep where
  | waiting | issued
deriving DecidableEq, Repr

/-- The record of the commit engine (R29). -/
structure Engine where
  stage : Stage
  slot : Option Slot
  generation : Option (BitVec 8)
  attempt : Option Nat
  step : Option EngineStep
deriving DecidableEq, Repr

/-- The commit engine holding no commit (R51). -/
def Engine.initial : Engine where
  stage := .idle
  slot := none
  generation := none
  attempt := none
  step := none

/-! ### The array link and the memory device -/

/-- The state of the array link (R56). -/
inductive LinkState where
  | idle | reading | opBusy | suspending | suspended | suspendedReading | resetting | down
deriving DecidableEq, Repr

/-- The party whose command is in flight (R55). -/
inductive Owner where
  | commit
  | fetch (index : DttIndex)
  | startup
  | controller
deriving DecidableEq, Repr

/-- The seven commands the bridge issues to the memory device, with their parameters (R52). -/
inductive LinkCommand where
  | read (addr count : Nat)
  | erase (page : Nat)
  | program (page : Nat) (bytes : PageImage)
  | suspend
  | resume
  | status
  | reset
deriving DecidableEq, Repr

/-- The record of the array link controller (R55), and what R52, R54 and R70 imply beside it. -/
structure Link where
  state : LinkState
  owner : Option Owner
  opKind : Option OpKind
  opPage : Option Nat
  suspensionCount : Option Nat
  /-- The running time of the operation in µs, 0 to 255,000. It counts up to its limit in OP_BUSY and SUSPENDING. -/
  opTimer : Option Nat
  /-- The MODEL's own field (log entries 15, 33): the running time exceeds the limit (R68), which `opTimer` in its range of R55 cannot show. -/
  opExceeded : Bool
  suspendWait : Option Nat
  resetWait : Option Nat
  fetchesThisSuspension : Option Nat
  fetchStreak : Nat
  /-- The transaction in flight: at most one (R52). -/
  inFlight : Option LinkCommand
  /-- The µs until the next poll is due, or none where no poll is due (R54). -/
  pollTimer : Option Nat
  /-- A poll time fell while a STATUS was in flight; it is taken when that ends (R54). -/
  pollOwed : Bool
  /-- A timeout has been taken while a transaction was in flight; RESET follows that transaction (R68, R70). -/
  resetOwed : Bool
deriving DecidableEq, Repr

/-- The array link as power-on and RESET_N leave it (R74). -/
def Link.initial : Link where
  state := .idle
  owner := none
  opKind := none
  opPage := none
  suspensionCount := none
  opTimer := none
  opExceeded := false
  suspendWait := none
  resetWait := none
  fetchesThisSuspension := none
  fetchStreak := 0
  inFlight := none
  pollTimer := none
  pollOwed := false
  resetOwed := false

/-- What the bridge's commands have left in one page of the memory device (R52): erased, the 512 bytes programmed, or
content that the spec calls undefined. -/
inductive PageContent where
  | erased
  | image (bytes : PageImage)
  | undefined
deriving DecidableEq, Repr

/-! ### The delayed transaction table and SYNC -/

/-- The state of a delayed transaction entry (R98). -/
inductive DttState where
  | free | waiting | fetching | ready
deriving DecidableEq, Repr

/-- A delayed transaction entry (R96). -/
structure DttEntry where
  state : DttState
  kind : Option DttKind
  requester : Option Requester
  address : Option Nat
  length : Option Nat
  data : Option (List Byte)
  result : Option DttResult
  waitSet : Option (List WaitPair)
  arrival : Option Nat
  /-- The remaining µs of the discard timer, or none when it is stopped. -/
  discard : Option Nat
deriving DecidableEq, Repr

/-- A FREE delayed transaction entry: every field none (R98). -/
def DttEntry.initial : DttEntry where
  state := .free
  kind := none
  requester := none
  address := none
  length := none
  data := none
  result := none
  waitSet := none
  arrival := none
  discard := none

/-- The SYNC record (R130): its state, its wait set, which is none in IDLE, and its failed count, 0 to 16. In WAITING the count is of the entries that have failed while the
SYNC waited; in IDLE it is of the FAILED entries that the last acceptance found, and 0 after a SYNC that waited and after the resets (R132, R134; log entry 44). -/
inductive SyncRecord where
  | idle (failedCount : Nat)
  | waiting (waitSet : List WaitPair) (failedCount : Nat)
deriving DecidableEq, Repr

/-! ### Protection and refresh -/

/-- A region descriptor (R135). -/
structure Region where
  enabled : Bool
  first : Nat
  last : Nat
  mode : AccessMode
  frozen : Bool
deriving DecidableEq, Repr

/-- The default descriptor (R135). -/
def Region.initial : Region where
  enabled := false
  first := 0
  last := 0
  mode := .readWrite
  frozen := false

/-- A refresh record (R148). -/
structure RefreshRecord where
  count : Nat
  cursor : Fin 64
  pending : Bool
deriving DecidableEq, Repr

/-- A cleared refresh record (R158). -/
def RefreshRecord.initial : RefreshRecord where
  count := 0
  cursor := 0
  pending := false

/-- The refresh table: one record for each window sector, and the scan pointer (R148). -/
structure Refresh where
  records : List RefreshRecord
  scan : Nat
deriving DecidableEq, Repr

/-! ### The configuration -/

/-- The active configuration: the parameter values in force and the ATTN mask (R176). -/
structure Params where
  windowPages : Nat
  idleSeal : Nat
  maxOpen : Nat
  discardTime : Nat
  eraseTimeout : Nat
  programTimeout : Nat
  commitTries : Nat
  suspendMax : Nat
  readStreak : Nat
  refreshInterval : Nat
  elide : Bool
  verify : Bool
  attnMask : BitVec 32
deriving DecidableEq, Repr

/-- The fields of a configuration record before its region descriptors, as raw as the record carries them (12.2):
a shadow field may hold any value (R181). -/
structure RecordFields where
  magic : BitVec 32
  version : Byte
  elide : Byte
  verify : Byte
  commitTries : Byte
  sequence : BitVec 32
  windowPages : BitVec 16
  idleSeal : BitVec 16
  maxOpen : BitVec 16
  discardTime : BitVec 16
  eraseTimeout : Byte
  programTimeout : Byte
  suspendMax : Byte
  readStreak : Byte
  refreshInterval : BitVec 16
  attnMask : BitVec 32
deriving DecidableEq, Repr

/-- A region descriptor as the record carries it (12.2). -/
structure RawRegion where
  first : BitVec 16
  last : BitVec 16
  mode : Byte
  flags : Byte
deriving DecidableEq, Repr

/-- A whole configuration record (12.2). -/
structure ConfigRecord where
  fields : RecordFields
  regions : Vector RawRegion 8
  crc : BitVec 32
deriving DecidableEq, Repr

/-- The configuration shadow (R181). Its region descriptors are the live ones at every event (R146), so they are not held here. -/
structure Shadow where
  fields : RecordFields
  crc : BitVec 32
deriving DecidableEq, Repr

/-- The verdict on a copy: VALID, with the record that was read, whose sequence field is the copy's; or BAD, with the reason (R171). -/
inductive Verdict where
  | valid (record : ConfigRecord)
  | bad (reason : BadReason)
deriving DecidableEq, Repr

/-- The phase of the start-up sequencer (R171). -/
inductive Phase where
  | idle | size | deviceReset | readA | readB | apply
deriving DecidableEq, Repr

/-- The record of the start-up sequencer (R171). -/
structure Sequencer where
  phase : Phase
  startKind : Option StartKind
  deviceSize : Option Nat
  verdictA : Option Verdict
  verdictB : Option Verdict
  loadedCopy : Option Source
  loadedSequence : Option (BitVec 32)
  writeTarget : Option Copy
  /-- In phase APPLY: the application has been taken, and the entry to RUNNING is next (R179). -/
  applied : Bool
deriving DecidableEq, Repr

/-- The sequencer outside START, with nothing loaded yet. -/
def Sequencer.initial : Sequencer where
  phase := .idle
  startKind := none
  deviceSize := none
  verdictA := none
  verdictB := none
  loadedCopy := none
  loadedSequence := none
  writeTarget := none
  applied := false

/-! ### The management port -/

/-- The result of a command (R187). -/
inductive CmdResult where
  | none | busy | done
  | refused (reason : RefusalReason)
  | failed
deriving DecidableEq, Repr

/-- The record of the command unit (R187). -/
structure CommandUnit where
  busy : Bool
  last : Option MgmtCommand
  result : CmdResult
  detail : Nat
  overrun : Bool
deriving DecidableEq, Repr

/-- The command unit after power-on and RESET_N (R196). -/
def CommandUnit.initial : CommandUnit where
  busy := false
  last := none
  result := .none
  detail := 0
  overrun := false

/-- What an event record says: its code, and the contents of its detail field (12.3). -/
inductive Event where
  | writeFault (kind : FaultKind) (found : Option AccessMode)
  | readFault (kind : FaultKind) (found : Option AccessMode)
  | commitRetry (cause : CommitCause) (attempts : Nat)
  | commitFailed (cause : CommitCause) (attempts : Nat)
  | fenceFault (kind : FaultKind) (phase : FencePhase)
  | readDiscarded (kind : DttKind) (result : DttResult)
  | arrayTimeout (op : OpKind) (phase : TimeoutPhase)
  | deviceReset
  | halted (cause : HaltCause)
  | configCopyBad (copy : Copy) (reason : BadReason)
  | configDefaults (reasonA reasonB : BadReason)
  | configWritten (copy : Copy) (sequence : BitVec 32)
  | configWriteFailed (copy : Copy) (cause : CommitCause)
  | drainBegin (cause : DrainCause)
  | drainEnd (failedCount : Nat) (cause : DrainCause)
  /-- `toStart` is the destination: START when true, RUNNING when false. -/
  | drainRecovered (toStart : Bool)
  | entryDiscarded (generation : BitVec 8)
  | regionChanged (cause : RegionCause) (region : RegionIndex) (enabled : Bool) (mode : AccessMode)
  | regionFrozen (region : RegionIndex)
  | refreshDropped (count : Nat)
  | startComplete (source : Source) (kind : StartKind) (sequence : BitVec 32)
deriving DecidableEq, Repr

/-- A record of the event queue (R190). -/
structure EventRecord where
  sequence : BitVec 16
  event : Event
  page : Option Nat
  slot : Option Slot
  requester : Option Requester
deriving DecidableEq, Repr

/-- The event queue, oldest record first, with its next sequence number, its lost count and the EVDATA byte cursor (R190, R191). -/
structure EventQueue where
  records : List EventRecord
  nextSequence : BitVec 16
  lost : BitVec 8
  cursor : Fin 8
deriving DecidableEq, Repr

/-- The event queue after power-on (R196). -/
def EventQueue.initial : EventQueue where
  records := []
  nextSequence := 0#16
  lost := 0#8
  cursor := 0

/-- The four counters (R193) and the holding byte of each (R186). -/
structure Counters where
  stagingRetries : BitVec 16
  elidedCommits : BitVec 16
  suspensions : BitVec 16
  unrecordedRetries : BitVec 16
  holdStagingRetries : Byte
  holdElidedCommits : Byte
  holdSuspensions : Byte
  holdUnrecordedRetries : Byte
deriving DecidableEq, Repr

/-- The counters after power-on and RESET_N (R196). -/
def Counters.initial : Counters where
  stagingRetries := 0#16
  elidedCommits := 0#16
  suspensions := 0#16
  unrecordedRetries := 0#16
  holdStagingRetries := 0#8
  holdElidedCommits := 0#8
  holdSuspensions := 0#8
  holdUnrecordedRetries := 0#8

/-- The snapshot in the inspection window (R194). -/
structure Snapshot where
  slot : Slot
  line : Fin 8
  state : EntryState
  generation : BitVec 8
  origin : Option Origin
  page : Option Nat
  writtenCount : Nat
  validCount : Nat
  writers : RequesterSet
  attempts : Nat
  sealOrder : Option Nat
  writtenMap : BitVec 64
  validMap : BitVec 64
  data : List Byte
deriving DecidableEq, Repr

/-- What the management port has answered to the last bus event (R185): nothing yet, no acknowledge, an acknowledge, or a byte. -/
inductive PortReply where
  | none | nack | ack
  | byte (value : Byte)
deriving DecidableEq, Repr

/-- The management port's own registers (R185, R186, R194, R195). -/
structure Port where
  /-- MADDR[1:0] as sampled at the entry to START, or none before the sample (R185). -/
  maddr : Option (BitVec 2)
  pointer : BitVec 8
  args : Vector (BitVec 16) 4
  cfgIndex : Fin 82
  window : Option Snapshot
  reply : PortReply
deriving DecidableEq, Repr

/-- The port after power-on and RESET_N, its address not sampled yet (R196). -/
def Port.initial : Port where
  maddr := none
  pointer := 0#8
  args := Vector.replicate 4 0#16
  cfgIndex := 0
  window := none
  reply := .none

/-- The mode controller (R159), with the REINIT claim that the command unit has handed on and that is not taken yet (R164). -/
structure ModeController where
  mode : Mode
  drainCause : Option DrainCause
  reinitPending : Bool
  pfail : Bool
  reinitClaimed : Bool
deriving DecidableEq, Repr

/-! ### The whole state -/

/-- The state of the block. -/
structure State where
  /-- The commands that wait, first in, first out. -/
  pending : List Instr
  /-- The count of 1 µs ticks (1.6). -/
  now : Nat
  /-- RESET_N is asserted. -/
  resetAsserted : Bool
  control : ModeController
  entries : Vector Entry 16
  /-- The commit queue, head first (R13). -/
  commitQueue : List Slot
  engine : Engine
  link : Link
  /-- The pages of the memory device that the bridge's commands have changed, page numbers rising (R52). A page that is not
  listed holds what it held before. -/
  array : List (Nat × PageContent)
  dtt : Vector DttEntry 8
  syncRecord : SyncRecord
  regions : Vector Region 8
  refresh : Refresh
  params : Params
  shadow : Shadow
  sequencer : Sequencer
  command : CommandUnit
  events : EventQueue
  counters : Counters
  port : Port
  /-- The response to the last request (R75). -/
  response : Option Response
  /-- The MODEL's own field: how many free choices have been taken so far (Config.downOrder). -/
  freeIndex : Nat
deriving DecidableEq, Repr

/-- Why the machine stops with a fault. No meaning faults: the spec gives every command an effect in every state, so the type is empty. -/
inductive Fault where
deriving DecidableEq, Repr

/-- Why a command has no meaning. -/
inductive Refusal where
  /-- The command has no meaning yet; exec's arm answers with it, and no arm does now. Safe: the machine stops. -/
  | notModelled (mnemonic : String)
deriving DecidableEq, Repr

/-! ### The state after power-on -/

/-- The default ATTN mask (R176): WRITE_FAULT 1, READ_FAULT 2, COMMIT_RETRY 3, COMMIT_FAILED 4, FENCE_FAULT 5, ARRAY_TIMEOUT 7,
DEVICE_RESET 8, HALTED 9, CONFIG_COPY_BAD 10, CONFIG_DEFAULTS 11 and CONFIG_WRITE_FAILED 13 are enabled. -/
def defaultAttnMask : BitVec 32 := 0x00002FBE#32

/-- The default parameters for a device of `devicePages` pages (R176). -/
def Params.default (devicePages : Nat) : Params where
  windowPages := devicePages - 64
  idleSeal := 20
  maxOpen := 500
  discardTime := 2000
  eraseTimeout := 50
  programTimeout := 10
  commitTries := 2
  suspendMax := 4
  readStreak := 4
  refreshInterval := 1024
  elide := true
  verify := true
  attnMask := defaultAttnMask

/-- The magic value: the bytes 5Ah, 4Bh, 37h, 31h, lowest offset first (12.2). -/
def magicValue : BitVec 32 := 0x31374B5A#32

/-- The default record fields for a device of `devicePages` pages (R176). -/
def RecordFields.default (devicePages : Nat) : RecordFields where
  magic := magicValue
  version := 1#8
  elide := 1#8
  verify := 1#8
  commitTries := 2#8
  sequence := 0#32
  windowPages := BitVec.ofNat 16 (devicePages - 64)
  idleSeal := 20#16
  maxOpen := 500#16
  discardTime := 2000#16
  eraseTimeout := 50#8
  programTimeout := 10#8
  suspendMax := 4#8
  readStreak := 4#8
  refreshInterval := 1024#16
  attnMask := defaultAttnMask

/-- DESIGN CHOICE (unsafe, log entry 5): before the first application R81 gives the largest window and R192 the default ATTN mask; the
other parameters in force are the defaults of R176 too. -/
def Params.beforeApplication : Params := Params.default 32768

/-- DESIGN CHOICE (unsafe, log entry 6): before the first application the shadow holds the default fields for the largest device; its CRC field is 0. -/
def Shadow.beforeApplication : Shadow where
  fields := RecordFields.default 32768
  crc := 0#32

/-- The machine right after power-on (R28, R51, R74, R119, R134, R144, R158, R170, R184, R196): mode START of kind POWER_ON, phase SIZE.
DESIGN CHOICE (unsafe, log entry 7): PFAIL is deasserted and MADDR reads 0 at that moment; the command POWER_ON takes both levels as operands. -/
def State.reset : State where
  pending := []
  now := 0
  resetAsserted := false
  control := { mode := .start, drainCause := none, reinitPending := false, pfail := false, reinitClaimed := false }
  entries := Vector.replicate 16 Entry.initial
  commitQueue := []
  engine := Engine.initial
  link := Link.initial
  array := []
  dtt := Vector.replicate 8 DttEntry.initial
  syncRecord := .idle 0
  regions := Vector.replicate 8 Region.initial
  refresh := { records := [], scan := 0 }
  params := Params.beforeApplication
  shadow := Shadow.beforeApplication
  sequencer := { Sequencer.initial with phase := .size, startKind := some .powerOn }
  command := CommandUnit.initial
  events := EventQueue.initial
  counters := Counters.initial
  port := { Port.initial with maddr := some 0#2 }
  response := none
  freeIndex := 0

end Sys2Proof.Machine
end

