-- ==== Sys2Proof/Machine/Ops.lean ====
section
/-! DEFINITION. The named updates that every block's operations are written with: an entry of a table, the event queue, the
response, the counters, a transaction of the array link, and the pages of the memory device. -/

namespace Sys2Proof.Machine

/-! ### Tables -/

/-- Replace one staging entry. -/
def State.setEntry (s : State) (i : Slot) (e : Entry) : State := { s with entries := s.entries.set i.val e i.isLt }

/-- Replace one delayed transaction entry. -/
def State.setDtt (s : State) (i : DttIndex) (d : DttEntry) : State := { s with dtt := s.dtt.set i.val d i.isLt }

/-- Replace one region descriptor. -/
def State.setRegion (s : State) (n : RegionIndex) (r : Region) : State := { s with regions := s.regions.set n.val r n.isLt }

/-- Replace the record of the array link controller. -/
def State.setLink (s : State) (l : Link) : State := { s with link := l }

/-- Replace the record of the commit engine. -/
def State.setEngine (s : State) (e : Engine) : State := { s with engine := e }

/-- Replace the record of the start-up sequencer. -/
def State.setSequencer (s : State) (q : Sequencer) : State := { s with sequencer := q }

/-- Replace the record of the command unit. -/
def State.setCommand (s : State) (c : CommandUnit) : State := { s with command := c }

/-- Replace the record of the mode controller. -/
def State.setControl (s : State) (m : ModeController) : State := { s with control := m }

/-- Replace the registers of the management port. -/
def State.setPort (s : State) (p : Port) : State := { s with port := p }

/-- Replace the event queue. -/
def State.setEvents (s : State) (q : EventQueue) : State := { s with events := q }

/-- Replace the counters. -/
def State.setCounters (s : State) (c : Counters) : State := { s with counters := c }

/-- Replace the refresh table. -/
def State.setRefresh (s : State) (r : Refresh) : State := { s with refresh := r }

/-- Replace the SYNC record. -/
def State.setSync (s : State) (r : SyncRecord) : State := { s with syncRecord := r }

/-- Replace the commit queue. -/
def State.setQueue (s : State) (q : List Slot) : State := { s with commitQueue := q }

/-- The one response to a request (R75). -/
def State.respond (s : State) (r : Response) : State := { s with response := some r }

/-- One more free choice has been taken. -/
def State.spendFree (s : State) : State := { s with freeIndex := s.freeIndex + 1 }

/-- A list in rising order of a key, equals in the order they had. -/
def arrange {α : Type} (key : α → Nat) (l : List α) : List α := l.insertionSort fun a b => key a ≤ key b

/-! ### The event queue -/

/-- One append at the event queue (R190): with room the record takes the next sequence number at the tail; a full queue drops it. -/
def EventQueue.append (q : EventQueue) (ev : Event) (page : Option Nat) (slot : Option Slot) (req : Option Requester) : EventQueue :=
  if q.records.length < 32 then
    { q with records := q.records ++ [⟨q.nextSequence, ev, page, slot, req⟩], nextSequence := q.nextSequence + 1#16 }
  else
    { q with lost := satInc8 q.lost }

/-- Append an event record (R190). -/
def State.appendEvent (s : State) (ev : Event) (page : Option Nat) (slot : Option Slot) (req : Option Requester) : State :=
  s.setEvents (s.events.append ev page slot req)

/-! ### Counters (R193) -/

/-- STAGING_RETRIES + 1 (R86). -/
def State.countStagingRetry (s : State) : State :=
  s.setCounters { s.counters with stagingRetries := satInc16 s.counters.stagingRetries }

/-- ELIDED_COMMITS + 1 (R34). -/
def State.countElided (s : State) : State :=
  s.setCounters { s.counters with elidedCommits := satInc16 s.counters.elidedCommits }

/-- SUSPENSIONS + 1 (R65). -/
def State.countSuspension (s : State) : State :=
  s.setCounters { s.counters with suspensions := satInc16 s.counters.suspensions }

/-- UNRECORDED_RETRIES + 1 (R104). -/
def State.countUnrecorded (s : State) : State :=
  s.setCounters { s.counters with unrecordedRetries := satInc16 s.counters.unrecordedRetries }

/-! ### Transactions of the array link (R52) -/

/-- No transaction is in flight. -/
def Link.quiet (l : Link) : Bool := l.inFlight == none

/-- Issue a command for a party. -/
def Link.issue (l : Link) (owner : Owner) (c : LinkCommand) : Link := { l with owner := some owner, inFlight := some c }

/-! ### The pages of the memory device (R52) -/

/-- Set the content of one page in a list whose page numbers rise. -/
def insertPage (page : Nat) (c : PageContent) : List (Nat × PageContent) → List (Nat × PageContent)
  | [] => [(page, c)]
  | (q, d) :: rest =>
    if page < q then (page, c) :: (q, d) :: rest
    else if page = q then (page, c) :: rest
    else (q, d) :: insertPage page c rest

/-- What the bridge's commands have left in a page; none where they have not touched it. -/
def pageContent (page : Nat) : List (Nat × PageContent) → Option PageContent
  | [] => none
  | (q, d) :: rest => if page = q then some d else pageContent page rest

/-- The page numbers rise: the canonical form of the list. -/
abbrev pagesRise (l : List (Nat × PageContent)) : Prop := (l.map Prod.fst).Pairwise (· < ·)

/-- Set the content of a page of the memory device. -/
def State.setPage (s : State) (page : Nat) (c : PageContent) : State := { s with array := insertPage page c s.array }

/-- The content of the page under the operation in progress, when there is one. -/
def State.setOpPage (s : State) (c : PageContent) : State :=
  match s.link.opPage with
  | some p => s.setPage p c
  | none => s

/-! ### Outcomes -/

/-- Every event of the bridge leaves a next state. -/
abbrev Answer := Host.Outcome State Fault Refusal

end Sys2Proof.Machine
end

