-- ==== Sys2Proof/Machine/Operands.lean ====
section
/-! DEFINITION. The fields of a request and the bytes and offsets they name (R76, R80, R53), and the arguments of a command. -/

namespace Sys2Proof.Machine

/-! ### Request fields -/

/-- The page of an address (1.5: the address divided by 512). -/
def pageOf (addr : Nat) : Nat := addr / 512

/-- The offset of an address within its page. -/
def offsetOf (addr : Nat) : Nat := addr % 512

/-- The format check passes (R80): 1 to 64 bytes that do not cross a line boundary. -/
def formatOk (addr len : Nat) : Bool := 0 < len && len ≤ 64 && addr % 64 + len ≤ 64

/-- The range check passes (R81): the address lies below the window limit. -/
def State.rangeOk (s : State) (addr : Nat) : Bool := addr < s.params.windowPages * 512

/-! ### Page images and offset sets -/

/-- The byte of a page image at an offset; 0 beyond the page. -/
def imageByte (p : PageImage) (o : Nat) : Byte := if h : o < 512 then p[o] else 0#8

/-- The offsets `off` to `off + len - 1` of a page. -/
def runSet (off len : Nat) : OffsetSet := (wholePage >>> (512 - len)) <<< off

/-- A page image with the bytes of `data` placed from offset `off` on (R8). -/
def writeRun (p : PageImage) (off : Nat) (data : List Byte) : PageImage :=
  Vector.ofFn fun o => if off ≤ o.val ∧ o.val < off + data.length then data.getD (o.val - off) 0#8 else p[o]

/-- The bytes of `kept` at the offsets of `keep`, and those of `other` elsewhere (R21, R32). -/
def mergeImage (keep : OffsetSet) (kept other : PageImage) : PageImage :=
  Vector.ofFn fun o => if keep.getLsbD o.val then kept[o] else other[o]

/-- The page image that 512 bytes make. -/
def imageOf (bytes : List Byte) : PageImage := Vector.ofFn fun o => bytes.getD o.val 0#8

/-- The number of members of an offset set. -/
def setSize (w : OffsetSet) : Nat := (List.range 512).countP fun o => w.getLsbD o

/-- A requester as a one-member set. -/
def requesterBit (r : Requester) : RequesterSet := 1#8 <<< r.val

/-! ### The arguments of a command (R187) -/

/-- ARGn as a number. -/
def State.arg (s : State) (n : Fin 4) : Nat := s.port.args[n].toNat

/-- ARG0 as a slot number, where it is one. -/
def State.argSlot (s : State) : Option Slot := if h : s.arg 0 < 16 then some ⟨s.arg 0, h⟩ else none

/-- ARG0 as a region number, where it is one. -/
def State.argRegion (s : State) : Option RegionIndex := if h : s.arg 0 < 8 then some ⟨s.arg 0, h⟩ else none

/-- ARG1 as a line number, where it is one. -/
def State.argLine (s : State) : Option (Fin 8) := if h : s.arg 1 < 8 then some ⟨s.arg 1, h⟩ else none

/-- The access mode a code names (12.3); 3 names none. -/
def accessModeOfCode (code : Nat) : Option AccessMode :=
  match code with
  | 0 => some .readWrite
  | 1 => some .readOnly
  | 2 => some .noAccess
  | _ => none

/-- The descriptor that the arguments of SET_REGION give (12.4): ARG1 the first page, ARG2 the last page, ARG3 with bits 1:0 the mode
and bit 8 the enable; none where the mode code names no mode. The frozen flag of a new descriptor is clear (R141). -/
def State.argDescriptor (s : State) : Option Region :=
  (accessModeOfCode (s.arg 3 % 4)).map fun m =>
    { enabled := (s.arg 3).testBit 8, first := s.arg 1, last := s.arg 2, mode := m, frozen := false }

end Sys2Proof.Machine
end

