-- ==== Sys2Proof/Machine/Flags.lean ====
section
/-! DEFINITION. The status values and lines that the spec defines from other state: the counts, the seal order, PSAFE, ATTN, the codes
of records and registers. -/

namespace Sys2Proof.Machine

/-! ### Counts, seal order, lines -/

/-- The slots whose entry meets a test, in slot order. -/
def State.slotsWhere (s : State) (p : Entry → Bool) : List Slot := (List.finRange 16).filter fun i => p s.entries[i]

/-- The FREE count (R27). -/
def State.freeCount (s : State) : Nat := (s.slotsWhere fun e => e.state == .free).length

/-- The FAILED count (R27). -/
def State.failedCount (s : State) : Nat := (s.slotsWhere fun e => e.state == .failed).length

/-- The seal order of a slot: its position in the commit queue, the head being 0 (R1, R13). -/
def State.sealOrder (s : State) (i : Slot) : Option Nat := s.commitQueue.findIdx? fun j => j == i

/-- The PSAFE line (R168). -/
def State.psafe (s : State) : Bool := s.control.mode == .drained

/-- The code number of an event (12.3). -/
def Event.code : Event → Nat
  | .writeFault _ _ => 1
  | .readFault _ _ => 2
  | .commitRetry _ _ => 3
  | .commitFailed _ _ => 4
  | .fenceFault _ _ => 5
  | .readDiscarded _ _ => 6
  | .arrayTimeout _ _ => 7
  | .deviceReset => 8
  | .halted _ => 9
  | .configCopyBad _ _ => 10
  | .configDefaults _ _ => 11
  | .configWritten _ _ => 12
  | .configWriteFailed _ _ => 13
  | .drainBegin _ => 14
  | .drainEnd _ _ => 15
  | .drainRecovered _ => 16
  | .entryDiscarded _ => 17
  | .regionChanged _ _ _ _ => 18
  | .regionFrozen _ => 19
  | .refreshDropped _ => 20
  | .startComplete _ _ _ => 21

/-- The ATTN line (R192): some queued record's code is enabled in the ATTN mask of the active configuration. -/
def State.attn (s : State) : Bool := s.events.records.any fun r => s.params.attnMask.getLsbD r.event.code

/-! ### Codes (12.1, 12.3, 12.4) -/

/-- The fault kind codes (12.1). -/
def FaultKind.code : FaultKind → Nat
  | .range => 1
  | .format => 2
  | .protect => 3
  | .staging => 4
  | .durability => 5
  | .device => 6

/-- The response kind codes (12.1). -/
def Response.kindCode : Response → Nat
  | .data _ => 0
  | .done => 1
  | .retry => 2
  | .fault _ => 3

/-- The access mode codes (12.3). -/
def AccessMode.code : AccessMode → Nat
  | .readWrite => 0
  | .readOnly => 1
  | .noAccess => 2

/-- The commit cause codes (12.3). -/
def CommitCause.code : CommitCause → Nat
  | .eraseFail => 1
  | .programFail => 2
  | .verifyMismatch => 3
  | .timeout => 4
  | .device => 5

/-- The validation reason codes (12.3). -/
def BadReason.code : BadReason → Nat
  | .magic => 1
  | .version => 2
  | .crc => 3
  | .range => 4
  | .order => 5
  | .window => 6
  | .region => 7

/-- The copy codes (12.3). -/
def Copy.code : Copy → Nat
  | .a => 0
  | .b => 1

/-- The source codes of START_COMPLETE (12.3). -/
def Source.code : Source → Nat
  | .a => 0
  | .b => 1
  | .default => 2

/-- The start kind codes of START_COMPLETE (12.3). -/
def StartKind.code : StartKind → Nat
  | .powerOn => 0
  | .resetN => 1
  | .reinit => 2

/-- The operation codes of ARRAY_TIMEOUT (12.3). -/
def OpKind.code : OpKind → Nat
  | .erase => 0
  | .program => 1

/-- The phase codes of ARRAY_TIMEOUT (12.3). -/
def TimeoutPhase.code : TimeoutPhase → Nat
  | .running => 0
  | .suspending => 1

/-- The phase codes of FENCE_FAULT (12.3). -/
def FencePhase.code : FencePhase → Nat
  | .arrival => 0
  | .wait => 1

/-- The cause codes of DRAIN_BEGIN and DRAIN_END (12.3). -/
def DrainCause.code : DrainCause → Nat
  | .pfail => 0
  | .reinit => 1

/-- The cause codes of REGION_CHANGED (12.3). -/
def RegionCause.code : RegionCause → Nat
  | .set => 1
  | .held => 2
  | .clip => 3

/-- The kind codes of READ_DISCARDED (12.3). -/
def DttKind.code : DttKind → Nat
  | .read => 0
  | .fence => 1

/-- The result bits of READ_DISCARDED (12.3): bits 2:1 the result, bits 6:4 the fault kind. -/
def DttResult.bits : DttResult → Nat
  | .data => 0
  | .done => 2
  | .fault k => 4 + 16 * k.code

/-- The cause bits of HALTED (12.3): bits 1:0 the cause, bits 6:4 the ASIZE code sampled. -/
def HaltCause.bits : HaltCause → Nat
  | .linkDown => 1
  | .asizeInvalid code => 2 + 16 * code.toNat

/-- The refusal reason codes of RESULT (12.4). -/
def RefusalReason.code : RefusalReason → Nat
  | .badArgument => 1
  | .wrongState => 2
  | .frozen => 3
  | .stagedInRange => 4
  | .noSlot => 5
  | .mode => 6

/-- The result codes of RESULT (12.4). -/
def CmdResult.code : CmdResult → Nat
  | .none => 0
  | .busy => 1
  | .done => 2
  | .refused _ => 3
  | .failed => 4

/-- The RESULT register (12.4): bits 3:0 the result, bits 7:4 the reason. With no reason those bits are a free value (log entry 41). -/
def CmdResult.bits (r : CmdResult) : Nat :=
  r.code + 16 * match r with | .refused reason => reason.code | _ => Config.noReason.toNat

/-- The mode codes of MODE (12.4). -/
def Mode.code : Mode → Nat
  | .start => 0
  | .running => 1
  | .drain => 2
  | .drained => 3
  | .halted => 4

/-- The staging states of the inspection window (12.4); 0 is no snapshot. -/
def EntryState.code : EntryState → Nat
  | .free => 1
  | .opened => 2
  | .sealed => 3
  | .committing => 4
  | .failed => 5

/-- The origins of the inspection window (12.4); 0 is none. -/
def Origin.code : Origin → Nat
  | .host => 1
  | .refresh => 2
  | .config => 3

/-- The detail field of a record (12.3). Detail bits not named are 0, and so are those of a field that the record does not have: the mode beside PROTECT, the
fault kind of DATA and DONE, the ASIZE code at LINK_DOWN (DEDUCED, log entry 41). -/
def Event.detail : Event → BitVec 16
  | .writeFault k found | .readFault k found => BitVec.ofNat 16 (k.code + 16 * ((found.map AccessMode.code).getD 0))
  | .commitRetry c n | .commitFailed c n => BitVec.ofNat 16 (c.code + 16 * (n % 8))
  | .fenceFault k p => BitVec.ofNat 16 (k.code + 16 * p.code)
  | .readDiscarded k r => BitVec.ofNat 16 (k.code + r.bits)
  | .arrayTimeout op p => BitVec.ofNat 16 (op.code + 2 * p.code)
  | .deviceReset => 1#16
  | .halted c => BitVec.ofNat 16 c.bits
  | .configCopyBad c r => BitVec.ofNat 16 (c.code + 16 * r.code)
  | .configDefaults a b => BitVec.ofNat 16 (a.code + 16 * b.code)
  | .configWritten c q => BitVec.ofNat 16 (32768 * c.code + q.toNat % 32768)
  | .configWriteFailed c k => BitVec.ofNat 16 (c.code + 16 * k.code)
  | .drainBegin c => BitVec.ofNat 16 c.code
  | .drainEnd n c => BitVec.ofNat 16 (n % 32 + 256 * c.code)
  | .drainRecovered toStart => if toStart then 1#16 else 0#16
  | .entryDiscarded g => BitVec.ofNat 16 g.toNat
  | .regionChanged c n en m => BitVec.ofNat 16 (n.val + 16 * c.code + (if en then 64 else 0) + 256 * m.code)
  | .regionFrozen n => BitVec.ofNat 16 n.val
  | .refreshDropped n => BitVec.ofNat 16 n
  | .startComplete src k q => BitVec.ofNat 16 (src.code + 4 * k.code + 16 * (q.toNat % 4096))

/-- Byte `i` of a record, as EVDATA returns it (12.3). What byte 3 holds for an absent slot or requester is a free value (log entry 41). -/
def EventRecord.byte (r : EventRecord) (i : Fin 8) : Byte :=
  let page : BitVec 16 := match r.page with | some p => BitVec.ofNat 16 p | none => 0xFFFF#16
  match i with
  | 0 => r.sequence.extractLsb' 0 8
  | 1 => r.sequence.extractLsb' 8 8
  | 2 => BitVec.ofNat 8 (r.event.code + (if r.requester.isSome then 64 else 0) + (if r.slot.isSome then 128 else 0))
  | 3 => BitVec.ofNat 8 ((r.slot.getD (Config.absentSlot r.sequence)).val + 16 * (r.requester.getD (Config.absentRequester r.sequence)).val)
  | 4 => page.extractLsb' 0 8
  | 5 => page.extractLsb' 8 8
  | 6 => r.event.detail.extractLsb' 0 8
  | 7 => r.event.detail.extractLsb' 8 8

end Sys2Proof.Machine
end

