-- ==== Sys2Proof/Machine/Staging.lean ====
section
/-! DEFINITION. The operations of the staging table (chapter 1): lookups, allocation, absorbing writes, sealing, the take of the
head, the outcome of a commit, coverage, and the entry effects of the recovery commands. -/

namespace Sys2Proof.Machine

/-! ### Which entries -/

/-- An absorbing entry (1.5): OPEN or SEALED. -/
def Entry.absorbing (e : Entry) : Bool := e.state == .opened || e.state == .sealed

/-- A retired entry (1.5): COMMITTING or FAILED. -/
def Entry.retired (e : Entry) : Bool := e.state == .committing || e.state == .failed

/-- The lowest-numbered slot whose entry meets a test. -/
def State.firstSlot (s : State) (p : Entry → Bool) : Option Slot := (List.finRange 16).find? fun i => p s.entries[i]

/-- The lowest-numbered FREE slot (R4). -/
def State.freeSlot (s : State) : Option Slot := s.firstSlot fun e => e.state == .free

/-- The absorbing entry of a page (R3). -/
def State.absorbingSlot (s : State) (page : Nat) : Option Slot := s.firstSlot fun e => e.absorbing && e.page == some page

/-- The retired entry of a page (R3). -/
def State.retiredSlot (s : State) (page : Nat) : Option Slot := s.firstSlot fun e => e.retired && e.page == some page

/-- The FAILED entry of a page: the predecessor that a take absorbs (R21). -/
def State.failedSlot (s : State) (page : Nat) : Option Slot := s.firstSlot fun e => e.state == .failed && e.page == some page

/-- Slots in order of a key, the lower slot number first among equals (R16, R17). -/
def sortSlots (key : Slot → Nat) (l : List Slot) : List Slot :=
  l.insertionSort fun i j => key i < key j ∨ (key i = key j ∧ i ≤ j)

/-! ### Sealing (R14, R17) -/

/-- Sealing moves one OPEN entry to SEALED at the tail of the commit queue; an entry in any other state is left alone (R14). -/
def State.sealSlot (s : State) (i : Slot) : State :=
  if s.entries[i].state = .opened then
    (s.setEntry i { s.entries[i] with state := .sealed, idleTimer := none, ageTimer := none }).setQueue (s.commitQueue ++ [i])
  else s

/-- One event that seals several entries appends them in order of allocation time, the lower slot first among equals (R17). -/
def State.sealSlots (s : State) (l : List Slot) : State :=
  (sortSlots (fun i => s.entries[i].allocTime.getD 0) l).foldl State.sealSlot s

/-- The OPEN entries. -/
def State.openSlots (s : State) : List Slot := s.slotsWhere fun e => e.state == .opened

/-- Under PRESSURE: the OPEN entry with the earliest last-write time, the lower slot first among equals (R16). -/
def State.pressureSlot (s : State) : Option Slot :=
  (sortSlots (fun i => s.entries[i].lastWrite.getD 0) s.openSlots).head?

/-! ### Freeing -/

/-- An entry that becomes FREE keeps its generation (R5) and loses the rest (R22, R28). -/
def Entry.freed (e : Entry) : Entry :=
  { e with state := .free, page := none, origin := none, written := 0#512, valid := 0#512, writers := 0#8,
           idleTimer := none, ageTimer := none, allocTime := none, lastWrite := none, attempts := 0 }

/-- Make an entry FREE. -/
def State.freeEntry (s : State) (i : Slot) : State := s.setEntry i s.entries[i].freed

/-! ### Allocation (R4) -/

/-- The fields that every allocation sets, whatever the origin: the generation advances and wraps from 255 to 0 (R5). -/
def Entry.allocated (e : Entry) (st : EntryState) (page : Nat) (origin : Origin) (now : Nat) : Entry :=
  { e with state := st, generation := e.generation + 1#8, page := some page, origin := some origin,
           written := 0#512, valid := 0#512, writers := 0#8, idleTimer := none, ageTimer := none,
           allocTime := some now, lastWrite := none, attempts := 0 }

/-- Allocation of a SEALED REFRESH entry at the tail of the commit queue (R4, R152). -/
def State.allocRefresh (s : State) (i : Slot) (page : Nat) : State :=
  (s.setEntry i (s.entries[i].allocated .sealed page .refresh s.now)).setQueue (s.commitQueue ++ [i])

/-- Allocation of a SEALED CONFIG entry that holds the whole record image (R4, R182). -/
def State.allocConfig (s : State) (i : Slot) (page : Nat) (image : PageImage) : State :=
  (s.setEntry i { s.entries[i].allocated .sealed page .config s.now with
    buffer := image, written := wholePage, valid := wholePage }).setQueue (s.commitQueue ++ [i])

/-! ### Absorbing writes (R7, R8, R9) -/

/-- What every absorbed write does: its bytes, its offsets in both sets, its requester, the last-write time (R8, R9). -/
def Entry.absorb (e : Entry) (off : Nat) (data : List Byte) (req : Requester) (now : Nat) : Entry :=
  { e with buffer := writeRun e.buffer off data,
           written := e.written ||| runSet off data.length,
           valid := e.valid ||| runSet off data.length,
           writers := e.writers ||| requesterBit req,
           lastWrite := some now }

/-- A write absorbed into an OPEN entry: the idle timer restarts, and a written set that becomes full seals the entry (R8). -/
def State.absorbOpen (s : State) (i : Slot) (off : Nat) (data : List Byte) (req : Requester) : State :=
  let e := { s.entries[i].absorb off data req s.now with idleTimer := some (s.params.idleSeal * 1000) }
  if e.written = wholePage then (s.setEntry i e).sealSlot i else s.setEntry i e

/-- A write absorbed into a SEALED entry (R9). -/
def State.absorbSealed (s : State) (i : Slot) (off : Nat) (data : List Byte) (req : Requester) : State :=
  s.setEntry i (s.entries[i].absorb off data req s.now)

/-- Allocation of a HOST entry, which absorbs the allocating write (R4): OPEN, both timers started. -/
def State.allocHost (s : State) (i : Slot) (page off : Nat) (data : List Byte) (req : Requester) : State :=
  (s.setEntry i { s.entries[i].allocated .opened page .host s.now with ageTimer := some (s.params.maxOpen * 1000) }).absorbOpen
    i off data req

/-- What the staging table answers to a write claim (R7). -/
inductive WriteOutcome where
  | absorbed | pressure | busy | exhausted
deriving DecidableEq, Repr

/-- A write claim is decided by the first case that applies (R7). -/
def State.stageWrite (s : State) (page off : Nat) (data : List Byte) (req : Requester) : WriteOutcome × State :=
  match s.absorbingSlot page with
  | some i =>
    if s.entries[i].state = .opened then (.absorbed, s.absorbOpen i off data req)
    else (.absorbed, s.absorbSealed i off data req)
  | none =>
    match s.freeSlot with
    | some i => (.absorbed, s.allocHost i page off data req)
    | none =>
      match s.pressureSlot with
      | some i => (.pressure, s.sealSlot i)
      | none => if s.failedCount = 16 then (.exhausted, s) else (.busy, s)

/-! ### Coverage (R24) -/

/-- The byte an entry covers at an offset: the buffer byte where the valid set holds the offset. -/
def Entry.covers (e : Entry) (o : Nat) : Option Byte := if e.valid.getLsbD o then some (imageByte e.buffer o) else none

/-- The byte an entry of the table covers; none where there is no such entry. -/
def State.slotCovers (s : State) (i : Option Slot) (o : Nat) : Option Byte :=
  match i with
  | some j => s.entries[j].covers o
  | none => none

/-- The coverage lookup for one offset: the page's absorbing entry first, then its retired entry (R24). -/
def State.coveredByte (s : State) (page o : Nat) : Option Byte :=
  (s.slotCovers (s.absorbingSlot page) o).or (s.slotCovers (s.retiredSlot page) o)

/-- The run is fully covered (R24). -/
def State.fullyCovered (s : State) (page off len : Nat) : Bool :=
  (List.range len).all fun k => (s.coveredByte page (off + k)).isSome

/-- The covered bytes of a fully covered run, in address order (R91). -/
def State.coveredBytes (s : State) (page off len : Nat) : List Byte :=
  (List.range len).map fun k => (s.coveredByte page (off + k)).getD 0#8

/-- Array bytes with every covered byte replaced by its staged value (R109). -/
def State.overlay (s : State) (page off : Nat) (bytes : List Byte) : List Byte :=
  bytes.mapIdx fun k b => (s.coveredByte page (off + k)).getD b

/-! ### The take of the head (R19, R21) -/

/-- The successor `e` with the bytes and writers of its FAILED predecessor `p` (R21). -/
def Entry.absorbPredecessor (e p : Entry) : Entry :=
  { e with buffer := mergeImage e.written e.buffer p.buffer, valid := wholePage, writers := e.writers ||| p.writers }

/-- The FAILED entry, other than slot `i` itself, of the page that slot `i` stages (R21). -/
def State.predecessorOf (s : State) (i : Slot) : Option Slot :=
  match s.entries[i].page with
  | some page => s.failedSlot page
  | none => none

/-- The take of slot `i`, the head, at the staging table: it leaves the queue and becomes COMMITTING with attempts 0 (R19). -/
def State.takeSlot (s : State) (i : Slot) : State :=
  (s.setEntry i { s.entries[i] with state := .committing, attempts := 0 }).setQueue s.commitQueue.tail

/-- The absorption of predecessor `j` into slot `i`, which frees `j` (R21). -/
def State.absorbFailed (s : State) (i j : Slot) : State :=
  (s.setEntry i (s.entries[i].absorbPredecessor s.entries[j])).freeEntry j

/-! ### Leaving a commit (R22) -/

/-- A COMMITTING entry that becomes FAILED keeps its page image with the whole page valid (R22). -/
def State.failEntry (s : State) (i : Slot) : State :=
  s.setEntry i { s.entries[i] with state := .failed, valid := wholePage }

/-! ### The halt and the drops -/

/-- On entry to HALTED the timers of every OPEN entry stop (R12). -/
def State.stopOpenTimers (s : State) : State :=
  { s with entries := s.entries.map fun e => if e.state = .opened then { e with idleTimer := none, ageTimer := none } else e }

/-- A SEALED REFRESH entry with an empty written set: the kind that drain start drops (R155). -/
def Entry.droppable (e : Entry) : Bool := e.state == .sealed && e.origin == some .refresh && e.written == 0#512

end Sys2Proof.Machine
end

