-- ==== Sys2Proof/Machine/Delayed.lean ====
section
/-! DEFINITION. The operations of the delayed transaction table (chapter 5): matching, collection, recording, grants, completion,
patching, discard and the notice of HALTED. -/

namespace Sys2Proof.Machine

/-- The key of a delayed request (R97): requester, address and length of a READ; the requester of a FENCE. -/
inductive DttKey where
  | read (req : Requester) (addr len : Nat)
  | fence (req : Requester)
deriving DecidableEq, Repr

/-- An entry has a key (R97). A FREE entry has none, since its kind is none. -/
def DttEntry.hasKey (d : DttEntry) : DttKey → Bool
  | .read r a n => d.kind == some .read && d.requester == some r && d.address == some a && d.length == some n
  | .fence r => d.kind == some .fence && d.requester == some r

/-- The entry that matches a request (R99). -/
def State.matchDtt (s : State) (k : DttKey) : Option DttIndex :=
  (List.finRange 8).find? fun i => s.dtt[i].state != .free && s.dtt[i].hasKey k

/-- The remaining time a discard timer starts with: DISCARD_TIME µs of the active configuration (R112). -/
def State.discardStart (s : State) : Option Nat := some s.params.discardTime

/-! ### Freeing an entry (R98, R105) -/

/-- The READ entries recorded later than the one that leaves move up by one place (R105). -/
def DttEntry.moveUp (gone : Option Nat) (d : DttEntry) : DttEntry :=
  match gone, d.arrival with
  | some n, some m => if n < m then { d with arrival := some (m - 1) } else d
  | _, _ => d

/-- An entry becomes FREE with every field none, and the arrival numbers above it decrease by one (R100, R102, R113). -/
def State.freeDtt (s : State) (i : DttIndex) : State :=
  { s with dtt := (s.dtt.map (DttEntry.moveUp s.dtt[i].arrival)).set i.val DttEntry.initial i.isLt }

/-! ### Collection (R100, R101) -/

/-- The response that a stored result gives (R100). -/
def DttEntry.answer (d : DttEntry) : Response :=
  match d.result with
  | some .data => .data (d.data.getD [])
  | some .done => .done
  | some (.fault k) => .fault k
  | none => .retry

/-- The table answers a request that matches entry `i`: a READY entry returns its result and becomes FREE; any other answers RETRY. -/
def State.answerMatch (s : State) (i : DttIndex) : State :=
  if s.dtt[i].state = .ready then (s.freeDtt i).respond s.dtt[i].answer else s.respond .retry

/-- A READ refused at the range or protection check frees a matching WAITING or READY entry (R102). -/
def State.refuseReissue (s : State) (req : Requester) (addr len : Nat) : State :=
  match s.matchDtt (.read req addr len) with
  | some i => if s.dtt[i].state = .fetching then s else s.freeDtt i
  | none => s

/-! ### Recording (R103, R104) -/

/-- How many entries a requester holds (R97). -/
def State.heldBy (s : State) (req : Requester) : Nat :=
  ((List.finRange 8).filter fun i => s.dtt[i].state != .free && s.dtt[i].requester == some req).length

/-- How many READ entries are not FREE (R105). -/
def State.readCount (s : State) : Nat :=
  ((List.finRange 8).filter fun i => s.dtt[i].state != .free && s.dtt[i].kind == some .read).length

/-- The entry that a recording claim receives: the lowest FREE one, when the requester holds fewer than two (R103). -/
def State.recordSlot (s : State) (req : Requester) : Option DttIndex :=
  if s.heldBy req < 2 then (List.finRange 8).find? fun i => s.dtt[i].state == .free else none

/-- A READ as it is recorded (R103, R105). -/
def recordedRead (req : Requester) (addr len arrival : Nat) : DttEntry :=
  { DttEntry.initial with state := .waiting, kind := some .read, requester := some req, address := some addr,
                          length := some len, arrival := some arrival }

/-- A FENCE as it is recorded (R103). -/
def recordedFence (req : Requester) (ws : List WaitPair) : DttEntry :=
  { DttEntry.initial with state := .waiting, kind := some .fence, requester := some req, waitSet := some ws }

/-- The table tries to record a READ; the answer is RETRY either way (R103, R104). -/
def State.recordRead (s : State) (req : Requester) (addr len : Nat) : State :=
  match s.recordSlot req with
  | some i => (s.setDtt i (recordedRead req addr len s.readCount)).respond .retry
  | none => s.countUnrecorded.respond .retry

/-! ### Grants and completion (R106 to R109) -/

/-- A fetch-eligible entry (R98): a READ in WAITING. -/
def DttEntry.eligible (d : DttEntry) : Bool := d.state == .waiting && d.kind == some .read

/-- A fetch claim is pending (R106). -/
def State.fetchPending (s : State) : Bool := (List.finRange 8).any fun i => s.dtt[i].eligible

/-- The oldest of the eligible entries among `l`: the one with the lowest arrival number. -/
def State.oldestOf (s : State) : List DttIndex → Option DttIndex
  | [] => none
  | i :: rest =>
    if s.dtt[i].eligible then
      match s.oldestOf rest with
      | some j => if s.dtt[j].arrival.getD 0 < s.dtt[i].arrival.getD 0 then some j else some i
      | none => some i
    else s.oldestOf rest

/-- The fetch-eligible WAITING read with the lowest arrival number, which a grant names (R61, R107). -/
def State.oldestRead (s : State) : Option DttIndex := s.oldestOf (List.finRange 8)

/-- The address of an entry's read. -/
def DttEntry.addr (d : DttEntry) : Nat := d.address.getD 0

/-- The length of an entry's read. -/
def DttEntry.len (d : DttEntry) : Nat := d.length.getD 0

/-- An entry made READY with data (R107, R109). -/
def State.readyData (s : State) (i : DttIndex) (bytes : List Byte) : State :=
  s.setDtt i { s.dtt[i] with state := .ready, data := some bytes, result := some .data, discard := s.discardStart }

/-- The coverage lookup that a grant repeats for entry `i` (R107). -/
def State.grantCovered (s : State) (i : DttIndex) : Bool :=
  s.fullyCovered (pageOf s.dtt[i].addr) (offsetOf s.dtt[i].addr) s.dtt[i].len

/-- A covered grant: the entry becomes READY from staging; no link command is issued (R107). -/
def State.completeFromStaging (s : State) (i : DttIndex) : State :=
  s.readyData i (s.coveredBytes (pageOf s.dtt[i].addr) (offsetOf s.dtt[i].addr) s.dtt[i].len)

/-- A grant that is not covered: the entry becomes FETCHING (R108). -/
def State.setFetching (s : State) (i : DttIndex) : State := s.setDtt i { s.dtt[i] with state := .fetching }

/-- The completion of the fetch READ of entry `i`: the array bytes overlaid with the covered staged bytes (R109). -/
def State.completeFetch (s : State) (i : DttIndex) (bytes : List Byte) : State :=
  if s.dtt[i].state = .fetching then
    s.readyData i (s.overlay (pageOf s.dtt[i].addr) (offsetOf s.dtt[i].addr) bytes)
  else s

/-! ### Patching (R110) -/

/-- An accepted write replaces the overlapping bytes of a READY read with result DATA on its page (R110). -/
def DttEntry.patch (d : DttEntry) (page off : Nat) (data : List Byte) : DttEntry :=
  if d.state = .ready ∧ d.kind = some .read ∧ d.result = some .data ∧ pageOf d.addr = page then
    { d with data := d.data.map fun bytes => bytes.mapIdx fun k b =>
        let o := offsetOf d.addr + k
        if off ≤ o ∧ o < off + data.length then data.getD (o - off) b else b }
  else d

/-- The table is told of an accepted write (R87, R110). -/
def State.patchReady (s : State) (page off : Nat) (data : List Byte) : State :=
  { s with dtt := s.dtt.map fun d => d.patch page off data }

/-! ### The notice of HALTED (R116) -/

/-- A WAITING entry becomes READY with FAULT DEVICE; every other entry is kept (R116). -/
def DttEntry.haltNotice (start : Option Nat) (d : DttEntry) : DttEntry :=
  if d.state = .waiting then
    { d with state := .ready, data := none, result := some (.fault .device), waitSet := none, discard := start }
  else d

/-- The table takes the notice of HALTED (R116). -/
def State.dttHaltNotice (s : State) : State := { s with dtt := s.dtt.map (DttEntry.haltNotice s.discardStart) }

end Sys2Proof.Machine
end

