-- ==== Sys2Proof/Machine/Fences.lean ====
section
/-! DEFINITION. The operations of the fence logic (chapter 6): wait sets, what an outcome report does to fences, and the SYNC record. -/

namespace Sys2Proof.Machine

/-- The (slot, generation) pair that names the present use of a slot (R5). -/
def State.pairOf (s : State) (i : Slot) : WaitPair := ⟨i, s.entries[i].generation⟩

/-- The writer set of an entry holds a requester. -/
def Entry.writtenBy (e : Entry) (req : Requester) : Bool := e.writers.getLsbD req.val

/-- An entry that a fence can wait on (R123): OPEN, SEALED or COMMITTING. -/
def Entry.waitable (e : Entry) : Bool := e.state == .opened || e.state == .sealed || e.state == .committing

/-- The slots of the wait set of a fence from a requester (R123). -/
def State.fenceSlots (s : State) (req : Requester) : List Slot := s.slotsWhere fun e => e.waitable && e.writtenBy req

/-- The lowest-numbered FAILED slot whose writer set contains a requester (R122). -/
def State.failedFor (s : State) (req : Requester) : Option Slot := s.firstSlot fun e => e.state == .failed && e.writtenBy req

/-- The fence logic tries to record a fence. Recorded, it seals the OPEN entries of its wait set; the answer is RETRY either way (R124). -/
def State.recordFence (s : State) (req : Requester) : State :=
  match s.recordSlot req with
  | some d =>
    ((s.setDtt d (recordedFence req ((s.fenceSlots req).map s.pairOf))).sealSlots
      ((s.fenceSlots req).filter fun i => s.entries[i].state == .opened)).respond .retry
  | none => s.countUnrecorded.respond .retry

/-- A FENCE that finds no matching entry is decided by the first case that applies (R121). -/
def State.decideFence (s : State) (req : Requester) : State :=
  match s.failedFor req with
  | some i =>
    (s.appendEvent (.fenceFault .durability .arrival) s.entries[i].page (some i) (some req)).respond (.fault .durability)
  | none => if s.fenceSlots req = [] then s.respond .done else s.recordFence req

/-! ### Outcome reports at the fences (R125, R126) -/

/-- A fence entry that waits on a pair. -/
def DttEntry.waitsOn (d : DttEntry) (p : WaitPair) : Bool :=
  d.state == .waiting && d.kind == some .fence && (d.waitSet.getD []).contains p

/-- A pair leaves a wait set; an emptied one makes the fence READY with DONE (R125). -/
def DttEntry.dropPair (start : Option Nat) (p : WaitPair) (d : DttEntry) : DttEntry :=
  if d.waitsOn p then
    if (d.waitSet.getD []).filter (· != p) = [] then
      { d with state := .ready, result := some .done, waitSet := none, discard := start }
    else { d with waitSet := some ((d.waitSet.getD []).filter (· != p)) }
  else d

/-- A SUCCESS or ELIDED report acts on every WAITING fence that holds the pair (R125). -/
def State.fenceCommitted (s : State) (p : WaitPair) : State := { s with dtt := s.dtt.map (DttEntry.dropPair s.discardStart p) }

/-- A FAILED or DEVICE report makes one fence that waits on the pair READY with FAULT DURABILITY and appends FENCE_FAULT (R126). -/
def State.fenceFailedAt (p : WaitPair) (page : Option Nat) (s : State) (i : DttIndex) : State :=
  if s.dtt[i].waitsOn p then
    (s.setDtt i { s.dtt[i] with state := .ready, result := some (.fault .durability), waitSet := none, discard := s.discardStart }).appendEvent
      (.fenceFault .durability .wait) page (some p.slot) s.dtt[i].requester
  else s

/-- A FAILED or DEVICE report at every fence that waits on the pair (R126). The order of its FENCE_FAULT records is a free value (log entry 8). -/
def State.fenceFailed (s : State) (p : WaitPair) (page : Option Nat) : State :=
  ((arrange (Config.fenceOrder s.freeIndex) (List.finRange 8)).foldl (State.fenceFailedAt p page) s).spendFree

/-! ### The SYNC record (R131, R132, R133) -/

/-- A long command ends: its result and detail are set and the command unit is IDLE (R189). -/
def State.endCommand (s : State) (r : CmdResult) (detail : Nat) : State :=
  s.setCommand { s.command with busy := false, result := r, detail := detail }

/-- A SYNC ends: DONE with failed count 0, FAILED with the count otherwise; the record returns to IDLE, its failed count 0 (R132). -/
def State.endSync (s : State) (failedCount : Nat) : State :=
  (s.setSync (.idle 0)).endCommand (if failedCount = 0 then .done else .failed) failedCount

/-- A report or a drop names a pair: it leaves the SYNC wait set, counted when it failed, and an emptied set ends the SYNC (R132). -/
def State.syncReport (s : State) (p : WaitPair) (failed : Bool) : State :=
  match s.syncRecord with
  | .idle _ => s
  | .waiting ws n =>
    if ws.contains p then
      if ws.filter (· != p) = [] then s.endSync (if failed then n + 1 else n)
      else s.setSync (.waiting (ws.filter (· != p)) (if failed then n + 1 else n))
    else s

/-- Entry to HALTED ends a SYNC as FAILED: the count held and the pairs still waited on; the record returns to IDLE (R133), its failed count 0 as at
every return to IDLE (R132, log entry 44). -/
def State.syncHaltNotice (s : State) : State :=
  match s.syncRecord with
  | .idle _ => s
  | .waiting ws n => (s.setSync (.idle 0)).endCommand .failed (n + ws.length)

/-- SYNC waits on every SEALED and COMMITTING entry (R131). -/
def State.syncSlots (s : State) : List Slot := s.slotsWhere fun e => e.state == .sealed || e.state == .committing

end Sys2Proof.Machine
end

