-- ==== Sys2Proof/Machine/Protection.lean ====
section
/-! DEFINITION. The operations of the protection unit (chapter 7): the effective mode, the tightening test, and the application of loaded
descriptors. -/

namespace Sys2Proof.Machine

/-- The more restrictive of two modes (R136): NO_ACCESS, then READ_ONLY, then READ_WRITE. -/
def AccessMode.stricter : AccessMode → AccessMode → AccessMode
  | .noAccess, _ => .noAccess
  | _, .noAccess => .noAccess
  | .readOnly, _ => .readOnly
  | _, .readOnly => .readOnly
  | .readWrite, .readWrite => .readWrite

/-- An enabled region holds a page (R135: from first to last, both included). -/
def Region.holds (r : Region) (page : Nat) : Bool := r.enabled && r.first ≤ page && page ≤ r.last

/-- The effective mode of a page under eight descriptors (R136). -/
def effectiveModeOf (rs : Vector Region 8) (page : Nat) : AccessMode :=
  (rs.toList.filter fun r => r.holds page).foldl (fun m r => m.stricter r.mode) .readWrite

/-- The effective mode of a page (R136). -/
def State.effectiveMode (s : State) (page : Nat) : AccessMode := effectiveModeOf s.regions page

/-- A page is tightened when its mode before the change is READ_WRITE and its mode after it is not (R140). -/
def tightens (old new : Vector Region 8) (page : Nat) : Bool :=
  effectiveModeOf old page == .readWrite && effectiveModeOf new page != .readWrite

/-- An entry that counts against a change (R140): in use, with a non-empty written set, on a tightened page. -/
def Entry.blocksChange (old new : Vector Region 8) (e : Entry) : Bool :=
  e.state != .free && e.written != 0#512 && (e.page.map fun p => tightens old new p).getD false

/-- Some staging entry lies on a tightened page with a non-empty written set (R140). -/
def State.blocked (s : State) (new : Vector Region 8) : Bool :=
  (s.slotsWhere fun e => e.blocksChange s.regions new) != []

/-- The bounds of row 1 of R139. -/
def State.descriptorOk (s : State) (r : Region) : Bool := r.first ≤ r.last && r.last < s.params.windowPages

/-- The effects of an accepted SET_REGION but for its result (R141). The shadow's descriptor is the live one (R146). -/
def State.replaceRegion (s : State) (n : RegionIndex) (r : Region) : State :=
  (s.setRegion n { r with frozen := s.regions[n].frozen }).appendEvent
    (.regionChanged .set n r.enabled r.mode) (some r.first) none none

/-! ### Application of loaded descriptors (R145) -/

/-- The FAILED pages that a replacement would tighten, which hold the region back (R145 step 2). -/
def State.heldPages (s : State) (new : Vector Region 8) : List Nat :=
  (s.slotsWhere fun e => e.state == .failed && e.blocksChange s.regions new).filterMap fun i => s.entries[i].page

/-- The least of a list of pages. -/
def leastPage : List Nat → Option Nat
  | [] => none
  | p :: rest => some (rest.foldl min p)

/-- Steps 1 and 2 of R145 for one region: a frozen descriptor is kept; another is replaced by the record's, or held. -/
def State.applyRegion (loaded : Vector Region 8) (s : State) (n : RegionIndex) : State :=
  if s.regions[n].frozen then s
  else
    match leastPage (s.heldPages (s.regions.set n.val loaded[n] n.isLt)) with
    | none => s.setRegion n loaded[n]
    | some p => s.appendEvent (.regionChanged .held n s.regions[n].enabled s.regions[n].mode) (some p) none none

/-- A descriptor reaches beyond a window. -/
def Region.beyond (r : Region) (window : Nat) : Bool := window ≤ r.last

/-- Clipping one descriptor to a window (R145 step 3). -/
def Region.clip (r : Region) (window : Nat) : Region :=
  if r.last < window then r
  else if r.first < window then { r with last := window - 1 }
  else { Region.initial with frozen := r.frozen }

/-- Step 3 of R145 for one region: clipped, with its record, where it reaches beyond the window. -/
def State.clipRegion (s : State) (n : RegionIndex) : State :=
  if s.regions[n].beyond s.params.windowPages then
    (s.setRegion n (s.regions[n].clip s.params.windowPages)).appendEvent
      (.regionChanged .clip n (s.regions[n].clip s.params.windowPages).enabled (s.regions[n].clip s.params.windowPages).mode)
      (some (s.regions[n].clip s.params.windowPages).first) none none
  else s

/-- The protection unit applies the eight descriptors of a configuration, its window in force already (R145). A descriptor that comes from
the record lies inside the record's window, so step 3 leaves it alone. R145 gives the records of step 2 in number order and those of step 3 in
none, so their order is a free value (log entry 39). -/
def State.applyRegions (s : State) (loaded : Vector Region 8) : State :=
  ((arrange (Config.clipOrder s.freeIndex) (List.finRange 8)).foldl State.clipRegion
    ((List.finRange 8).foldl (State.applyRegion loaded) s)).spendFree

/-- The descriptors that RESET_N leaves: a frozen one keeps every field, every other takes the defaults (R144). -/
def keepFrozen (rs : Vector Region 8) : Vector Region 8 := rs.map fun r => if r.frozen then r else Region.initial

end Sys2Proof.Machine
end

