-- ==== Sys2Proof/Machine/RefreshTable.lean ====
section
/-! DEFINITION. The operations of the refresh scheduler (chapter 8): counting commits, choosing a sector, the step, the drop at drain
start, and the table across configurations. -/

namespace Sys2Proof.Machine

/-- The sector of a page (1.5). -/
def sectorOf (page : Nat) : Nat := page / 64

/-- Change the record of one sector; a sector without a record is no window sector and changes nothing. -/
def State.modifyRecord (s : State) (sector : Nat) (f : RefreshRecord → RefreshRecord) : State :=
  s.setRefresh { s.refresh with records := s.refresh.records.modify sector f }

/-- Counting one SUCCESS (R149): the count advances, or returns to 0 with the pending flag set. -/
def RefreshRecord.counted (interval : Nat) (r : RefreshRecord) : RefreshRecord :=
  if r.count + 1 < interval then { r with count := r.count + 1 } else { r with count := 0, pending := true }

/-- The refresh table takes a SUCCESS report (R149). While REFRESH_INTERVAL is 0 the table is inert (R148). -/
def State.countCommit (s : State) (page : Nat) : State :=
  if s.params.refreshInterval = 0 then s else s.modifyRecord (sectorOf page) (RefreshRecord.counted s.params.refreshInterval)

/-- The record of a sector is pending. -/
def State.sectorPending (s : State) (sector : Nat) : Bool :=
  match s.refresh.records[sector]? with
  | some r => r.pending
  | none => false

/-- The search of R151: from the scan pointer up to the last window sector, then from sector 0 up to the scan pointer. -/
def State.nextPending (s : State) : Option Nat :=
  ((List.range' s.refresh.scan (s.refresh.records.length - s.refresh.scan)) ++ List.range s.refresh.scan).find? s.sectorPending

/-- The conditions of a step (R150), but for a pending sector. -/
def State.mayRefresh (s : State) : Bool :=
  s.control.mode == .running && s.params.refreshInterval != 0 && 4 ≤ s.freeCount

/-- The page that a sector's next step addresses (R152). -/
def State.refreshPage (s : State) (sector : Nat) : Nat :=
  sector * 64 + ((s.refresh.records[sector]?.map fun r => r.cursor.val).getD 0)

/-- The scan pointer after serving a sector (R151). -/
def State.scanAfter (s : State) (sector : Nat) : Nat := if sector + 1 < s.refresh.records.length then sector + 1 else 0

/-- What either outcome of a step does to the refresh table (R151, R152): the cursor advances, from 63 to 0, pending clears, and the scan pointer moves on. -/
def State.advanceRefresh (s : State) (sector : Nat) : State :=
  s.setRefresh { records := s.refresh.records.modify sector fun r => { r with cursor := r.cursor + 1, pending := false },
                 scan := s.scanAfter sector }

/-- A page has an entry in some state other than FREE (R152). -/
def State.pageStaged (s : State) (page : Nat) : Bool := (s.firstSlot fun e => e.state != .free && e.page == some page).isSome

/-- One step for a chosen sector (R152): satisfied by an entry that the page has, or one REFRESH entry allocated. -/
def State.refreshSector (s : State) (sector : Nat) : State :=
  if s.pageStaged (s.refreshPage sector) then s.advanceRefresh sector
  else
    match s.freeSlot with
    | some i => (s.allocRefresh i (s.refreshPage sector)).advanceRefresh sector
    | none => s

/-- A dropped entry gives its sector the step back (R155): pending set, the cursor back by one, from 0 to 63. -/
def RefreshRecord.owed (r : RefreshRecord) : RefreshRecord := { r with cursor := r.cursor - 1, pending := true }

/-- The drop of one entry at drain start (R155, R132). DESIGN CHOICE (unsafe, log entry 45): the record of its sector is owed the step again at every REFRESH_INTERVAL, at 0
too, where R148 has the records keep their values. A page outside the window has no record to change (R157, log entry 45). -/
def State.dropEntry (s : State) (i : Slot) : State :=
  (((s.setQueue (s.commitQueue.filter (· != i))).freeEntry i).modifyRecord (sectorOf (s.entries[i].page.getD 0))
    RefreshRecord.owed).syncReport (s.pairOf i) false

/-- Drain start drops every SEALED REFRESH entry with an empty written set (R155, R156). -/
def State.dropRefresh (s : State) : State :=
  let dropped := s.slotsWhere Entry.droppable
  if dropped = [] then s
  else (dropped.foldl State.dropEntry s).appendEvent (.refreshDropped dropped.length) none none none

/-- A count at or above a changed interval returns to 0 and owes a step (R157). -/
def RefreshRecord.recount (interval : Nat) (r : RefreshRecord) : RefreshRecord :=
  if interval ≠ 0 ∧ interval ≤ r.count then { r with count := 0, pending := true } else r

/-- The refresh table of a REINIT, brought into line with the configuration applied (R157): the new number of window sectors and the new interval. -/
def Refresh.adjust (t : Refresh) (sectors interval : Nat) : Refresh where
  records := ((t.records.take sectors ++ List.replicate (sectors - t.records.length) RefreshRecord.initial).map
    (RefreshRecord.recount interval))
  scan := if t.scan < sectors then t.scan else 0

/-- The refresh table after power-on and RESET_N: every record cleared (R157, R158). -/
def Refresh.created (sectors : Nat) : Refresh where
  records := List.replicate sectors RefreshRecord.initial
  scan := 0

end Sys2Proof.Machine
end

