-- ==== Sys2Proof/Machine/ModeControl.lean ====
section
/-! DEFINITION. The operations of the mode controller (chapter 9): drain start, the test and the end of a drain, the start-up of a REINIT,
and the entry to HALTED. -/

namespace Sys2Proof.Machine

/-- Change the mode alone. -/
def State.setMode (s : State) (m : Mode) : State := s.setControl { s.control with mode := m }

/-- A long command of one kind is in progress (R187). -/
def State.running (s : State) (c : MgmtCommand) : Bool := s.command.busy && s.command.last == some c

/-- A REINIT in progress ends (R179, R189). -/
def State.endReinit (s : State) (r : CmdResult) : State := if s.running .reinit then s.endCommand r 0 else s

/-! ### Drain start (R161) -/

/-- A suspension ends at once when drain begins in SUSPENDED (R66): RESUME is issued. In every other state of the link a suspension goes on to
END_SUSPENSION, which the mode then allows. -/
def Link.endSuspension (l : Link) : Link := if l.state = .suspended ∧ l.quiet then l.issue .controller .resume else l

/-- Drain start, one event: the mode and the cause, DRAIN_BEGIN, every OPEN entry sealed in order of allocation time, every empty SEALED
REFRESH entry dropped, a suspension ended. The refresh scheduler reads the mode itself (R150). -/
def State.drainStart (s : State) (cause : DrainCause) : State :=
  let s1 := (s.setControl { s.control with mode := .drain, drainCause := some cause }).appendEvent (.drainBegin cause) none none none
  ((s1.sealSlots s1.openSlots).dropRefresh).setLink s.link.endSuspension

/-- The drain has nothing left to commit (R163): no entry is SEALED or COMMITTING. -/
def State.drained (s : State) : Bool := s.syncSlots == []

/-! ### The start-up of a REINIT (R172) -/

/-- The sequencer begins the start-up of a REINIT: phase READ_A, verdicts none; reinit-pending and the drain cause are cleared (R166, R167). -/
def State.beginReinitStart (s : State) : State :=
  (s.setControl { s.control with mode := .start, drainCause := none, reinitPending := false }).setSequencer
    { s.sequencer with phase := .readA, startKind := some .reinit, verdictA := none, verdictB := none, applied := false }

/-- The mode returns to RUNNING at the end of a drain. -/
def State.backToRunning (s : State) : State := s.setControl { s.control with mode := .running, drainCause := none }

/-- Where a drain that ends with PFAIL deasserted goes: the start-up of the REINIT that is pending, or RUNNING (R166, R167). -/
def State.leaveDrain (s : State) : State := if s.control.reinitPending then s.beginReinitStart else s.backToRunning

/-- Drain completion (R166): DRAIN_END, then the mode by the PFAIL level and reinit-pending. -/
def State.completeDrain (s : State) : State :=
  let s1 := s.appendEvent (.drainEnd s.failedCount (s.control.drainCause.getD .pfail)) none none none
  if s.control.pfail then s1.setMode .drained else s1.leaveDrain

/-! ### The entry to HALTED (R72, R169, R173) -/

/-- The mode controller's own part of the entry to HALTED: the mode, the drain cause and reinit-pending cleared (R169), the HALTED record,
the timers of OPEN entries stopped (R12), the sequencer out of its phase (R173, R174), and a REINIT that had been taken ended FAILED
(R169, R189). A REINIT whose claim is still on its way ends when the claim finds HALTED (R164). -/
def State.haltMode (s : State) (cause : HaltCause) : State :=
  let s1 := (s.setControl { s.control with mode := .halted, drainCause := none, reinitPending := false }).appendEvent
    (.halted cause) none none none
  let s2 := s1.stopOpenTimers.setSequencer { s.sequencer with phase := .idle, startKind := none, applied := false }
  if s.control.reinitClaimed then s2 else s2.endReinit .failed

/-- What the notice of HALTED does at the delayed transaction table and at SYNC (R116, R133). -/
def State.haltNotice (s : State) : State := s.dttHaltNotice.syncHaltNotice

/-- The entry to HALTED where no commit is cut short. -/
def State.enterHalted (s : State) (cause : HaltCause) : State := (s.haltMode cause).haltNotice

end Sys2Proof.Machine
end

