-- ==== Sys2Proof/Machine/Record.lean ====
section
/-! DEFINITION. The configuration record (chapters 10 and 12): its byte layout both ways, its CRC-32, its validation, and the values it gives. -/

namespace Sys2Proof.Machine

/-! ### Little-endian fields (12) -/

/-- The two bytes of a 16-bit value, the less significant first. -/
def bytes16 (x : BitVec 16) : List Byte := [x.extractLsb' 0 8, x.extractLsb' 8 8]

/-- The four bytes of a 32-bit value, the least significant first. -/
def bytes32 (x : BitVec 32) : List Byte := [x.extractLsb' 0 8, x.extractLsb' 8 8, x.extractLsb' 16 8, x.extractLsb' 24 8]

/-- The byte at an offset; 0 beyond the end. -/
def at8 (l : List Byte) (i : Nat) : Byte := l.getD i 0#8

/-- The 16-bit value whose low byte is at an offset. -/
def at16 (l : List Byte) (i : Nat) : BitVec 16 := at8 l (i + 1) ++ at8 l i

/-- The 32-bit value whose lowest byte is at an offset. -/
def at32 (l : List Byte) (i : Nat) : BitVec 32 := at16 l (i + 2) ++ at16 l i

/-! ### The layout (12.2) -/

/-- The length of the record. -/
def recordLength : Nat := 82

/-- Bytes 0 to 29 of a record. -/
def RecordFields.bytes (f : RecordFields) : List Byte :=
  bytes32 f.magic ++ [f.version, f.elide, f.verify, f.commitTries] ++ bytes32 f.sequence ++ bytes16 f.windowPages ++
    bytes16 f.idleSeal ++ bytes16 f.maxOpen ++ bytes16 f.discardTime ++
    [f.eraseTimeout, f.programTimeout, f.suspendMax, f.readStreak] ++ bytes16 f.refreshInterval ++ bytes32 f.attnMask

/-- The fields that bytes 0 to 29 hold. -/
def fieldsOf (l : List Byte) : RecordFields where
  magic := at32 l 0
  version := at8 l 4
  elide := at8 l 5
  verify := at8 l 6
  commitTries := at8 l 7
  sequence := at32 l 8
  windowPages := at16 l 12
  idleSeal := at16 l 14
  maxOpen := at16 l 16
  discardTime := at16 l 18
  eraseTimeout := at8 l 20
  programTimeout := at8 l 21
  suspendMax := at8 l 22
  readStreak := at8 l 23
  refreshInterval := at16 l 24
  attnMask := at32 l 26

/-- The six bytes of a region descriptor. -/
def RawRegion.bytes (r : RawRegion) : List Byte := bytes16 r.first ++ bytes16 r.last ++ [r.mode, r.flags]

/-- The descriptor that the six bytes from an offset hold. -/
def rawRegionAt (l : List Byte) (i : Nat) : RawRegion where
  first := at16 l i
  last := at16 l (i + 2)
  mode := at8 l (i + 4)
  flags := at8 l (i + 5)

/-- Bytes 0 to 77 of a record: all but its CRC. -/
def recordBody (f : RecordFields) (rs : Vector RawRegion 8) : List Byte := f.bytes ++ rs.toList.flatMap RawRegion.bytes

/-- The 82 bytes of a record. -/
def ConfigRecord.bytes (r : ConfigRecord) : List Byte := recordBody r.fields r.regions ++ bytes32 r.crc

/-- The record that 82 bytes hold: region `n` at 30 + 6n, the CRC at 78. -/
def recordOf (l : List Byte) : ConfigRecord where
  fields := fieldsOf l
  regions := #v[rawRegionAt l 30, rawRegionAt l 36, rawRegionAt l 42, rawRegionAt l 48,
                rawRegionAt l 54, rawRegionAt l 60, rawRegionAt l 66, rawRegionAt l 72]
  crc := at32 l 78

/-! ### The CRC-32 (R198) -/

/-- One bit of the computation: the register shifts toward the least significant bit. EDB88320h is the generator polynomial 04C11DB7h reflected. -/
def crcBit (c : BitVec 32) : BitVec 32 := if c.getLsbD 0 then (c >>> 1) ^^^ 0xEDB88320#32 else c >>> 1

/-- One byte, taken least significant bit first. -/
def crcByte (c : BitVec 32) (b : Byte) : BitVec 32 :=
  crcBit (crcBit (crcBit (crcBit (crcBit (crcBit (crcBit (crcBit (c ^^^ b.setWidth 32))))))))

/-- The CRC-32 of a list of bytes: initial value FFFFFFFFh, the register complemented at the end (R198). -/
def crc32 (l : List Byte) : BitVec 32 := ~~~ (l.foldl crcByte 0xFFFFFFFF#32)

/-! ### Validation (R177) -/

/-- An on/off field holds a code that names one of the two (12.2). -/
def onOffOk (b : Byte) : Bool := b.toNat ≤ 1

/-- Check 4: every parameter within its accepted values, but for what checks 5 to 7 test (R176, R177). -/
def RecordFields.rangeOk (f : RecordFields) : Bool :=
  onOffOk f.elide && onOffOk f.verify &&
  1 ≤ f.idleSeal.toNat && f.idleSeal.toNat ≤ 1000 &&
  10 ≤ f.maxOpen.toNat && f.maxOpen.toNat ≤ 10000 &&
  100 ≤ f.discardTime.toNat &&
  1 ≤ f.eraseTimeout.toNat && 1 ≤ f.programTimeout.toNat &&
  1 ≤ f.commitTries.toNat && f.commitTries.toNat ≤ 4 &&
  f.suspendMax.toNat ≤ 15 &&
  1 ≤ f.readStreak.toNat && f.readStreak.toNat ≤ 16 &&
  (f.refreshInterval.toNat == 0 || (16 ≤ f.refreshInterval.toNat && f.refreshInterval.toNat ≤ 4096))

/-- Check 5: MAX_OPEN is not less than IDLE_SEAL. -/
def RecordFields.orderOk (f : RecordFields) : Bool := f.idleSeal.toNat ≤ f.maxOpen.toNat

/-- Check 6: WINDOW_PAGES is a multiple of 64 from 64 to the device size less 64. -/
def RecordFields.windowOk (f : RecordFields) (devicePages : Nat) : Bool :=
  f.windowPages.toNat % 64 == 0 && 64 ≤ f.windowPages.toNat && f.windowPages.toNat + 64 ≤ devicePages

/-- Check 7 for one descriptor. -/
def RawRegion.ok (r : RawRegion) (window : Nat) : Bool :=
  r.first.toNat ≤ r.last.toNat && r.last.toNat < window && r.mode.toNat ≤ 2

/-- Validation of the bytes of a copy: the first check that fails gives the reason (R177). -/
def validate (devicePages : Nat) (l : List Byte) : Verdict :=
  let r := recordOf l
  if r.fields.magic ≠ magicValue then .bad .magic
  else if r.fields.version ≠ 1#8 then .bad .version
  else if crc32 (l.take 78) ≠ r.crc then .bad .crc
  else if r.fields.rangeOk = false then .bad .range
  else if r.fields.orderOk = false then .bad .order
  else if r.fields.windowOk devicePages = false then .bad .window
  else if (r.regions.toList.all fun g => g.ok r.fields.windowPages.toNat) = false then .bad .region
  else .valid r

/-! ### The values a record gives -/

/-- The parameters that a record's fields give (R179). DESIGN CHOICE (log entry 40): the ATTN mask in force keeps the record's bits 0 and 22 to 31,
which R176 and R198 ignore; nothing reads them but the free value that ATTN_MASK shows there. -/
def RecordFields.params (f : RecordFields) : Params where
  windowPages := f.windowPages.toNat
  idleSeal := f.idleSeal.toNat
  maxOpen := f.maxOpen.toNat
  discardTime := f.discardTime.toNat
  eraseTimeout := f.eraseTimeout.toNat
  programTimeout := f.programTimeout.toNat
  commitTries := f.commitTries.toNat
  suspendMax := f.suspendMax.toNat
  readStreak := f.readStreak.toNat
  refreshInterval := f.refreshInterval.toNat
  elide := f.elide == 1#8
  verify := f.verify == 1#8
  attnMask := f.attnMask

/-- The access mode a mode byte names (12.2). A valid record's mode byte names one. -/
def accessModeOfByte (b : Byte) : AccessMode :=
  match b.toNat with
  | 0 => .readWrite
  | 1 => .readOnly
  | _ => .noAccess

/-- The descriptor that a record's region gives (12.2): flag bit 0 enabled, bit 1 frozen, the other flag bits ignored. -/
def RawRegion.region (r : RawRegion) : Region where
  enabled := r.flags.getLsbD 0
  first := r.first.toNat
  last := r.last.toNat
  mode := accessModeOfByte r.mode
  frozen := r.flags.getLsbD 1

/-- The mode byte of an access mode (12.2). -/
def AccessMode.byte : AccessMode → Byte
  | .readWrite => 0#8
  | .readOnly => 1#8
  | .noAccess => 2#8

/-- A descriptor as a record holds it (12.2), flag bits 2 to 7 written as 0 (R198). -/
def Region.raw (r : Region) : RawRegion where
  first := BitVec.ofNat 16 r.first
  last := BitVec.ofNat 16 r.last
  mode := r.mode.byte
  flags := (if r.enabled then 1#8 else 0#8) ||| (if r.frozen then 2#8 else 0#8)

/-- The page of a configuration copy: page 0 or 1 of the reserved sector, which begins at page device size − 64 (R53). -/
def copyPage (devicePages : Nat) : Copy → Nat
  | .a => devicePages - 64
  | .b => devicePages - 64 + 1

/-- The page image of a record: its 82 bytes, then FFh (R182). -/
def recordImage (r : ConfigRecord) : PageImage := Vector.ofFn fun o => r.bytes.getD o.val 0xFF#8

/-- The record of the default configuration for a device (R176): its regions disabled, its CRC that of its other fields. -/
def ConfigRecord.default (devicePages : Nat) : ConfigRecord where
  fields := RecordFields.default devicePages
  regions := Vector.replicate 8 Region.initial.raw
  crc := crc32 (recordBody (RecordFields.default devicePages) (Vector.replicate 8 Region.initial.raw))

end Sys2Proof.Machine
end

