-- ==== Sys2Proof/Machine/CommitEngine.lean ====
section
/-! DEFINITION. The operations of the commit engine (chapter 2): the first stage, FILL and VERIFY, attempt failures, and the outcome of a
commit at every block that waits on commits. -/

namespace Sys2Proof.Machine

/-! ### The take (R30, R31) -/

/-- The engine claims the head in RUNNING and in DRAIN, while its stage is IDLE (R30). -/
def State.mayTake (s : State) : Bool :=
  s.engine.stage == .idle && (s.control.mode == .running || s.control.mode == .drain)

/-- The first stage of a commit, by the first case that applies (R31): ERASE after the absorption of a predecessor, FILL for a HOST entry
with ELIDE on, FILL for a valid set that is not the whole page, ERASE otherwise. -/
def firstStage (absorbed elide : Bool) (e : Entry) : Stage :=
  if absorbed then .erase
  else if e.origin = some .host ∧ elide then .fill
  else if e.valid ≠ wholePage then .fill
  else .erase

/-- The engine holds a new commit (R30): the pair of the entry, attempt number 1, its first stage WAITING. -/
def State.holdCommit (s : State) (i : Slot) (stage : Stage) : State :=
  s.setEngine { stage := stage, slot := some i, generation := some s.entries[i].generation, attempt := some 1, step := some .waiting }

/-- The take of head `i` by the engine (R19, R21, R30, R31). DEDUCED (unsafe, log entry 43): a FAILED predecessor is absorbed in DRAIN as in RUNNING (R2, R3, R20, R21),
though R162 says that an entry which ends FAILED stays FAILED through the drain; in DRAIN each block acts under the rules of its own chapter (9.3). -/
def State.takeHead (s : State) (i : Slot) : State :=
  match s.predecessorOf i with
  | some j => ((s.takeSlot i).absorbFailed i j).holdCommit i .erase
  | none => (s.takeSlot i).holdCommit i (firstStage false s.params.elide s.entries[i])

/-! ### The record of the engine -/

/-- The engine enters a stage with its step WAITING. -/
def State.enterStage (s : State) (stage : Stage) : State :=
  s.setEngine { s.engine with stage := stage, step := some .waiting }

/-- The engine's stage returns to IDLE, every other field none (R34, R41, R48). -/
def State.engineIdle (s : State) : State := s.setEngine Engine.initial

/-- The engine's command has been granted and issued (R29). -/
def State.issued (s : State) : State := s.setEngine { s.engine with step := some .issued }

/-! ### The configuration writer (R44, R183) -/

/-- The source that a copy is. -/
def Copy.source : Copy → Source
  | .a => .a
  | .b => .b

/-- The loaded copy and sequence after a CONFIG commit: the copy just written and the shadow's sequence on SUCCESS (R44, R183). -/
def State.configLoaded (s : State) (c : Copy) : State :=
  s.setSequencer { s.sequencer with loadedCopy := some c.source, loadedSequence := some s.shadow.fields.sequence, writeTarget := none }

/-- WRITE_CONFIG ends with its commit (R183, R189). -/
def State.endWriteConfig (s : State) (r : CmdResult) : State := if s.running .writeConfig then s.endCommand r 0 else s

/-- The SUCCESS report of a CONFIG commit (R183): CONFIG_WRITTEN, DONE. -/
def State.configSucceeded (s : State) (i : Slot) (page : Option Nat) : State :=
  match s.sequencer.writeTarget with
  | some c => ((s.configLoaded c).appendEvent (.configWritten c s.shadow.fields.sequence) page (some i) none).endWriteConfig .done
  | none => s

/-- The FAILED or DEVICE report of a CONFIG commit (R183): CONFIG_WRITE_FAILED, FAILED. -/
def State.configFailed (s : State) (i : Slot) (page : Option Nat) (cause : CommitCause) : State :=
  match s.sequencer.writeTarget with
  | some c =>
    ((s.setSequencer { s.sequencer with writeTarget := none }).appendEvent (.configWriteFailed c cause) page (some i) none).endWriteConfig
      .failed
  | none => s

/-! ### The outcomes of a commit (R42) -/

/-- The report that a commit's bytes are in the array, at the fences and at SYNC (R42). -/
def State.reportCommitted (s : State) (p : WaitPair) : State := (s.fenceCommitted p).syncReport p false

/-- The report that a commit failed, at the fences and at SYNC (R42). -/
def State.reportFailed (s : State) (p : WaitPair) (page : Option Nat) : State := (s.fenceFailed p page).syncReport p true

/-- Outcome SUCCESS of the commit of slot `i` (R42, R43, R44). -/
def State.commitSucceeds (s : State) (i : Slot) : State :=
  let e := s.entries[i]
  let s1 := (s.freeEntry i).engineIdle
  if e.origin = some .config then s1.configSucceeded i e.page
  else (s1.reportCommitted (s.pairOf i)).countCommit (e.page.getD 0)

/-- Outcome ELIDED of the commit of slot `i` (R34). -/
def State.commitElided (s : State) (i : Slot) : State :=
  ((s.freeEntry i).engineIdle.countElided).reportCommitted (s.pairOf i)

/-- Outcome FAILED of the commit of slot `i` (R41; R42 and R183 for a CONFIG entry, which is freed without a COMMIT_FAILED record).
`e.attempts` counts the last failure already. -/
def State.commitFails (s : State) (i : Slot) (cause : CommitCause) : State :=
  let e := s.entries[i]
  if e.origin = some .config then ((s.freeEntry i).engineIdle).configFailed i e.page cause
  else
    (((s.failEntry i).appendEvent (.commitFailed cause e.attempts) e.page (some i) none).engineIdle).reportFailed (s.pairOf i) e.page

/-- One more failed attempt is counted in the entry (R38). -/
def State.countAttempt (s : State) (i : Slot) : State :=
  s.setEntry i { s.entries[i] with attempts := s.entries[i].attempts + 1 }

/-- A retry (R40): COMMIT_RETRY, the attempt number one more than the entry's attempts, ERASE again. -/
def State.retryCommit (s : State) (i : Slot) (cause : CommitCause) : State :=
  (s.appendEvent (.commitRetry cause s.entries[i].attempts) s.entries[i].page (some i) none).setEngine
    { s.engine with stage := .erase, step := some .waiting, attempt := some (s.entries[i].attempts + 1) }

/-- An attempt failure (R38): counted, then retried while the attempt number is below COMMIT_TRIES, and final at COMMIT_TRIES. -/
def State.attemptFails (s : State) (cause : CommitCause) : State :=
  match s.engine.slot with
  | none => s
  | some i =>
    if s.engine.attempt.getD 0 < s.params.commitTries then (s.countAttempt i).retryCommit i cause
    else (s.countAttempt i).commitFails i cause

/-! ### The result of a long operation (R35, R36) -/

/-- VERIFY is on, or the origin is CONFIG (R36). -/
def State.verifyRequired (s : State) (i : Slot) : Bool := s.params.verify || s.entries[i].origin == some .config

/-- The engine takes the completion of its erase or program, with the fail flag (R35, R36). -/
def State.operationResult (s : State) (failFlag : Bool) : State :=
  match s.engine.slot with
  | none => s
  | some i =>
    match s.engine.stage with
    | .erase => if failFlag then s.attemptFails .eraseFail else s.enterStage .program
    | .program =>
      if failFlag then s.attemptFails .programFail
      else if s.verifyRequired i then s.enterStage .verify
      else s.commitSucceeds i
    | _ => s

/-! ### FILL and VERIFY (R32, R33, R37) -/

/-- The merge of FILL (R32): array bytes at the offsets outside the valid set, and the whole page valid. -/
def Entry.filled (e : Entry) (arrayBytes : PageImage) : Entry :=
  { e with buffer := mergeImage e.valid e.buffer arrayBytes, valid := wholePage }

/-- A case 2 commit of R31: in FILL that is a HOST entry with ELIDE on. -/
def State.elisionTested (s : State) (i : Slot) : Bool := s.entries[i].origin == some .host && s.params.elide

/-- FILL completion (R32, R33): the merge, then ELIDED where the merged page is what the array holds already, and ERASE otherwise. -/
def State.fillCompletes (s : State) (i : Slot) (bytes : List Byte) : State :=
  let s1 := s.setEntry i (s.entries[i].filled (imageOf bytes))
  if s.elisionTested i && decide ((s.entries[i].filled (imageOf bytes)).buffer = imageOf bytes) then s1.commitElided i
  else s1.enterStage .erase

/-- VERIFY completion (R37): SUCCESS where every byte read equals the buffer's, and an attempt failure otherwise, which leaves content that
did not verify in the array (R41). -/
def State.verifyCompletes (s : State) (i : Slot) (bytes : List Byte) : State :=
  if imageOf bytes = s.entries[i].buffer then s.commitSucceeds i
  else (s.setPage (s.entries[i].page.getD 0) .undefined).attemptFails .verifyMismatch

/-- The engine takes the bytes of its READ (R57). -/
def State.engineBytes (s : State) (bytes : List Byte) : State :=
  match s.engine.slot with
  | none => s
  | some i =>
    match s.engine.stage with
    | .fill => s.fillCompletes i bytes
    | .verify => s.verifyCompletes i bytes
    | _ => s

/-! ### Commits cut short (R48) -/

/-- The engine ends the commit in hand with outcome DEVICE at the staging table: the attempt counted, the entry FAILED whatever its origin,
COMMIT_FAILED appended, the stage IDLE (R48 steps 1, 2, 3 and 5). -/
def State.deviceEnds (s : State) (i : Slot) : State :=
  let s1 := (s.countAttempt i).failEntry i
  (s1.appendEvent (.commitFailed .device s1.entries[i].attempts) s1.entries[i].page (some i) none).engineIdle

/-- The report of outcome DEVICE (R48 step 4, R42). -/
def State.deviceReport (s : State) (i : Slot) : State :=
  if s.entries[i].origin = some .config then s.configFailed i s.entries[i].page .device
  else s.reportFailed (s.pairOf i) s.entries[i].page

/-- The CONFIG entry that still waits in the commit queue. -/
def State.queuedConfig (s : State) : Option Slot := s.firstSlot fun e => e.state == .sealed && e.origin == some .config

/-- A WRITE_CONFIG whose entry still waits in the queue ends at the DOWN as R44 gives for outcome DEVICE (R169, log entry 23). The entry stays
SEALED (R49). -/
def State.endQueuedConfig (s : State) : State :=
  match s.queuedConfig with
  | some i => s.configFailed i s.entries[i].page .device
  | none => s

/-- What happens at a link DOWN during a commit: the engine ends the commit, its outcome is reported, the mode controller enters HALTED, its
notice reaches the waiting requests and SYNC, and a WRITE_CONFIG whose entry is queued ends. -/
inductive DownStep where
  | engine | report | halt | notice | queuedConfig
deriving DecidableEq, Repr

/-- The four steps that `DownOrder` orders. -/
def stepsOf : DownOrder → List DownStep
  | .engineReportHaltNotice => [.engine, .report, .halt, .notice]
  | .engineHaltReportNotice => [.engine, .halt, .report, .notice]
  | .engineHaltNoticeReport => [.engine, .halt, .notice, .report]
  | .haltEngineReportNotice => [.halt, .engine, .report, .notice]
  | .haltEngineNoticeReport => [.halt, .engine, .notice, .report]

/-- One step of a link DOWN during the commit of slot `i`. -/
def State.downStep (i : Slot) (s : State) : DownStep → State
  | .engine => s.deviceEnds i
  | .report => s.deviceReport i
  | .halt => s.haltMode .linkDown
  | .notice => s.haltNotice
  | .queuedConfig => s.endQueuedConfig

/-- A link DOWN during the commit of slot `i`, its steps in the order that the free values give (R48, R114, R133, R169). -/
def State.downDuringCommit (s : State) (order : DownOrder) (place : Fin 5) (i : Slot) : State :=
  ((stepsOf order).insertIdx place.val .queuedConfig).foldl (State.downStep i) s

end Sys2Proof.Machine
end

