-- ==== Sys2Proof/Machine/LinkControl.lean ====
section
/-! DEFINITION. The operations of the array link controller (chapter 3): issuing commands, the arbiter, polls, suspension, timeouts,
recovery and loss of the device. -/

namespace Sys2Proof.Machine

/-! ### Transactions (R52) -/

/-- The link is IDLE with no transaction in flight: a command may be issued from IDLE (R52, R57, R58). -/
def State.linkFree (s : State) : Bool := s.link.state == .idle && s.link.quiet

/-- The transaction in flight has ended. -/
def Link.ended (l : Link) : Link := { l with owner := none, inFlight := none }

/-- Issue READ for a party: from SUSPENDED the link becomes SUSPENDED_READING and counts the fetch, otherwise READING (R57, R65). -/
def Link.issueRead (l : Link) (owner : Owner) (addr count : Nat) : Link :=
  if l.state = .suspended then
    { l.issue owner (.read addr count) with
      state := .suspendedReading, fetchesThisSuspension := some (l.fetchesThisSuspension.getD 0 + 1) }
  else { l.issue owner (.read addr count) with state := .reading }

/-- Issue RESET after a timeout, with the reset wait timer started at 0 (R70). -/
def Link.issueReset (l : Link) (owner : Owner) : Link := { l.issue owner .reset with resetWait := some 0, resetOwed := false }

/-- The link after a READ has completed: IDLE from READING, SUSPENDED from SUSPENDED_READING (R57). -/
def Link.readEnded (l : Link) : Link :=
  { l.ended with state := if l.state = .suspendedReading then .suspended else .idle }

/-- A poll is due 10 µs from now (R54). -/
def pollInterval : Nat := 10

/-! ### The start of a long operation (R58) -/

/-- The record of a long operation just issued (R58). -/
def Link.startOperation (l : Link) (kind : OpKind) (page : Nat) (c : LinkCommand) : Link :=
  { l.issue .commit c with opKind := some kind, opPage := some page, suspensionCount := some 0, opTimer := some 0,
                              opExceeded := false }

/-- The page that the engine's entry stages. -/
def State.handPage (s : State) (i : Slot) : Nat := s.entries[i].page.getD 0

/-- A grant to the engine starts the command of its stage (R32, R35, R36, R37, R58, R60). From an ERASE or PROGRAM on, the page
content is undefined until the operation completes (R50, R52). -/
def State.grantEngine (s : State) (i : Slot) : State :=
  match s.engine.stage with
  | .idle => s
  | .fill | .verify => (s.setLink (s.link.issueRead .commit (s.handPage i * 512) 512)).issued
  | .erase => ((s.setLink (s.link.startOperation .erase (s.handPage i) (.erase (s.handPage i)))).setPage (s.handPage i) .undefined).issued
  | .program =>
    ((s.setLink (s.link.startOperation .program (s.handPage i) (.program (s.handPage i) s.entries[i].buffer))).setPage
      (s.handPage i) .undefined).issued

/-! ### The arbiter (R60, R61, R62) -/

/-- The engine's claim (R45): its step is WAITING and it holds an entry. -/
def State.engineClaim (s : State) : Option Slot := if s.engine.step = some .waiting then s.engine.slot else none

/-- The engine "has work" (R62): its stage is not IDLE or the commit queue is not empty. -/
def State.engineHasWork (s : State) : Bool := s.engine.stage != .idle || s.commitQueue != []

/-- Set the fetch streak. -/
def State.setStreak (s : State) (n : Nat) : State := s.setLink { s.link with fetchStreak := n }

/-- The fetch streak after a fetch grant (R60). -/
def State.streakAfterFetch (s : State) : Nat :=
  if s.link.fetchStreak < s.params.readStreak then s.link.fetchStreak + 1 else s.link.fetchStreak

/-- A grant to a fetch for entry `i` from IDLE (R61): completed from staging where covered, which leaves the streak; otherwise a READ. -/
def State.grantFetch (s : State) (i : DttIndex) : State :=
  if s.grantCovered i then s.completeFromStaging i
  else
    ((s.setFetching i).setLink (s.link.issueRead (.fetch i) s.dtt[i].addr s.dtt[i].len)).setStreak s.streakAfterFetch

/-- A grant to the oldest WAITING read, if there is one (R61, R106). -/
def State.grantOldest (s : State) : State :=
  match s.oldestRead with
  | some i => s.grantFetch i
  | none => s

/-- A grant to the engine in the arbiter's decision, which returns the fetch streak to 0 (R60, R62). -/
def State.grantClaim (s : State) (i : Slot) : State := (s.grantEngine i).setStreak 0

/-- The decision between the engine's claim and the fetch claims (R60). -/
def State.arbitrate (s : State) : State :=
  match s.engineClaim with
  | none => s.grantOldest
  | some i => if s.fetchPending && s.link.fetchStreak < s.params.readStreak then s.grantOldest else s.grantClaim i

/-- The decision in DRAIN: the engine whenever it claims, a fetch only when the engine has no work (R62). -/
def State.arbitrateDrain (s : State) : State :=
  match s.engineClaim with
  | some i => s.grantClaim i
  | none => if s.engineHasWork then s else s.grantOldest

/-! ### Polls and suspension (R54, R64) -/

/-- The link state polls the device (R54). -/
def Link.polls (l : Link) : Bool := l.state == .opBusy || l.state == .suspending || l.state == .resetting

/-- The four conditions under which SUSPEND is issued in place of STATUS (R64). -/
def State.suspendDue (s : State) : Bool :=
  s.link.state == .opBusy && s.fetchPending && 0 < s.params.suspendMax &&
    s.link.suspensionCount.getD 0 < s.params.suspendMax && s.control.mode == .running

/-- A poll time is taken: SUSPEND where the conditions hold, with the suspend wait timer started at 0; STATUS otherwise (R54, R64). -/
def State.takePoll (s : State) : State :=
  if s.suspendDue then
    s.setLink { s.link.issue .controller .suspend with suspendWait := some 0, pollTimer := none, pollOwed := false }
  else
    s.setLink { s.link.issue .controller .status with pollTimer := some pollInterval, pollOwed := false }

/-- A poll time that fell while the STATUS was in flight is taken now that it has ended, where the state still polls (R54). -/
def State.takeOwedPoll (s : State) : State :=
  if s.link.pollOwed && s.link.polls then s.takePoll else s.setLink { s.link with pollOwed := false }

/-! ### Results of a STATUS reply (R59, R65, R67, R71) -/

/-- The record of the link after a long operation has ended: no operation, no timers, IDLE (R59, R67, R71). -/
def Link.operationOver (l : Link) : Link :=
  { l with state := .idle, opKind := none, opPage := none, suspensionCount := none, opTimer := none, opExceeded := false, suspendWait := none,
           resetWait := none, pollTimer := none, pollOwed := false }

/-- What a completed operation leaves in its page (R52): erased, or the 512 bytes of the entry's buffer; a failure leaves undefined content (R41). -/
def State.operationLeaves (s : State) (failFlag : Bool) : PageContent :=
  if failFlag then .undefined
  else
    match s.link.opKind, s.engine.slot with
    | some .program, some i => .image s.entries[i].buffer
    | some .erase, _ => .erased
    | _, _ => .undefined

/-- The operation completes: the record is cleared and the result goes to the engine (R59, R67). -/
def State.operationCompletes (s : State) (failFlag : Bool) : State :=
  (((s.setOpPage (s.operationLeaves failFlag))).setLink s.link.operationOver).operationResult failFlag

/-- The operation is suspended (R65). -/
def State.operationSuspended (s : State) : State :=
  (s.setLink { s.link with state := .suspended, suspendWait := none, suspensionCount := some (s.link.suspensionCount.getD 0 + 1),
                           fetchesThisSuspension := some 0, pollTimer := none, pollOwed := false }).countSuspension

/-- The device has recovered from RESET (R71): after a timeout the engine receives TIMEOUT (R39); after the start-up RESET the sequencer goes on
to read copy A (R174). -/
def State.deviceRecovered (s : State) : State :=
  if s.link.opKind.isSome then (s.setLink s.link.operationOver).attemptFails .timeout
  else if s.sequencer.phase = .deviceReset then
    (s.setLink s.link.operationOver).setSequencer { s.sequencer with phase := .readA }
  else s.setLink s.link.operationOver

/-- A STATUS reply is taken according to the link state (R59, R65, R67, R71). The transaction has ended already. -/
def State.takeReply (s : State) (cond : DeviceCondition) (failFlag : Bool) : State :=
  match s.link.state, cond with
  | .opBusy, .ready => s.operationCompletes failFlag
  | .suspending, .ready => s.operationCompletes failFlag
  | .suspending, .suspended => s.operationSuspended
  | .resetting, .ready => s.deviceRecovered
  | _, _ => s.takeOwedPoll

/-! ### Timeouts (R68, R69, R70) -/

/-- The limit of the operation timer in µs (R68). -/
def State.operationLimit (s : State) : Nat :=
  match s.link.opKind with
  | some .program => s.params.programTimeout * 1000
  | _ => s.params.eraseTimeout * 1000

/-- The operation timer counts in OP_BUSY and in SUSPENDING (R55). -/
def Link.operationRuns (l : Link) : Bool := l.state == .opBusy || l.state == .suspending

/-- The limit of the suspend wait timer in µs (R69). -/
def suspendWaitLimit : Nat := 100

/-- The limit of the reset wait timer in µs (R71). -/
def resetWaitLimit : Nat := 1000

/-- A timer that counts up has come to its limit. -/
def reached (limit : Nat) (t : Option Nat) : Bool :=
  match t with
  | some n => limit ≤ n
  | none => false

/-- A timeout of the operation (R70): ARRAY_TIMEOUT, both operation timers stopped, and RESET, at once or after the transaction in flight.
DESIGN CHOICE (unsafe, log entry 46): a timer stopped by a timeout is none, where R70 says only that both stop. -/
def State.timeOut (s : State) (phase : TimeoutPhase) : State :=
  let s1 := s.appendEvent (.arrayTimeout (s.link.opKind.getD .erase) phase) s.link.opPage s.engine.slot none
  let l := { s.link with opTimer := none, opExceeded := false, suspendWait := none, pollTimer := none, pollOwed := false }
  if l.quiet then s1.setLink (l.issueReset .controller) else s1.setLink { l with resetOwed := true }

/-- The device has accepted RESET: RESETTING, and DEVICE_RESET after a timeout (R70); none after the start-up RESET (R174). -/
def State.resetTaken (s : State) : State :=
  let s1 := s.setLink { s.link.ended with state := .resetting, pollTimer := some pollInterval, pollOwed := false }
  if s.link.opKind.isSome then s1.appendEvent .deviceReset s.link.opPage s.engine.slot none else s1

/-! ### Loss of the device (R72) -/

/-- The link goes DOWN: the operation and every timer none, no command in flight (R72). The fetch streak is left. -/
def Link.lost (l : Link) : Link := { Link.initial with state := .down, fetchStreak := l.fetchStreak }

/-- The link goes DOWN and the part enters HALTED; after a timeout the commit in hand is cut short (R72, R48). -/
def State.linkDown (s : State) : State :=
  let s1 := s.setLink s.link.lost
  match s.link.opKind.isSome, s.engine.slot with
  | true, some i => (s1.downDuringCommit (Config.downOrder s.freeIndex) (Config.queuedConfigPlace s.freeIndex) i).spendFree
  | _, _ => s1.enterHalted .linkDown

end Sys2Proof.Machine
end

