-- ==== Sys2Proof/Machine/LinkEvents.lean ====
section
/-! DEFINITION. The commit engine's take and the events of the array link (chapters 2 and 3). -/

namespace Sys2Proof.Machine

/-! ### The take and the arbiter -/

/-- TAKE_HEAD: the IDLE engine takes the head of the commit queue (R18, R19, R30). With nothing queued the claim lapses. -/
def execTakeHead (s : State) : Answer :=
  .next (if s.mayTake then
    match s.commitQueue with
    | i :: _ => s.takeHead i
    | [] => s
  else s)

/-- ARBITER_DECISION: with the link IDLE, the arbiter grants by the table of the mode (R60, R62). -/
def execArbiterDecision (s : State) : Answer :=
  .next (if s.linkFree then
    match s.control.mode with
    | .running | .drained => s.arbitrate
    | .drain => s.arbitrateDrain
    | .start | .halted => s
  else s)

/-! ### Reads (R57) -/

/-- The verdict on a configuration copy, with CONFIG_COPY_BAD where it is BAD (R175, R177). -/
def State.judgeCopy (s : State) (c : Copy) (v : Verdict) : State :=
  match v with
  | .valid _ => s
  | .bad reason => s.appendEvent (.configCopyBad c reason) (some (copyPage (s.sequencer.deviceSize.getD 0) c)) none none

/-- The sequencer takes the bytes of a copy: the verdict, and the next phase (R175). -/
def State.copyRead (s : State) (bytes : List Byte) : State :=
  let v := validate (s.sequencer.deviceSize.getD 0) bytes
  match s.sequencer.phase with
  | .readA => (s.judgeCopy .a v).setSequencer { s.sequencer with verdictA := some v, phase := .readB }
  | .readB => (s.judgeCopy .b v).setSequencer { s.sequencer with verdictB := some v, phase := .apply }
  | _ => s

/-- The bytes of a READ go to the owner of the transaction (R57). -/
def State.deliver (s : State) (owner : Option Owner) (bytes : List Byte) : State :=
  match owner with
  | some .commit => s.engineBytes bytes
  | some (.fetch i) => s.completeFetch i bytes
  | some .startup => s.copyRead bytes
  | some .controller | none => s

/-- READ_COMPLETION: the READ in flight ends with the bytes the device returned, as many as it asked for (R52, R57). -/
def execReadCompletion (bytes : List Byte) (s : State) : Answer :=
  .next (match s.link.inFlight with
    | some (.read _ count) =>
      if bytes.length = count then (s.setLink s.link.readEnded).deliver s.link.owner bytes else s
    | _ => s)

/-! ### Long operations -/

/-- The link once the device has accepted ERASE or PROGRAM: OP_BUSY, the first poll due 10 µs later (R58). -/
def Link.operationAccepted (l : Link) : Link := { l.ended with state := .opBusy, pollTimer := some pollInterval, pollOwed := false }

/-- LONG_OPERATION_ACCEPTED: the device has accepted the ERASE or PROGRAM in flight (R58). -/
def execLongOperationAccepted (s : State) : Answer :=
  .next (match s.link.inFlight with
    | some (.erase _) | some (.program _ _) => s.setLink s.link.operationAccepted
    | _ => s)

/-- POLL_TIME: a poll is issued, or owed until the transaction in flight ends (R54, R64). After a timeout RESET comes first (R70). A poll time
that is not due does not arrive. -/
def execPollTime (s : State) : Answer :=
  .next (if s.link.polls ∧ s.link.pollTimer = some 0 ∧ s.link.resetOwed = false then
    if s.link.quiet then s.takePoll else s.setLink { s.link with pollOwed := true }
  else s)

/-- STATUS_REPLY: the reply to the STATUS in flight, disregarded once a timeout has been taken (R59, R65, R67, R68, R71). -/
def execStatusReply (cond : DeviceCondition) (failFlag : Bool) (s : State) : Answer :=
  .next (if s.link.inFlight = some .status then
    if s.link.resetOwed then s.setLink (s.link.ended.issueReset .controller)
    else (s.setLink s.link.ended).takeReply cond failFlag
  else s)

/-! ### Suspension -/

/-- The link once the device has accepted SUSPEND: SUSPENDING, the first poll due 10 µs later (R64). -/
def Link.suspendAccepted (l : Link) : Link := { l.ended with state := .suspending, pollTimer := some pollInterval, pollOwed := false }

/-- SUSPEND_ACCEPTED: the SUSPEND transaction ends (R64). RESET follows it where a timeout has been taken meanwhile (R70). -/
def execSuspendAccepted (s : State) : Answer :=
  .next (if s.link.inFlight = some .suspend then
    if s.link.resetOwed then s.setLink (s.link.ended.issueReset .controller) else s.setLink s.link.suspendAccepted
  else s)

/-- The suspension may serve one more read from the array (R65): fewer fetches than READ_STREAK so far. -/
def State.suspensionOpen (s : State) : Bool :=
  s.control.mode == .running && s.link.fetchesThisSuspension.getD 0 < s.params.readStreak

/-- In SUSPENDED with no transaction in flight. -/
def State.suspendedIdle (s : State) : Bool := s.link.state == .suspended && s.link.quiet

/-- One grant inside a suspension (R65): completed from staging where covered, a READ otherwise. The fetch streak is left. -/
def State.serveSuspended (s : State) (i : DttIndex) : State :=
  if s.grantCovered i then s.completeFromStaging i
  else (s.setFetching i).setLink (s.link.issueRead (.fetch i) s.dtt[i].addr s.dtt[i].len)

/-- SUSPENDED_FETCH_STEP: the oldest WAITING read is served inside the suspension (R65). -/
def execSuspendedFetchStep (s : State) : Answer :=
  .next (if s.suspendedIdle ∧ s.suspensionOpen then
    match s.oldestRead with
    | some i => s.serveSuspended i
    | none => s
  else s)

/-- The suspension is to end (R65): its limit is reached, no read waits, or the mode is not RUNNING. -/
def State.suspensionOver (s : State) : Bool := !s.suspensionOpen || !s.fetchPending

/-- END_SUSPENSION: RESUME is issued (R66). -/
def execEndSuspension (s : State) : Answer :=
  .next (if s.suspendedIdle ∧ s.suspensionOver then s.setLink (s.link.issue .controller .resume) else s)

/-- The link once the device has accepted RESUME: OP_BUSY, the operation timer running again from its value (R66). -/
def Link.resumed (l : Link) : Link :=
  { l.ended with state := .opBusy, fetchesThisSuspension := none, pollTimer := some pollInterval, pollOwed := false }

/-- RESUME_ACCEPTED: the RESUME transaction ends (R66). -/
def execResumeAccepted (s : State) : Answer :=
  .next (if s.link.inFlight = some .resume then s.setLink s.link.resumed else s)

/-! ### Timeouts and recovery -/

/-- The operation's running time exceeds its limit, in OP_BUSY or in SUSPENDING (R68). -/
def State.operationTimedOut (s : State) : Bool := s.link.operationRuns && s.link.opExceeded

/-- OPERATION_TIMER_EXPIRY: a timeout in the phase in which the timer ran (R68, R70). -/
def execOperationTimerExpiry (s : State) : Answer :=
  .next (if s.operationTimedOut then s.timeOut (if s.link.state = .suspending then .suspending else .running) else s)

/-- SUSPEND_WAIT_TIMER_EXPIRY: 100 µs since SUSPEND was issued, a timeout in phase SUSPENDING (R69, R70). -/
def execSuspendWaitTimerExpiry (s : State) : Answer :=
  .next (if reached suspendWaitLimit s.link.suspendWait then s.timeOut .suspending else s)

/-- RESET_ACCEPTED: the RESET transaction ends (R70, R174). -/
def execResetAccepted (s : State) : Answer :=
  .next (if s.link.inFlight = some .reset then s.resetTaken else s)

/-- RESET_WAIT_TIMER_EXPIRY: 1000 µs since RESET was issued; the link goes DOWN and the part enters HALTED (R71, R72). -/
def execResetWaitTimerExpiry (s : State) : Answer :=
  .next (if reached resetWaitLimit s.link.resetWait then s.linkDown else s)

end Sys2Proof.Machine
end

