-- ==== Sys2Proof/Machine/StartUp.lean ====
section
/-! DEFINITION. Power-on, RESET_N and the start-up sequencer (chapter 10), with the reset tables of every chapter. -/

namespace Sys2Proof.Machine

/-! ### The resets -/

/-- The state of the part at the entry to START of kind POWER_ON (R28, R51, R74, R119, R134, R144, R158, R170, R184, R196).
The memory device keeps its pages through a loss of power; the tick count starts again. -/
def State.poweredOn (s : State) (pfail : Bool) (maddr : BitVec 2) : State :=
  { State.reset with
    pending := s.pending
    array := s.array
    freeIndex := s.freeIndex
    control := { State.reset.control with pfail := pfail }
    port := { State.reset.port with maddr := some maddr } }

/-- POWER_ON: power is stable; PFAIL and MADDR are taken (R160, R170, R172, R185). -/
def execPowerOn (pfail : Bool) (maddr : BitVec 2) (s : State) : Answer := .next (s.poweredOn pfail maddr)

/-- The event queue across RESET_N: kept, but for the EVDATA byte cursor (R191, R196). -/
def EventQueue.resetN (q : EventQueue) : EventQueue := { q with cursor := 0 }

/-- The state of the part while RESET_N is asserted. Kept: the event queue, the frozen regions, the ATTN mask, the shadow, the PFAIL
level last taken, and the pages of the memory device. The window limit is the largest window (R81). -/
def State.resetNAsserted (s : State) : State :=
  { State.reset with
    pending := s.pending
    now := s.now
    resetAsserted := true
    array := s.array
    freeIndex := s.freeIndex
    control := { State.reset.control with pfail := s.control.pfail }
    sequencer := Sequencer.initial
    regions := keepFrozen s.regions
    params := { s.params with windowPages := 32704 }
    shadow := s.shadow
    events := s.events.resetN
    port := Port.initial }

/-- RESET_N_ASSERTION: every block takes its RESET_N values (R28, R50, R73, R119, R133, R144, R158, R170, R180, R196). -/
def execResetNAssertion (s : State) : Answer := .next (if s.resetAsserted then s else s.resetNAsserted)

/-- The start-up of kind RESET_N begins: PFAIL and MADDR are taken (R160, R172, R185). -/
def State.resetNDeasserted (s : State) (pfail : Bool) (maddr : BitVec 2) : State :=
  { s with
    resetAsserted := false
    control := { s.control with mode := .start, pfail := pfail }
    sequencer := { Sequencer.initial with phase := .size, startKind := some .resetN }
    port := { s.port with maddr := some maddr } }

/-- RESET_N_DEASSERTION (R160, R172, R185). -/
def execResetNDeassertion (pfail : Bool) (maddr : BitVec 2) (s : State) : Answer :=
  .next (if s.resetAsserted then s.resetNDeasserted pfail maddr else s)

/-! ### Size and device reset (R173, R174) -/

/-- The sequencer works in START, in a phase (R172). -/
def State.inPhase (s : State) (p : Phase) : Bool := s.control.mode == .start && s.sequencer.phase == p

/-- The device size in pages that an ASIZE code selects; none for the codes 5, 6 and 7 (R173). -/
def deviceSizeOf (asize : BitVec 3) : Option Nat :=
  match asize.toNat with
  | 0 => some 2048
  | 1 => some 4096
  | 2 => some 8192
  | 3 => some 16384
  | 4 => some 32768
  | _ => none

/-- The sample of ASIZE (R173): the device size and phase DEVICE_RESET, or HALTED with cause ASIZE_INVALID. -/
def State.takeSize (s : State) (asize : BitVec 3) : State :=
  match deviceSizeOf asize with
  | some n => s.setSequencer { s.sequencer with deviceSize := some n, phase := .deviceReset }
  | none => s.enterHalted (.asizeInvalid asize)

/-- SIZE: the one sample of the start-up (R173). -/
def execSize (asize : BitVec 3) (s : State) : Answer := .next (if s.inPhase .size then s.takeSize asize else s)

/-- DEVICE_RESET: RESET is issued for the start-up, with the link IDLE (R172, R174). -/
def execDeviceReset (s : State) : Answer :=
  .next (if s.inPhase .deviceReset ∧ s.linkFree then s.setLink (s.link.issueReset .startup) else s)

/-! ### The copies (R175) -/

/-- The READ of a configuration copy, from the first byte of its page (R53, R175). -/
def State.issueCopyRead (s : State) (c : Copy) : State :=
  s.setLink (s.link.issueRead .startup (copyPage (s.sequencer.deviceSize.getD 0) c * 512) recordLength)

/-- READ_A: the READ of copy A, once the link is IDLE (R175). -/
def execReadA (s : State) : Answer := .next (if s.inPhase .readA ∧ s.linkFree then s.issueCopyRead .a else s)

/-- READ_B: the READ of copy B, once the link is IDLE (R175). -/
def execReadB (s : State) : Answer := .next (if s.inPhase .readB ∧ s.linkFree then s.issueCopyRead .b else s)

/-! ### Choice and application (R178, R179) -/

/-- The choice of a copy; none is DEFAULT (R178). Sequence numbers compare as plain numbers. -/
def chosenCopy (a b : Option Verdict) : Option (Copy × ConfigRecord) :=
  match a, b with
  | some (.valid ra), some (.valid rb) =>
    if ra.fields.sequence.toNat < rb.fields.sequence.toNat then some (.b, rb) else some (.a, ra)
  | some (.valid ra), _ => some (.a, ra)
  | _, some (.valid rb) => some (.b, rb)
  | _, _ => none

/-- The source that a choice names. -/
def chosenSource (c : Option (Copy × ConfigRecord)) : Source :=
  match c with
  | some (copy, _) => copy.source
  | none => .default

/-- The record that a choice gives: the copy's, or the defaults for the device size (R176, R178). -/
def chosenRecord (c : Option (Copy × ConfigRecord)) (devicePages : Nat) : ConfigRecord :=
  match c with
  | some (_, r) => r
  | none => ConfigRecord.default devicePages

/-- CONFIG_DEFAULTS, where both copies are BAD (R178). -/
def State.noteDefaults (s : State) : State :=
  match s.sequencer.verdictA, s.sequencer.verdictB with
  | some (.bad a), some (.bad b) => s.appendEvent (.configDefaults a b) none none none
  | _, _ => s

/-- The active configuration takes the parameters of a record, its ATTN mask included (R179 steps 1 and 3). -/
def State.setParams (s : State) (p : Params) : State := { s with params := p }

/-- The shadow takes the fields of a record (R179 step 5). -/
def State.setShadow (s : State) (sh : Shadow) : State := { s with shadow := sh }

/-- The refresh table at an application (R179 step 4): adjusted after a REINIT, created otherwise. -/
def State.refreshApplied (s : State) : State :=
  if s.sequencer.startKind = some .reinit then
    s.setRefresh (s.refresh.adjust (s.params.windowPages / 64) s.params.refreshInterval)
  else s.setRefresh (Refresh.created (s.params.windowPages / 64))

/-- The loaded copy and sequence at an application (R178, R179 step 6). -/
def Sequencer.loaded (q : Sequencer) (source : Source) (sequence : BitVec 32) : Sequencer :=
  { q with loadedCopy := some source, loadedSequence := some sequence, applied := true }

/-- The application of a record from a source, in the order of R179. -/
def State.applyRecord (s : State) (source : Source) (r : ConfigRecord) : State :=
  let s1 := (s.setParams r.fields.params).applyRegions (r.regions.map RawRegion.region)
  ((s1.refreshApplied).setShadow { fields := r.fields, crc := r.crc }).setSequencer
    (s.sequencer.loaded source r.fields.sequence)

/-- The choice and the application of the configuration (R178, R179). -/
def State.applyConfiguration (s : State) : State :=
  let choice := chosenCopy s.sequencer.verdictA s.sequencer.verdictB
  s.noteDefaults.applyRecord (chosenSource choice) (chosenRecord choice (s.sequencer.deviceSize.getD 0))

/-- APPLY: one event of phase APPLY (R179). -/
def execApply (s : State) : Answer :=
  .next (if s.inPhase .apply ∧ s.sequencer.applied = false then s.applyConfiguration else s)

/-- The sequencer after a start-up: outside START, with what it has loaded (R179). -/
def Sequencer.finished (q : Sequencer) : Sequencer :=
  { q with phase := .idle, startKind := none, verdictA := none, verdictB := none, applied := false }

/-- The entry to RUNNING at the end of a start-up (R179): START_COMPLETE, the sequencer IDLE, a REINIT in progress ended DONE. -/
def State.completeStart (s : State) : State :=
  (((s.setMode .running).appendEvent
      (.startComplete (s.sequencer.loadedCopy.getD .default) (s.sequencer.startKind.getD .powerOn) (s.sequencer.loadedSequence.getD 0#32))
      none none none).setSequencer s.sequencer.finished).endReinit .done

/-- START_COMPLETE: the next event at the mode after the application (R179). -/
def execStartComplete (s : State) : Answer :=
  .next (if s.inPhase .apply ∧ s.sequencer.applied then s.completeStart else s)

end Sys2Proof.Machine
end

