-- ==== Sys2Proof/Machine/Commands.lean ====
section
/-! DEFINITION. The command unit and the nine commands (R187 to R189, R25, R26, R131, R139 to R143, R182, R193, R194), as operations that
the CMD write of the management port reaches. -/

namespace Sys2Proof.Machine

/-! ### The unit (R187, R188) -/

/-- The modes in which a command is accepted (R188). -/
def acceptsMode (c : MgmtCommand) (m : Mode) : Bool :=
  match c with
  | .sync | .retryEntry | .setRegion | .freezeRegion | .writeConfig | .reinit => m == .running
  | .discardEntry => m == .running || m == .drained || m == .halted
  | .clearCounters | .inspectEntry => m != .start

/-- A CMD write in BUSY: OVERRUN is set and nothing else changes (R187). -/
def State.overrun (s : State) : State := s.setCommand { s.command with overrun := true }

/-- A CMD write in IDLE is noted: the last command, OVERRUN clear (R187). -/
def State.noteCommand (s : State) (c : Option MgmtCommand) : State :=
  s.setCommand { s.command with last := c, overrun := false }

/-- A command ends REFUSED (R187, R188). -/
def State.refuse (s : State) (r : RefusalReason) : State := s.endCommand (.refused r) 0

/-- A short command ends DONE (R187). -/
def State.finish (s : State) : State := s.endCommand .done 0

/-- A long command that is accepted: the unit and the result read BUSY (R187). -/
def State.beginLong (s : State) : State := s.setCommand { s.command with busy := true, result := .busy, detail := 0 }

/-- A CMD write of one of the nine commands: OVERRUN in BUSY; in IDLE the command is noted, refused in a mode that it does not accept, and
handed to its owner otherwise (R187, R188). -/
def State.runCommand (s : State) (c : MgmtCommand) (owner : State → State) : State :=
  if s.command.busy then s.overrun
  else if acceptsMode c s.control.mode then owner (s.noteCommand (some c))
  else (s.noteCommand (some c)).refuse .mode

/-- A CMD write of a byte that names no command (R187, R188 row 1). -/
def State.rejectCode (s : State) : State := if s.command.busy then s.overrun else (s.noteCommand none).refuse .badArgument

/-! ### SYNC (R131) -/

/-- The end of SYNC's acceptance, its OPEN entries sealed: FAILED with the FAILED entries found, DONE with nothing to wait on, or WAITING. The record
holds the number of FAILED entries found, which is 0 in the last two cases (R130, R131). -/
def State.awaitSync (s : State) : State :=
  if s.failedCount ≠ 0 then (s.setSync (.idle s.failedCount)).endCommand .failed s.failedCount
  else if s.syncSlots = [] then (s.setSync (.idle 0)).finish
  else (s.setSync (.waiting (s.syncSlots.map s.pairOf) 0)).beginLong

/-- SYNC at the staging table and the SYNC record (R131). -/
def State.acceptSync (s : State) : State := (s.sealSlots s.openSlots).awaitSync

/-! ### The recovery commands (R25, R26) -/

/-- The FAILED entry of slot `i` returns to SEALED at the tail of the commit queue (R25). -/
def State.retrySlot (s : State) (i : Slot) : State :=
  (s.setEntry i { s.entries[i] with state := .sealed, attempts := 0 }).setQueue (s.commitQueue ++ [i])

/-- The page of slot `i` has an absorbing entry (R25). -/
def State.hasSuccessor (s : State) (i : Slot) : Bool := (s.entries[i].page.bind s.absorbingSlot).isSome

/-- RETRY_ENTRY at the staging table (R25). -/
def State.retryEntry (s : State) : State :=
  match s.argSlot with
  | none => s.refuse .badArgument
  | some i => if s.entries[i].state ≠ .failed ∨ s.hasSuccessor i then s.refuse .wrongState else (s.retrySlot i).finish

/-- The FAILED entry of slot `i` is freed, with ENTRY_DISCARDED (R26). -/
def State.discardSlot (s : State) (i : Slot) : State :=
  (s.freeEntry i).appendEvent (.entryDiscarded s.entries[i].generation) s.entries[i].page (some i) none

/-- DISCARD_ENTRY at the staging table (R26). -/
def State.discardEntry (s : State) : State :=
  match s.argSlot with
  | none => s.refuse .badArgument
  | some i => if s.entries[i].state ≠ .failed then s.refuse .wrongState else (s.discardSlot i).finish

/-! ### The protection commands (R139 to R143) -/

/-- A valid SET_REGION for region `n` (R139 rows 2 to 4). -/
def State.changeRegion (s : State) (n : RegionIndex) (r : Region) : State :=
  if s.regions[n].frozen then s.refuse .frozen
  else if s.blocked (s.regions.set n.val r n.isLt) then s.refuse .stagedInRange
  else (s.replaceRegion n r).finish

/-- SET_REGION at the protection unit (R139). -/
def State.setRegionCommand (s : State) : State :=
  match s.argRegion, s.argDescriptor with
  | some n, some r => if s.descriptorOk r then s.changeRegion n r else s.refuse .badArgument
  | _, _ => s.refuse .badArgument

/-- Region `n` is frozen, with REGION_FROZEN (R143). -/
def State.freeze (s : State) (n : RegionIndex) : State :=
  (s.setRegion n { s.regions[n] with frozen := true }).appendEvent (.regionFrozen n) (some s.regions[n].first) none none

/-- FREEZE_REGION at the protection unit (R143). -/
def State.freezeRegionCommand (s : State) : State :=
  match s.argRegion with
  | none => s.refuse .badArgument
  | some n => if s.regions[n].frozen then s.refuse .frozen else (s.freeze n).finish

/-! ### WRITE_CONFIG (R182) -/

/-- The copy that a WRITE_CONFIG targets (R182): B when the loaded copy is A, and A otherwise. -/
def Sequencer.nextTarget (q : Sequencer) : Copy := if q.loadedCopy = some .a then .b else .a

/-- The shadow's fields with the sequence of the record to be written: one more than the loaded one (R182). -/
def State.nextFields (s : State) : RecordFields :=
  { s.shadow.fields with magic := magicValue, version := 1#8, sequence := s.sequencer.loadedSequence.getD 0#32 + 1#32 }

/-- The region descriptors of the image: the live ones, clipped to the shadow's WINDOW_PAGES (R182). -/
def State.imageRegions (s : State) : Vector RawRegion 8 :=
  s.regions.map fun r => (r.clip s.shadow.fields.windowPages.toNat).raw

/-- The record that a WRITE_CONFIG writes (R182). -/
def State.nextRecord (s : State) : ConfigRecord where
  fields := s.nextFields
  regions := s.imageRegions
  crc := crc32 (recordBody s.nextFields s.imageRegions)

/-- The effects of an accepted WRITE_CONFIG with free slot `i` (R182). -/
def State.stageConfig (s : State) (i : Slot) : State :=
  (((s.allocConfig i (copyPage (s.sequencer.deviceSize.getD 0) s.sequencer.nextTarget) (recordImage s.nextRecord)).setSequencer
    { s.sequencer with writeTarget := some s.sequencer.nextTarget }).setShadow
    { fields := { s.shadow.fields with sequence := s.nextRecord.fields.sequence }, crc := s.nextRecord.crc }).beginLong

/-- The shadow passes checks 4, 5 and 6 of R177 (R182 row 1). -/
def State.shadowOk (s : State) : Bool :=
  s.shadow.fields.rangeOk && s.shadow.fields.orderOk && s.shadow.fields.windowOk (s.sequencer.deviceSize.getD 0)

/-- WRITE_CONFIG at the sequencer and the staging table (R182). -/
def State.writeConfigCommand (s : State) : State :=
  if s.shadowOk = false then s.refuse .badArgument
  else if s.sequencer.loadedSequence = some (BitVec.allOnes 32) then s.refuse .wrongState
  else
    match s.freeSlot with
    | none => s.refuse .noSlot
    | some i => s.stageConfig i

/-! ### REINIT, CLEAR_COUNTERS, INSPECT_ENTRY (R188, R193, R194) -/

/-- REINIT: the claim is handed to the mode controller and the unit becomes BUSY (R188). -/
def State.acceptReinit (s : State) : State := (s.setControl { s.control with reinitClaimed := true }).beginLong

/-- CLEAR_COUNTERS: the four counters become 0, the holding bytes stay (R193). -/
def State.clearCounters (s : State) : State :=
  (s.setCounters { s.counters with stagingRetries := 0#16, elidedCommits := 0#16, suspensions := 0#16, unrecordedRetries := 0#16 }).finish

/-- The bytes of a line that the window shows: the buffer's, 00h outside the valid set (R194). -/
def Entry.lineBytes (e : Entry) (line : Fin 8) : List Byte := (List.range 64).map fun k => (e.covers (64 * line.val + k)).getD 0#8

/-- The snapshot of one entry and one line (R194). DESIGN CHOICE (unsafe, log entry 42): slot and line are as given for a FREE entry too, of which R194 also says
that every field but state and generation is none, zero or empty. -/
def State.snapshot (s : State) (i : Slot) (line : Fin 8) : Snapshot where
  slot := i
  line := line
  state := s.entries[i].state
  generation := s.entries[i].generation
  origin := s.entries[i].origin
  page := s.entries[i].page
  writtenCount := setSize s.entries[i].written
  validCount := setSize s.entries[i].valid
  writers := s.entries[i].writers
  attempts := s.entries[i].attempts
  sealOrder := s.sealOrder i
  writtenMap := s.entries[i].written.extractLsb' (64 * line.val) 64
  validMap := s.entries[i].valid.extractLsb' (64 * line.val) 64
  data := s.entries[i].lineBytes line

/-- INSPECT_ENTRY (R194). -/
def State.inspectCommand (s : State) : State :=
  match s.argSlot, s.argLine with
  | some i, some line => (s.setPort { s.port with window := some (s.snapshot i line) }).finish
  | _, _ => s.refuse .badArgument

/-! ### A byte written to CMD (R187) -/

/-- The owner of a command (R188). -/
def commandOwner : MgmtCommand → State → State
  | .sync => State.acceptSync
  | .retryEntry => State.retryEntry
  | .discardEntry => State.discardEntry
  | .setRegion => State.setRegionCommand
  | .freezeRegion => State.freezeRegionCommand
  | .writeConfig => State.writeConfigCommand
  | .reinit => State.acceptReinit
  | .clearCounters => State.clearCounters
  | .inspectEntry => State.inspectCommand

/-- A byte written to CMD (R187, R188). -/
def State.writeCmd (s : State) (code : Byte) : State :=
  match decodeCommand code with
  | some c => s.runCommand c (commandOwner c)
  | none => s.rejectCode

end Sys2Proof.Machine
end

