-- ==== Sys2Proof/Machine/Registers.lean ====
section
/-! DEFINITION. The registers of the management port (12.4): what a read of each returns, and what the reads and writes that have an effect
of their own do (R185, R186, R190, R191, R195). -/

namespace Sys2Proof.Machine

/-! ### The shadow's bytes (R195, R146) -/

/-- The shadow as the record it stands for: its region descriptors are the live ones (R146). -/
def State.shadowRecord (s : State) : ConfigRecord where
  fields := s.shadow.fields
  regions := s.regions.map Region.raw
  crc := s.shadow.crc

/-- The byte of the shadow at an index. -/
def State.shadowByte (s : State) (i : Fin 82) : Byte := s.shadowRecord.bytes.getD i.val 0#8

/-- The bytes of the shadow that an edit may change: the parameters and the ATTN mask (R181, R195). -/
def editable (i : Fin 82) : Bool := (5 ≤ i.val && i.val ≤ 7) || (12 ≤ i.val && i.val ≤ 29)

/-- The fields with one byte replaced. -/
def RecordFields.setByte (f : RecordFields) (i : Nat) (v : Byte) : RecordFields := fieldsOf (f.bytes.set i v)

/-- The modes in which an edit of the shadow is taken: any but START and HALTED (R181, R195). -/
def Mode.editsShadow (m : Mode) : Bool := m != .start && m != .halted

/-- A write of the shadow byte at an index (R181, R195). -/
def State.editShadow (s : State) (i : Fin 82) (v : Byte) : State :=
  if s.control.mode.editsShadow ∧ editable i then
    s.setShadow { s.shadow with fields := s.shadow.fields.setByte i.val v }
  else s

/-! ### Addresses (12.4) -/

/-- The address of EVDATA. -/
abbrev evdataAddr : Byte := 0x0A#8

/-- The address of EVLOST. -/
abbrev evlostAddr : Byte := 0x0B#8

/-- The address of CMD. -/
abbrev cmdAddr : Byte := 0x10#8

/-- The address of CFG_INDEX. -/
abbrev cfgIndexAddr : Byte := 0x30#8

/-- The address of CFG_DATA. -/
abbrev cfgDataAddr : Byte := 0x31#8

/-- The address of a counter's low byte. -/
def counterLowAddr : CounterId → Byte
  | .stagingRetries => 0x20#8
  | .elidedCommits => 0x22#8
  | .suspensions => 0x24#8
  | .unrecordedRetries => 0x26#8

/-- The value of a counter (R193). -/
def Counters.value (c : Counters) : CounterId → BitVec 16
  | .stagingRetries => c.stagingRetries
  | .elidedCommits => c.elidedCommits
  | .suspensions => c.suspensions
  | .unrecordedRetries => c.unrecordedRetries

/-- The holding byte of a counter (R186). -/
def Counters.held (c : Counters) : CounterId → Byte
  | .stagingRetries => c.holdStagingRetries
  | .elidedCommits => c.holdElidedCommits
  | .suspensions => c.holdSuspensions
  | .unrecordedRetries => c.holdUnrecordedRetries

/-- Copy the high byte of a counter into its holding byte (R186). -/
def Counters.hold (c : Counters) : CounterId → Counters
  | .stagingRetries => { c with holdStagingRetries := c.stagingRetries.extractLsb' 8 8 }
  | .elidedCommits => { c with holdElidedCommits := c.elidedCommits.extractLsb' 8 8 }
  | .suspensions => { c with holdSuspensions := c.suspensions.extractLsb' 8 8 }
  | .unrecordedRetries => { c with holdUnrecordedRetries := c.unrecordedRetries.extractLsb' 8 8 }

/-! ### What a read returns (R186, 12.4) -/

/-- The drain cause as MODE shows it (12.4). -/
def causeBits (c : Option DrainCause) : Nat :=
  match c with
  | none => 0
  | some .pfail => 1
  | some .reinit => 2

/-- A Bool as a bit. -/
def bit (b : Bool) : Nat := if b then 1 else 0

/-- The MODE register (R159, 12.4). -/
def State.modeByte (s : State) : Byte :=
  BitVec.ofNat 8 (s.control.mode.code + 8 * causeBits s.control.drainCause + 32 * bit s.control.reinitPending +
    64 * bit s.control.pfail + 128 * bit s.psafe)

/-- The code of a command as CMD_STATUS shows it, 0 for none (12.4). -/
def lastCode (c : Option MgmtCommand) : Nat :=
  match c with
  | none => 0
  | some k => k.code.toNat

/-- The CMD_STATUS register (12.4). Its bits 3:2 are a free value (log entry 41). -/
def CommandUnit.statusByte (c : CommandUnit) : Byte :=
  BitVec.ofNat 8 (bit c.busy + 2 * bit c.overrun + 4 * Config.cmdStatusSpare.toNat + 16 * lastCode c.last)

/-- A page field of two bytes, FFFFh for none (12.3, 12.4). -/
def pageBits (p : Option Nat) : BitVec 16 :=
  match p with
  | some n => BitVec.ofNat 16 n
  | none => 0xFFFF#16

/-- A seal order, FFh for none (12.4). -/
def orderByte (o : Option Nat) : Byte :=
  match o with
  | some n => BitVec.ofNat 8 n
  | none => 0xFF#8

/-- An origin, 0 for none (12.4). -/
def originCode (o : Option Origin) : Nat :=
  match o with
  | some x => x.code
  | none => 0

/-- The eight bytes of a line map, bit `k` of byte `j` for offset 8j + k (12.4). -/
def mapBytes (m : BitVec 64) : List Byte := (List.range 8).map fun j => m.extractLsb' (8 * j) 8

/-- The 94 bytes of the inspection window with a snapshot (12.4). -/
def Snapshot.bytes (w : Snapshot) : List Byte :=
  [BitVec.ofNat 8 w.slot.val, BitVec.ofNat 8 w.line.val, BitVec.ofNat 8 w.state.code, w.generation, BitVec.ofNat 8 (originCode w.origin)] ++
    bytes16 (pageBits w.page) ++ bytes16 (BitVec.ofNat 16 w.writtenCount) ++ bytes16 (BitVec.ofNat 16 w.validCount) ++
    [w.writers, BitVec.ofNat 8 w.attempts, orderByte w.sealOrder] ++ mapBytes w.writtenMap ++ mapBytes w.validMap ++ w.data

/-- A byte of the inspection window; with no snapshot every field reads 0 (R194). -/
def State.windowByte (s : State) (i : Nat) : Byte :=
  match s.port.window with
  | some w => w.bytes.getD i 0#8
  | none => 0#8

/-- The byte that the head record gives at the cursor; 00h where the queue is empty (R191). -/
def EventQueue.headByte (q : EventQueue) : Byte :=
  match q.records with
  | r :: _ => r.byte q.cursor
  | [] => 0#8

/-- The byte of the four arguments at a place 0 to 7, the low byte of each first (R186). -/
def argByte (args : Vector (BitVec 16) 4) (k : Nat) : Byte := (args.toList.flatMap bytes16).getD k 0#8

/-- The registers from 20h to 27h: each counter's low byte, then its holding byte (R186). -/
def Counters.bytes (c : Counters) : List Byte :=
  [.stagingRetries, .elidedCommits, .suspensions, .unrecordedRetries].flatMap fun k => [(c.value k).extractLsb' 0 8, c.held k]

/-- The bits of the ATTN mask that name an event code: 1 to 21 (12.3). -/
def eventCodeBits : BitVec 32 := 0x003FFFFE#32

/-- The four bytes of ATTN_MASK (R186): the enables in force. What stands at the bits that name no event code is a free value (log entry 40). -/
def State.attnMaskShown (s : State) : BitVec 32 :=
  (s.params.attnMask &&& eventCodeBits) ||| (Config.attnMaskSpare s.params.attnMask &&& ~~~ eventCodeBits)

/-- The byte that a read of the register at an address returns (12.4); 00h where the address names no register (R185). -/
def State.readRegister (s : State) (a : Byte) : Byte :=
  match a.toNat with
  | 0x00 => 0x16#8
  | 0x01 => 0x7#4 ++ Config.revision
  | 0x02 => s.modeByte
  | 0x03 => BitVec.ofNat 8 s.freeCount
  | 0x04 => BitVec.ofNat 8 s.failedCount
  | 0x05 => BitVec.ofNat 8 s.events.records.length
  | 0x0A => s.events.headByte
  | 0x0B => s.events.lost
  | 0x11 => BitVec.ofNat 8 s.command.result.bits
  | 0x12 => BitVec.ofNat 8 s.command.detail
  | 0x13 => s.command.statusByte
  | 0x30 => BitVec.ofNat 8 s.port.cfgIndex.val
  | 0x31 => s.shadowByte s.port.cfgIndex
  | n =>
    if 0x06 ≤ n ∧ n ≤ 0x09 then (bytes32 s.attnMaskShown).getD (n - 0x06) 0#8
    else if 0x14 ≤ n ∧ n ≤ 0x1B then argByte s.port.args (n - 0x14)
    else if 0x20 ≤ n ∧ n ≤ 0x27 then s.counters.bytes.getD (n - 0x20) 0#8
    else if 0x40 ≤ n ∧ n ≤ 0x9D then s.windowByte (n - 0x40)
    else 0#8

/-! ### The pointer (R185) -/

/-- The pointer after a byte at an address (R185): one more, from 255 to 0; it stays at EVDATA and at CFG_DATA. -/
def nextPointer (a : Byte) : Byte := if a = evdataAddr ∨ a = cfgDataAddr then a else a + 1#8

/-- The port answers its address (R185): not while RESET_N is asserted, and not before MADDR has been sampled. -/
def State.portAnswers (s : State) : Bool := !s.resetAsserted && s.port.maddr.isSome

/-- The seven-bit address of the port (R185): 1011000 binary plus MADDR. -/
def State.portAddress (s : State) : Option (BitVec 7) := s.port.maddr.map fun m => 0x58#7 + m.setWidth 7

/-- A byte at the port: acted on where the port answers, not acknowledged otherwise. -/
def State.onPort (s : State) (f : State → State) : State := if s.portAnswers then f s else s.setPort { s.port with reply := .nack }

/-- A byte has been written to the register at an address: acknowledged, and the pointer moves on. -/
def State.wrote (s : State) (a : Byte) : State := s.setPort { s.port with pointer := nextPointer a, reply := .ack }

/-- A byte has been read from the register at an address: returned, and the pointer moves on. -/
def State.returned (s : State) (a : Byte) (v : Byte) : State := s.setPort { s.port with pointer := nextPointer a, reply := .byte v }

/-! ### Reads with an effect -/

/-- An EVDATA read at the event queue (R191): the cursor advances; at the eighth byte the head record is removed. -/
def EventQueue.takeByte (q : EventQueue) : EventQueue :=
  match q.records with
  | _ :: rest => if q.cursor = 7 then { q with records := rest, cursor := 0 } else { q with cursor := q.cursor + 1 }
  | [] => q

/-- The effect of reading the register at an address, beside the byte returned and the pointer (R186, R190, R191, R195). -/
def State.readEffect (s : State) (a : Byte) : State :=
  match a.toNat with
  | 0x0A => s.setEvents s.events.takeByte
  | 0x0B => s.setEvents { s.events with lost := 0#8 }
  | 0x20 => s.setCounters (s.counters.hold .stagingRetries)
  | 0x22 => s.setCounters (s.counters.hold .elidedCommits)
  | 0x24 => s.setCounters (s.counters.hold .suspensions)
  | 0x26 => s.setCounters (s.counters.hold .unrecordedRetries)
  | 0x31 => s.setPort { s.port with cfgIndex := s.port.cfgIndex + 1 }
  | _ => s

/-- A byte read from the register at an address: its value, its effect, and the pointer (R185). A read of a register without an effect of its
own changes the pointer alone. -/
def State.busRead (s : State) (a : Byte) : State := (s.readEffect a).returned a (s.readRegister a)

/-- The address of the register that a read names. -/
def State.readAddress (s : State) (place : ReadPlace) : Byte :=
  match place with
  | .counter k => counterLowAddr k
  | .pointer => s.port.pointer

/-! ### Writes -/

/-- One byte of the four arguments, the low byte of each first (R186). -/
def setArgByte (args : Vector (BitVec 16) 4) (k : Fin 8) (v : Byte) : Vector (BitVec 16) 4 :=
  Vector.ofFn fun n =>
    if n.val = k.val / 2 then (if k.val % 2 = 0 then args[n].extractLsb' 8 8 ++ v else v ++ args[n].extractLsb' 0 8) else args[n]

/-- A write to CFG_INDEX: a value at or beyond the record length sets 0 (R195). -/
def State.writeCfgIndex (s : State) (v : Byte) : State :=
  s.setPort { s.port with cfgIndex := if h : v.toNat < 82 then ⟨v.toNat, h⟩ else 0 }

/-- A write to CFG_DATA: the edit, where it is taken, and the index advances in every case (R195). -/
def State.writeCfgData (s : State) (v : Byte) : State :=
  let t := s.editShadow s.port.cfgIndex v
  t.setPort { t.port with cfgIndex := t.port.cfgIndex + 1 }

/-- A write to one of the registers from 14h to 1Bh (R186). -/
def State.writeArg (s : State) (k : Fin 8) (v : Byte) : State := s.setPort { s.port with args := setArgByte s.port.args k v }

/-- The effect of a byte written to the register at an address, beside the pointer (R185, R186, R187, R195): a write to a read-only register or
to an address that names none is ignored. -/
def State.writeEffect (s : State) (a v : Byte) : State :=
  if h : 0x14 ≤ a.toNat ∧ a.toNat ≤ 0x1B then s.writeArg ⟨a.toNat - 0x14, by omega⟩ v
  else
    match a.toNat with
    | 0x10 => s.writeCmd v
    | 0x30 => s.writeCfgIndex v
    | 0x31 => s.writeCfgData v
    | _ => s

/-- A byte written to the register at an address: its effect and the pointer (R185). -/
def State.busWrite (s : State) (a v : Byte) : State := (s.writeEffect a v).wrote a

end Sys2Proof.Machine
end

