-- ==== Sys2Proof/Machine/Management.lean ====
section
/-! DEFINITION. The commands of the management port (chapter 11): a byte written to CMD for each of the nine commands, and the other bytes of a
transfer. A byte written to CMD leaves the register pointer at the register after CMD (R185). -/

namespace Sys2Proof.Machine

/-- A CMD write of one of the nine commands, as it reaches the port (R185, R187). -/
def State.writeCommand (s : State) (c : MgmtCommand) (owner : State → State) : State :=
  s.onPort fun t => (t.runCommand c owner).wrote cmdAddr

/-- SYNC (R131, R187, R188). -/
def execSync (s : State) : Answer := .next (s.writeCommand .sync State.acceptSync)

/-- RETRY_ENTRY (R25, R187, R188). -/
def execRetryEntry (s : State) : Answer := .next (s.writeCommand .retryEntry State.retryEntry)

/-- DISCARD_ENTRY (R26, R187, R188). -/
def execDiscardEntry (s : State) : Answer := .next (s.writeCommand .discardEntry State.discardEntry)

/-- SET_REGION (R139 to R141, R187, R188). -/
def execSetRegion (s : State) : Answer := .next (s.writeCommand .setRegion State.setRegionCommand)

/-- FREEZE_REGION (R143, R187, R188). -/
def execFreezeRegion (s : State) : Answer := .next (s.writeCommand .freezeRegion State.freezeRegionCommand)

/-- WRITE_CONFIG (R182, R187, R188). -/
def execWriteConfig (s : State) : Answer := .next (s.writeCommand .writeConfig State.writeConfigCommand)

/-- REINIT (R164, R187, R188). -/
def execReinit (s : State) : Answer := .next (s.writeCommand .reinit State.acceptReinit)

/-- CLEAR_COUNTERS (R187, R188, R193). -/
def execClearCounters (s : State) : Answer := .next (s.writeCommand .clearCounters State.clearCounters)

/-- INSPECT_ENTRY (R187, R188, R194). -/
def execInspectEntry (s : State) : Answer := .next (s.writeCommand .inspectEntry State.inspectCommand)

/-- UNKNOWN_COMMAND: a byte that names no command (R187, R188). -/
def execUnknownCommand (code : Byte) (s : State) : Answer := .next (s.onPort fun t => t.busWrite cmdAddr code)

/-- POINTER_WRITE: the first data byte of a write transfer (R185). -/
def execPointerWrite (value : Byte) (s : State) : Answer :=
  .next (s.onPort fun t => t.setPort { t.port with pointer := value, reply := .ack })

/-- REGISTER_WRITE: a further data byte of a write transfer, at the pointer (R185, R186). -/
def execRegisterWrite (value : Byte) (s : State) : Answer := .next (s.onPort fun t => t.busWrite t.port.pointer value)

/-- EVDATA_READ (R191). -/
def execEvdataRead (s : State) : Answer := .next (s.onPort fun t => t.busRead evdataAddr)

/-- EVLOST_READ (R190). -/
def execEvlostRead (s : State) : Answer := .next (s.onPort fun t => t.busRead evlostAddr)

/-- COUNTER_LOW_BYTE_READ: the byte of a counter's low register (R186), or of the register at the pointer (R185). DESIGN CHOICE (log entry 18): the
second stands for the read of every register that has no command of its own. -/
def execCounterLowByteRead (place : ReadPlace) (s : State) : Answer := .next (s.onPort fun t => t.busRead (t.readAddress place))

/-- CFG_INDEX_WRITE (R195). -/
def execCfgIndexWrite (value : Byte) (s : State) : Answer := .next (s.onPort fun t => t.busWrite cfgIndexAddr value)

/-- CFG_DATA_READ (R195). -/
def execCfgDataRead (s : State) : Answer := .next (s.onPort fun t => t.busRead cfgDataAddr)

/-- CFG_DATA_WRITE (R181, R195). -/
def execCfgDataWrite (value : Byte) (s : State) : Answer := .next (s.onPort fun t => t.busWrite cfgDataAddr value)

/-- TRANSFER_END: a stop or a repeated start; the EVDATA byte cursor returns to 0 (R185, R191). -/
def execTransferEnd (s : State) : Answer :=
  .next (s.onPort fun t => (t.setEvents { t.events with cursor := 0 }).setPort { t.port with reply := .none })

end Sys2Proof.Machine
end

