-- ==== Sys2Proof/Machine/ModeEvents.lean ====
section
/-! DEFINITION. The events at the mode controller (chapter 9). -/

namespace Sys2Proof.Machine

/-- Record the level of PFAIL (R160). -/
def State.setPfail (s : State) (level : Bool) : State := s.setControl { s.control with pfail := level }

/-- PFAIL becomes asserted (R160): a drain start in RUNNING, the cause PFAIL in DRAIN, the level alone in the other modes. -/
def State.pfailAsserts (s : State) : State :=
  match s.control.mode with
  | .running => (s.setPfail true).drainStart .pfail
  | .drain => s.setControl { s.control with pfail := true, drainCause := some .pfail }
  | .start | .drained | .halted => s.setPfail true

/-- PFAIL_ASSERTION: a change of the level to asserted. None is taken while RESET_N is asserted (R160). -/
def execPfailAssertion (s : State) : Answer :=
  .next (if s.resetAsserted ∨ s.control.pfail then s else s.pfailAsserts)

/-- PFAIL becomes deasserted (R165, R167): DRAINED is left with DRAIN_RECOVERED; in the other modes the level alone. -/
def State.pfailDeasserts (s : State) : State :=
  if s.control.mode = .drained then
    ((s.setPfail false).appendEvent (.drainRecovered s.control.reinitPending) none none none).leaveDrain
  else s.setPfail false

/-- PFAIL_DEASSERTION: a change of the level to deasserted. None is taken while RESET_N is asserted (R160). -/
def execPfailDeassertion (s : State) : Answer :=
  .next (if s.resetAsserted ∨ s.control.pfail = false then s else s.pfailDeasserts)

/-- DEFERRED_DRAIN_START: the drain start owed where RUNNING was entered with PFAIL asserted (R160). -/
def execDeferredDrainStart (s : State) : Answer :=
  .next (if s.control.mode = .running ∧ s.control.pfail then s.drainStart .pfail else s)

/-- The REINIT claim, taken from the command unit (R164). -/
def State.takeReinitClaim (s : State) : State :=
  match s.control.mode with
  | .running => (s.setControl { s.control with reinitClaimed := false, reinitPending := true }).drainStart .reinit
  | .drain | .drained => s.setControl { s.control with reinitClaimed := false, reinitPending := true }
  | .halted => (s.setControl { s.control with reinitClaimed := false }).endReinit .failed
  | .start => s

/-- REINIT_CLAIM: the mode controller takes the claim that the command unit has handed on (R164). -/
def execReinitClaim (s : State) : Answer := .next (if s.control.reinitClaimed then s.takeReinitClaim else s)

/-- DRAIN_COMPLETION: in DRAIN with no entry SEALED or COMMITTING (R163, R166). -/
def execDrainCompletion (s : State) : Answer :=
  .next (if s.control.mode = .drain ∧ s.drained then s.completeDrain else s)

end Sys2Proof.Machine
end

