-- ==== Sys2Proof/Machine/Requests.lean ====
section
/-! DEFINITION. The four request commands of the system port (chapter 4): the checks in their order, the write path, the read path and
the fence path. -/

namespace Sys2Proof.Machine

/-! ### Refusals (R85) -/

/-- A READ refused: READ_FAULT with the request's page and requester, and the FAULT (R85). -/
def State.refuseRead (s : State) (kind : FaultKind) (found : Option AccessMode) (req : Requester) (addr : Nat) : State :=
  (s.appendEvent (.readFault kind found) (some (pageOf addr)) none (some req)).respond (.fault kind)

/-- A WRITE refused: WRITE_FAULT with the request's page and requester, and the FAULT (R85). -/
def State.refuseWrite (s : State) (kind : FaultKind) (found : Option AccessMode) (req : Requester) (addr : Nat) : State :=
  (s.appendEvent (.writeFault kind found) (some (pageOf addr)) none (some req)).respond (.fault kind)

/-- A FENCE refused at the mode gate: FENCE_FAULT with detail DEVICE, the requester alone beside it (R85). -/
def State.refuseFence (s : State) (req : Requester) : State :=
  (s.appendEvent (.fenceFault .device .arrival) none none (some req)).respond (.fault .device)

/-! ### The write path (R86 to R89) -/

/-- The response to the outcome of a write claim (R86, R87, R89). -/
def State.answerWrite (t : State) (outcome : WriteOutcome) (req : Requester) (addr : Nat) (data : List Byte) : State :=
  match outcome with
  | .absorbed => (t.patchReady (pageOf addr) (offsetOf addr) data).respond .done
  | .pressure => t.countStagingRetry.respond .retry
  | .busy => t.countStagingRetry.respond .retry
  | .exhausted => t.refuseWrite .staging none req addr

/-- A WRITE that has passed the checks in RUNNING (R86). -/
def State.writePath (s : State) (req : Requester) (addr : Nat) (data : List Byte) : State :=
  (s.stageWrite (pageOf addr) (offsetOf addr) data req).2.answerWrite
    (s.stageWrite (pageOf addr) (offsetOf addr) data req).1 req addr data

/-- A WRITE at the protection check, in RUNNING (R84). -/
def State.protectWrite (s : State) (req : Requester) (addr : Nat) (data : List Byte) : State :=
  match s.effectiveMode (pageOf addr) with
  | .readWrite => s.writePath req addr data
  | m => s.refuseWrite .protect (some m) req addr

/-- A WRITE at the mode gate (R82). -/
def State.gateWrite (s : State) (req : Requester) (addr : Nat) (data : List Byte) : State :=
  match s.control.mode with
  | .running => s.protectWrite req addr data
  | .halted => s.refuseWrite .device none req addr
  | .start | .drain | .drained => s.respond .retry

/-- A WRITE through its checks in their order (R79). -/
def State.takeWrite (s : State) (req : Requester) (addr len : Nat) (data : List Byte) : State :=
  if formatOk addr len = false then s.refuseWrite .format none req addr
  else if s.rangeOk addr = false then s.refuseWrite .range none req addr
  else s.gateWrite req addr data

/-- WRITE_REQUEST. While RESET_N is asserted every request is answered RETRY and nothing changes (R75). -/
def execWriteRequest (req : Requester) (addr : BitVec 24) (len : BitVec 7) (data : List Byte) (s : State) : Answer :=
  .next (if s.resetAsserted then s.respond .retry else s.takeWrite req addr.toNat len.toNat data)

/-! ### The read path (R90 to R93) -/

/-- The hand-off of a READ that neither matches nor is fully covered, by mode (R90 step 3, R92, R93). -/
def State.handOffRead (s : State) (req : Requester) (addr len : Nat) : State :=
  match s.control.mode with
  | .running => s.recordRead req addr len
  | .halted => s.refuseRead .device none req addr
  | .start | .drain | .drained => s.respond .retry

/-- A READ that has passed the checks: the match, then the coverage lookup, then the hand-off (R90, R91). -/
def State.readPath (s : State) (req : Requester) (addr len : Nat) : State :=
  match s.matchDtt (.read req addr len) with
  | some i => s.answerMatch i
  | none =>
    if s.fullyCovered (pageOf addr) (offsetOf addr) len then
      s.respond (.data (s.coveredBytes (pageOf addr) (offsetOf addr) len))
    else s.handOffRead req addr len

/-- A READ at the protection check (R84). A refusal frees a matching delayed entry (R102). -/
def State.protectRead (s : State) (req : Requester) (addr len : Nat) : State :=
  match s.effectiveMode (pageOf addr) with
  | .noAccess => (s.refuseReissue req addr len).refuseRead .protect (some .noAccess) req addr
  | _ => s.readPath req addr len

/-- A READ at the mode gate (R82). -/
def State.gateRead (s : State) (req : Requester) (addr len : Nat) : State :=
  if s.control.mode = .start then s.respond .retry else s.protectRead req addr len

/-- A READ through its checks in their order (R79). A range refusal frees a matching delayed entry (R102). -/
def State.takeRead (s : State) (req : Requester) (addr len : Nat) : State :=
  if formatOk addr len = false then s.refuseRead .format none req addr
  else if s.rangeOk addr = false then (s.refuseReissue req addr len).refuseRead .range none req addr
  else s.gateRead req addr len

/-- READ_REQUEST. While RESET_N is asserted every request is answered RETRY and nothing changes (R75). -/
def execReadRequest (req : Requester) (addr : BitVec 24) (len : BitVec 7) (s : State) : Answer :=
  .next (if s.resetAsserted then s.respond .retry else s.takeRead req addr.toNat len.toNat)

/-! ### The fence path (R94) -/

/-- A FENCE that has passed the gate: the match, then the fence logic's decision (R94, R121). -/
def State.fencePath (s : State) (req : Requester) : State :=
  match s.matchDtt (.fence req) with
  | some i => s.answerMatch i
  | none => s.decideFence req

/-- A FENCE at the mode gate, the only check it meets (R79, R82). -/
def State.takeFence (s : State) (req : Requester) : State :=
  match s.control.mode with
  | .start => s.respond .retry
  | .halted => s.refuseFence req
  | .running | .drain | .drained => s.fencePath req

/-- FENCE_REQUEST. While RESET_N is asserted every request is answered RETRY and nothing changes (R75). -/
def execFenceRequest (req : Requester) (s : State) : Answer :=
  .next (if s.resetAsserted then s.respond .retry else s.takeFence req)

/-- INVALID_KIND_REQUEST: FAULT FORMAT in every mode, with READ_FAULT and no other check (R197). -/
def execInvalidKindRequest (req : Requester) (addr : BitVec 24) (s : State) : Answer :=
  .next (if s.resetAsserted then s.respond .retry else s.refuseRead .format none req addr.toNat)

end Sys2Proof.Machine
end

