-- ==== Sys2Proof/Machine/Timers.lean ====
section
/-! DEFINITION. The timer expiries of the staging table and of the delayed transaction table, and the step of the refresh scheduler. -/

namespace Sys2Proof.Machine

/-- The timers of OPEN entries run in RUNNING and in DRAIN (R12). -/
def State.openTimersRun (s : State) : Bool := s.control.mode == .running || s.control.mode == .drain

/-- IDLE_TIMER_EXPIRY: the OPEN entry whose idle timer has run out is sealed (R10, R14). A timer that has stopped, or that a write taken first
has restarted, does not expire. -/
def execIdleTimerExpiry (slot : Slot) (s : State) : Answer :=
  .next (if s.openTimersRun ∧ s.entries[slot].idleTimer = some 0 then s.sealSlot slot else s)

/-- OPEN_AGE_TIMER_EXPIRY: the OPEN entry whose open-age timer has run out is sealed (R11, R14). -/
def execOpenAgeTimerExpiry (slot : Slot) (s : State) : Answer :=
  .next (if s.openTimersRun ∧ s.entries[slot].ageTimer = some 0 then s.sealSlot slot else s)

/-- The page that READ_DISCARDED names (R113): the READ's page; none for a FENCE. -/
def DttEntry.discardPage (d : DttEntry) : Option Nat := if d.kind = some .read then some (pageOf d.addr) else none

/-- The expiry of the discard timer of entry `i` (R113): the entry becomes FREE and READ_DISCARDED is appended. -/
def State.discardResult (s : State) (i : DttIndex) : State :=
  match s.dtt[i].kind, s.dtt[i].result with
  | some k, some r => (s.freeDtt i).appendEvent (.readDiscarded k r) s.dtt[i].discardPage none s.dtt[i].requester
  | _, _ => s

/-- DISCARD_TIMER_EXPIRY: it finds a READY entry whose timer has run out (R112, R113). -/
def execDiscardTimerExpiry (index : DttIndex) (s : State) : Answer :=
  .next (if s.dtt[index].state = .ready ∧ s.dtt[index].discard = some 0 then s.discardResult index else s)

/-- REFRESH_STEP: while the conditions of R150 hold, the next pending sector is served (R151, R152). -/
def execRefreshStep (s : State) : Answer :=
  .next (if s.mayRefresh then
    match s.nextPending with
    | some sector => s.refreshSector sector
    | none => s
  else s)

end Sys2Proof.Machine
end

