-- ==== Sys2Proof/Machine/Dispatch.lean ====
section
/-! DEFINITION. One arm per command, each one direct call of the command's meaning. -/

namespace Sys2Proof.Machine

def exec (i : Instr) (s : State) : Host.Outcome State Fault Refusal :=
  match i with
  | .writeRequest req addr len data => Sys2Proof.Machine.execWriteRequest req addr len data s
  | .readRequest req addr len => Sys2Proof.Machine.execReadRequest req addr len s
  | .fenceRequest req => Sys2Proof.Machine.execFenceRequest req s
  | .invalidKindRequest req addr => Sys2Proof.Machine.execInvalidKindRequest req addr s
  | .idleTimerExpiry slot => Sys2Proof.Machine.execIdleTimerExpiry slot s
  | .openAgeTimerExpiry slot => Sys2Proof.Machine.execOpenAgeTimerExpiry slot s
  | .takeHead => Sys2Proof.Machine.execTakeHead s
  | .arbiterDecision => Sys2Proof.Machine.execArbiterDecision s
  | .longOperationAccepted => Sys2Proof.Machine.execLongOperationAccepted s
  | .readCompletion bytes => Sys2Proof.Machine.execReadCompletion bytes s
  | .pollTime => Sys2Proof.Machine.execPollTime s
  | .suspendAccepted => Sys2Proof.Machine.execSuspendAccepted s
  | .statusReply cond failFlag => Sys2Proof.Machine.execStatusReply cond failFlag s
  | .suspendedFetchStep => Sys2Proof.Machine.execSuspendedFetchStep s
  | .endSuspension => Sys2Proof.Machine.execEndSuspension s
  | .resumeAccepted => Sys2Proof.Machine.execResumeAccepted s
  | .operationTimerExpiry => Sys2Proof.Machine.execOperationTimerExpiry s
  | .suspendWaitTimerExpiry => Sys2Proof.Machine.execSuspendWaitTimerExpiry s
  | .resetAccepted => Sys2Proof.Machine.execResetAccepted s
  | .resetWaitTimerExpiry => Sys2Proof.Machine.execResetWaitTimerExpiry s
  | .discardTimerExpiry index => Sys2Proof.Machine.execDiscardTimerExpiry index s
  | .refreshStep => Sys2Proof.Machine.execRefreshStep s
  | .pfailAssertion => Sys2Proof.Machine.execPfailAssertion s
  | .pfailDeassertion => Sys2Proof.Machine.execPfailDeassertion s
  | .deferredDrainStart => Sys2Proof.Machine.execDeferredDrainStart s
  | .reinitClaim => Sys2Proof.Machine.execReinitClaim s
  | .drainCompletion => Sys2Proof.Machine.execDrainCompletion s
  | .powerOn pfail maddr => Sys2Proof.Machine.execPowerOn pfail maddr s
  | .resetNAssertion => Sys2Proof.Machine.execResetNAssertion s
  | .resetNDeassertion pfail maddr => Sys2Proof.Machine.execResetNDeassertion pfail maddr s
  | .size asize => Sys2Proof.Machine.execSize asize s
  | .deviceReset => Sys2Proof.Machine.execDeviceReset s
  | .readA => Sys2Proof.Machine.execReadA s
  | .readB => Sys2Proof.Machine.execReadB s
  | .apply => Sys2Proof.Machine.execApply s
  | .startComplete => Sys2Proof.Machine.execStartComplete s
  | .sync => Sys2Proof.Machine.execSync s
  | .retryEntry => Sys2Proof.Machine.execRetryEntry s
  | .discardEntry => Sys2Proof.Machine.execDiscardEntry s
  | .setRegion => Sys2Proof.Machine.execSetRegion s
  | .freezeRegion => Sys2Proof.Machine.execFreezeRegion s
  | .writeConfig => Sys2Proof.Machine.execWriteConfig s
  | .reinit => Sys2Proof.Machine.execReinit s
  | .clearCounters => Sys2Proof.Machine.execClearCounters s
  | .inspectEntry => Sys2Proof.Machine.execInspectEntry s
  | .unknownCommand code => Sys2Proof.Machine.execUnknownCommand code s
  | .pointerWrite value => Sys2Proof.Machine.execPointerWrite value s
  | .registerWrite value => Sys2Proof.Machine.execRegisterWrite value s
  | .evdataRead => Sys2Proof.Machine.execEvdataRead s
  | .evlostRead => Sys2Proof.Machine.execEvlostRead s
  | .counterLowByteRead place => Sys2Proof.Machine.execCounterLowByteRead place s
  | .cfgIndexWrite value => Sys2Proof.Machine.execCfgIndexWrite value s
  | .cfgDataRead => Sys2Proof.Machine.execCfgDataRead s
  | .cfgDataWrite value => Sys2Proof.Machine.execCfgDataWrite value s
  | .transferEnd => Sys2Proof.Machine.execTransferEnd s

end Sys2Proof.Machine
end

