-- ==== Sys2Proof/Machine/Tick.lean ====
section
/-! DEFINITION. One 1 µs tick of the bridge (1.6): what step does on an empty queue. Every timer that runs counts the tick, and the expiry or
poll time that falls on it joins the queue of commands. -/

namespace Sys2Proof.Machine

/-! ### One timer -/

/-- A timer that counts down to 0. -/
def countDown (t : Option Nat) : Option Nat := t.map fun n => n - 1

/-- A count-down timer comes to its end on this tick. -/
def endsNow (t : Option Nat) : Bool := t == some 1

/-- A timer that counts up to a limit. -/
def countUp (limit : Nat) (t : Option Nat) : Option Nat := t.map fun n => if n < limit then n + 1 else n

/-! ### The timers of the blocks -/

/-- The timers of OPEN entries count in RUNNING and in DRAIN (R12). -/
def Entry.tick (e : Entry) : Entry := { e with idleTimer := countDown e.idleTimer, ageTimer := countDown e.ageTimer }

/-- The timers of the entries run (R12). -/
def State.entryTimersRun (s : State) : Bool := s.control.mode == .running || s.control.mode == .drain

/-- The discard timer counts in every mode (R112). -/
def DttEntry.tick (d : DttEntry) : DttEntry := { d with discard := countDown d.discard }

/-- The link's timers count one tick (R54, R55). The operation timer counts up to its limit, and a tick that it runs at the limit takes the running
time beyond it (R68). -/
def Link.tick (l : Link) (limit : Nat) : Link :=
  { l with opTimer := if l.operationRuns then countUp limit l.opTimer else l.opTimer
           opExceeded := l.opExceeded || (l.operationRuns && reached limit l.opTimer)
           suspendWait := countUp suspendWaitLimit l.suspendWait
           resetWait := countUp resetWaitLimit l.resetWait
           pollTimer := countDown l.pollTimer }

/-! ### What falls on a tick -/

/-- The expiries of the staging entries, in slot order, the idle timer before the open-age timer. -/
def State.entryExpiries (s : State) : List Instr :=
  if s.entryTimersRun then
    (List.finRange 16).flatMap fun i =>
      (if endsNow s.entries[i].idleTimer then [.idleTimerExpiry i] else []) ++
        (if endsNow s.entries[i].ageTimer then [.openAgeTimerExpiry i] else [])
  else []

/-- The expiries of the delayed transaction entries, in index order (R113). -/
def State.discardExpiries (s : State) : List Instr :=
  (List.finRange 8).filterMap fun i => if endsNow s.dtt[i].discard then some (.discardTimerExpiry i) else none

/-- The expiries and the poll time of the link: the operation timer as it comes to exceed its limit, the suspend wait timer at 100 µs, the reset
wait timer at 1000 µs, the poll (R54, R68, R69, R72). -/
def State.linkExpiries (s : State) : List Instr :=
  (if s.link.operationRuns && reached s.operationLimit s.link.opTimer then [.operationTimerExpiry] else []) ++
    (if s.link.suspendWait == some 99 then [.suspendWaitTimerExpiry] else []) ++
    (if s.link.resetWait == some 999 then [.resetWaitTimerExpiry] else []) ++
    (if endsNow s.link.pollTimer then [.pollTime] else [])

/-! ### The tick -/

/-- The commands that fall on a tick, in the order that the free value gives (log entry 9). -/
def State.tickCommands (s : State) : List Instr :=
  arrange (Config.tickOrder s.freeIndex) (s.entryExpiries ++ s.discardExpiries ++ s.linkExpiries)

/-- DESIGN CHOICE (log entry 2): one tick of every timer, with the commands that fall on it put at the tail of the queue. -/
def State.tick (s : State) : State :=
  { s with
    pending := s.pending ++ s.tickCommands
    now := s.now + 1
    freeIndex := s.freeIndex + 1
    entries := if s.entryTimersRun then s.entries.map Entry.tick else s.entries
    dtt := s.dtt.map DttEntry.tick
    link := s.link.tick s.operationLimit }

end Sys2Proof.Machine
end

