-- ==== Sys2Proof/Safety.lean ====
section
/-! DEFINITION. What a safe state of the bridge is: the laws that the spec says hold at every event, and what the end of a commit, an application and the
registers of the port show, in the terms the statements use. -/

namespace Sys2Proof.Machine

/-! ### The staging table, the commit queue, the commit engine and the mode -/

/-- The commit queue holds each SEALED entry exactly once and no other entry (R13). -/
def State.QueueLaw (s : State) : Prop :=
  s.commitQueue.Nodup ∧ ∀ i : Slot, i ∈ s.commitQueue ↔ s.entries[i].state = .sealed

/-- The engine's record and the COMMITTING entry name each other (R29): with the stage IDLE every field is none and no entry is COMMITTING;
otherwise the one COMMITTING entry is the slot in hand, the generation in hand is its own, and the attempt number is one more than its
failed attempts. -/
def State.EngineLaw (s : State) : Prop :=
  (s.engine.stage = .idle ↔ s.engine.slot = none) ∧
  (s.engine.slot = none → s.engine = Engine.initial) ∧
  (∀ i : Slot, s.engine.slot = some i ↔ s.entries[i].state = .committing) ∧
  (∀ i : Slot, s.engine.slot = some i →
    s.engine.generation = some s.entries[i].generation ∧
    s.engine.attempt = some (s.entries[i].attempts + 1) ∧ s.engine.step.isSome)

/-- What the mode says of the staging table, of the drain cause and of PFAIL: no OPEN entry in DRAIN (R12), FREE and FAILED entries alone in
DRAINED and START (R28, R167), a drain cause in DRAIN and DRAINED alone (R159), and PFAIL asserted in DRAINED (R166, R167). -/
def State.ModeLaw (s : State) : Prop :=
  (s.control.mode = .drain → ∀ i : Slot, s.entries[i].state ≠ .opened) ∧
  (s.control.mode = .drained ∨ s.control.mode = .start →
    ∀ i : Slot, s.entries[i].state = .free ∨ s.entries[i].state = .failed) ∧
  (s.control.drainCause.isSome ↔ s.control.mode = .drain ∨ s.control.mode = .drained) ∧
  (s.control.mode = .drained → s.control.pfail = true)

/-- The staging table, the commit queue, the engine and the mode are in step with each other. -/
def State.StagingLaw (s : State) : Prop := s.QueueLaw ∧ s.EngineLaw ∧ s.ModeLaw

/-- While RESET_N is asserted the mode is START, the sequencer's phase is IDLE, and the link is IDLE with nothing in flight (R73, R168, R180). -/
def State.ResetLaw (s : State) : Prop :=
  s.resetAsserted = true → s.control.mode = .start ∧ s.sequencer.phase = .idle ∧ s.link = Link.initial

/-! ### Where entries lie, and how many a page has -/

/-- An entry is an absorbing one: OPEN or SEALED (1.5). -/
def Entry.IsAbsorbing (e : Entry) : Prop := e.state = .opened ∨ e.state = .sealed

/-- An entry is a retired one: COMMITTING or FAILED (1.5). -/
def Entry.IsRetired (e : Entry) : Prop := e.state = .committing ∨ e.state = .failed

/-- A page has at most one absorbing entry and at most one retired entry (R3). -/
def State.OnePerPage (s : State) : Prop :=
  ∀ (i j : Slot) (page : Nat), s.entries[i].page = some page → s.entries[j].page = some page →
    (s.entries[i].IsAbsorbing ∧ s.entries[j].IsAbsorbing) ∨ (s.entries[i].IsRetired ∧ s.entries[j].IsRetired) → i = j

/-- The state of the SYNC record is WAITING (R130). -/
def SyncRecord.isWaiting : SyncRecord → Bool
  | .idle _ => false
  | .waiting _ _ => true

/-- Outside HALTED a CONFIG entry is in use only while WRITE_CONFIG is in progress, and there is one at most (R3, R183); a SYNC that waits is the command
in progress (R131, R187). -/
def State.ConfigLaw (s : State) : Prop :=
  (s.control.mode ≠ .halted →
    (∀ i : Slot, s.entries[i].state ≠ .free → s.entries[i].origin = some .config →
      s.command.busy = true ∧ s.command.last = some .writeConfig) ∧
    ∀ i j : Slot, s.entries[i].state ≠ .free → s.entries[j].state ≠ .free → s.entries[i].origin = some .config →
      s.entries[j].origin = some .config → i = j) ∧
  (s.syncRecord.isWaiting = true → s.command.busy = true ∧ s.command.last = some .sync)

/-- The pages that entries and the window can have (R53, R148, R173, R175, R177, R179): a CONFIG entry lies in the device's last sector and every other entry before it, as the
window of an applied configuration and of a VALID copy does; the refresh table has a record for each window sector. The device size is sampled in phase SIZE and known in
every later phase, and while RESET_N is asserted no entry is in use (R28). -/
def State.PlaceLaw (s : State) : Prop :=
  (∀ (i : Slot) (page : Nat), s.entries[i].state ≠ .free → s.entries[i].page = some page →
    ∃ n, s.sequencer.deviceSize = some n ∧ if s.entries[i].origin = some .config then n ≤ page + 64 else page + 64 < n) ∧
  (s.control.mode = .running ∨ s.control.mode = .drain ∨ s.control.mode = .drained ∨ s.sequencer.applied = true →
    ∃ n, s.sequencer.deviceSize = some n ∧ s.params.windowPages + 64 ≤ n ∧ s.refresh.records.length = s.params.windowPages / 64) ∧
  (∀ r : ConfigRecord, s.sequencer.verdictA = some (.valid r) ∨ s.sequencer.verdictB = some (.valid r) →
    ∃ n, s.sequencer.deviceSize = some n ∧ r.fields.windowPages.toNat + 64 ≤ n) ∧
  (∀ n, s.sequencer.deviceSize = some n → 64 ≤ n) ∧
  (s.sequencer.phase = .size → s.sequencer.deviceSize = none) ∧
  (s.sequencer.phase ≠ .idle → s.sequencer.phase ≠ .size → s.sequencer.deviceSize.isSome) ∧
  (s.resetAsserted = true → ∀ i : Slot, s.entries[i].state = .free)

/-- What the staging table holds of a page (R3), with what R3 rests on. -/
def State.PageLaw (s : State) : Prop := s.OnePerPage ∧ s.ConfigLaw ∧ s.PlaceLaw

/-! ### The bytes of an entry -/

/-- The written set of every entry lies inside its valid set (R6). -/
def State.WrittenWithinValid (s : State) : Prop := ∀ i : Slot, s.entries[i].written &&& s.entries[i].valid = s.entries[i].written

/-- The valid set is the whole page in every FAILED entry and in the commit in hand past FILL (R6). A long operation is in progress only in ERASE and PROGRAM (R58). -/
def State.WholePageValid (s : State) : Prop :=
  (∀ i : Slot, s.entries[i].state = .failed → s.entries[i].valid = wholePage) ∧
  (∀ i : Slot, s.engine.slot = some i → s.engine.stage ≠ .fill → s.entries[i].valid = wholePage) ∧
  (s.link.opKind.isSome → s.engine.stage = .erase ∨ s.engine.stage = .program)

/-- Each staging entry in use whose written set is not empty, the CONFIG entries aside, lies on a READ_WRITE page (R138). -/
def State.ProtectionPromise (s : State) : Prop :=
  ∀ (i : Slot) (page : Nat), s.entries[i].state ≠ .free → s.entries[i].written ≠ 0#512 → s.entries[i].origin ≠ some .config →
    s.entries[i].page = some page → s.effectiveMode page = .readWrite

/-! ### The delayed transaction table -/

/-- At most two entries for one requester, and at most one for any one key (R97). -/
def State.DttQuota (s : State) : Prop :=
  (∀ r : Requester, s.heldBy r ≤ 2) ∧
  (∀ (k : DttKey) (i j : DttIndex), s.dtt[i].state ≠ .free → s.dtt[j].state ≠ .free →
    s.dtt[i].hasKey k = true → s.dtt[j].hasKey k = true → i = j)

/-- The arrival numbers order the READ entries: 0 up to one less than their number, each once; no other entry holds one (R98, R105). -/
def State.ArrivalLaw (s : State) : Prop :=
  (∀ i : DttIndex, s.dtt[i].state = .free → s.dtt[i] = DttEntry.initial) ∧
  (∀ i : DttIndex, s.dtt[i].kind ≠ some .read → s.dtt[i].arrival = none) ∧
  (∀ i : DttIndex, s.dtt[i].kind = some .read → ∃ n, s.dtt[i].arrival = some n ∧ n < s.readCount) ∧
  (∀ i j : DttIndex, s.dtt[i].kind = some .read → s.dtt[j].kind = some .read → s.dtt[i].arrival = s.dtt[j].arrival → i = j)

/-! ### The event queue and the array link -/

/-- At most 32 records, their sequence numbers consecutive and ending just before the next one; an empty queue has its byte cursor at 0
(R190, R191). -/
def State.EventLaw (s : State) : Prop :=
  s.events.records.length ≤ 32 ∧
  (∀ (k : Nat) (h : k < s.events.records.length),
    (s.events.records[k]).sequence + BitVec.ofNat 16 (s.events.records.length - k) = s.events.nextSequence) ∧
  (s.events.records = [] → s.events.cursor = 0)

/-- A long operation is the engine's (R58): it has a suspension count from its grant on, in every state of the link that belongs to it, and only while
the engine awaits its erase or program. The count is at most SUSPEND_MAX, and below it while a SUSPEND is with the device (R63, R64). -/
def State.SuspensionBudget (s : State) : Prop :=
  (s.link.suspensionCount.isSome →
    (s.engine.stage = .erase ∨ s.engine.stage = .program) ∧ s.engine.step = some .issued) ∧
  (s.link.state = .opBusy ∨ s.link.state = .suspending ∨ s.link.state = .suspended ∨ s.link.state = .suspendedReading ∨
      s.link.inFlight = some .suspend ∨ s.link.inFlight = some .resume ∨
      (∃ page, s.link.inFlight = some (.erase page)) ∨ (∃ page bytes, s.link.inFlight = some (.program page bytes)) →
    s.link.suspensionCount.isSome) ∧
  (∀ n, s.link.suspensionCount = some n → n ≤ s.params.suspendMax ∧
    (s.link.inFlight = some .suspend ∨ s.link.state = .suspending → n < s.params.suspendMax))

/-- The pages of the memory device that the bridge has changed are listed once each, page numbers rising. -/
def State.ArrayLaw (s : State) : Prop := pagesRise s.array

/-! ### The requests and management commands that every check lets through -/

/-- A WRITE that passes the format check, the range check, the mode gate and the protection check (R79 to R84). -/
def State.AdmitsWrite (s : State) (addr : BitVec 24) (len : BitVec 7) : Prop :=
  s.resetAsserted = false ∧ s.control.mode = .running ∧ 1 ≤ len.toNat ∧ addr.toNat % 64 + len.toNat ≤ 64 ∧
  addr.toNat < s.params.windowPages * 512 ∧ s.effectiveMode (addr.toNat / 512) = .readWrite

/-- A READ that passes the same four checks (R79 to R84). -/
def State.AdmitsRead (s : State) (addr : BitVec 24) (len : BitVec 7) : Prop :=
  s.resetAsserted = false ∧ s.control.mode ≠ .start ∧ 1 ≤ len.toNat ∧ addr.toNat % 64 + len.toNat ≤ 64 ∧
  addr.toNat < s.params.windowPages * 512 ∧ s.effectiveMode (addr.toNat / 512) ≠ .noAccess

/-- A FENCE that passes the mode gate (R82). -/
def State.AdmitsFence (s : State) : Prop :=
  s.resetAsserted = false ∧ (s.control.mode = .running ∨ s.control.mode = .drain ∨ s.control.mode = .drained)

/-- A write of CMD that the idle command unit takes (R185, R187). -/
def State.AdmitsCommand (s : State) : Prop :=
  s.resetAsserted = false ∧ s.port.maddr.isSome = true ∧ s.command.busy = false

/-- The port after a write of CMD (R185). -/
def State.portAfterCmd (s : State) : Port := { s.port with pointer := 0x11#8, reply := .ack }

/-- The commands that the port hands to the command unit, each with its name in CMD_STATUS. -/
def cmdWrites : List (Instr × MgmtCommand) :=
  [(.sync, .sync), (.retryEntry, .retryEntry), (.discardEntry, .discardEntry), (.setRegion, .setRegion), (.freezeRegion, .freezeRegion),
   (.writeConfig, .writeConfig), (.reinit, .reinit), (.clearCounters, .clearCounters), (.inspectEntry, .inspectEntry)]

/-- The modes that refuse a command (R188, 12.4): every mode but RUNNING refuses SYNC, RETRY_ENTRY, SET_REGION, FREEZE_REGION, WRITE_CONFIG and REINIT;
START and DRAIN refuse DISCARD_ENTRY; START refuses CLEAR_COUNTERS and INSPECT_ENTRY. -/
def refusingMode : MgmtCommand → Mode → Prop
  | .discardEntry, m => m = .start ∨ m = .drain
  | .clearCounters, m => m = .start
  | .inspectEntry, m => m = .start
  | _, m => m ≠ .running

/-- The commands that reach the block at its management port. -/
def portCommand : Instr → Prop
  | .sync | .retryEntry | .discardEntry | .setRegion | .freezeRegion | .writeConfig | .reinit | .clearCounters | .inspectEntry
  | .unknownCommand _ | .pointerWrite _ | .registerWrite _ | .evdataRead | .evlostRead | .counterLowByteRead _ | .cfgIndexWrite _
  | .cfgDataRead | .cfgDataWrite _ | .transferEnd => True
  | _ => False

/-! ### How a commit's command ends -/

/-- A STATUS reply of ready gives the result of the erase or program in progress (R59, R67). -/
def State.AwaitsResult (s : State) : Prop :=
  s.link.inFlight = some .status ∧ s.link.resetOwed = false ∧ (s.link.state = .opBusy ∨ s.link.state = .suspending)

/-- A READ completion gives the engine the 512 bytes of its page (R57). -/
def State.AwaitsBytes (s : State) (bytes : List Byte) : Prop :=
  (∃ addr, s.link.inFlight = some (.read addr 512)) ∧ s.link.owner = some .commit ∧ bytes.length = 512

/-- Command `c` ends the attempt on slot `i` with a cause (R38): a failed erase, a failed program, a mismatch at VERIFY, or the recovery of the
device after a timeout (R39). -/
def State.AttemptFailsBy (s : State) (c : Instr) (i : Slot) (cause : CommitCause) : Prop :=
  s.engine.slot = some i ∧
  ((s.AwaitsResult ∧ c = .statusReply .ready true ∧
      (s.engine.stage = .erase ∧ cause = .eraseFail ∨ s.engine.stage = .program ∧ cause = .programFail)) ∨
    (s.link.inFlight = some .status ∧ s.link.resetOwed = false ∧ s.link.state = .resetting ∧ s.link.opKind.isSome = true ∧
      cause = .timeout ∧ ∃ failFlag, c = .statusReply .ready failFlag) ∨
    (∃ bytes, c = .readCompletion bytes ∧ s.AwaitsBytes bytes ∧ s.engine.stage = .verify ∧ cause = .verifyMismatch ∧
      ∃ o : Fin 512, bytes.getD o.val 0#8 ≠ s.entries[i].buffer[o]))

/-- Command `c` ends the commit of slot `i` with its bytes in the array (R33, R36, R37): an elision at FILL, a program that needs no verify, or a
VERIFY that finds every byte equal. -/
def State.CommitEndsBy (s : State) (c : Instr) (i : Slot) : Prop :=
  s.engine.slot = some i ∧
  ((∃ bytes, c = .readCompletion bytes ∧ s.AwaitsBytes bytes ∧ s.engine.stage = .fill ∧ s.entries[i].origin = some .host ∧
      s.params.elide = true ∧ ∀ o : Fin 512, s.entries[i].valid.getLsbD o.val = true → s.entries[i].buffer[o] = bytes.getD o.val 0#8) ∨
    (s.AwaitsResult ∧ c = .statusReply .ready false ∧ s.engine.stage = .program ∧ s.params.verify = false ∧
      s.entries[i].origin ≠ some .config) ∨
    (∃ bytes, c = .readCompletion bytes ∧ s.AwaitsBytes bytes ∧ s.engine.stage = .verify ∧
      ∀ o : Fin 512, bytes.getD o.val 0#8 = s.entries[i].buffer[o]))

/-! ### What the end of an attempt or a commit leaves -/

/-- Some read waits for the link (R106). -/
def State.ReadWaits (s : State) : Prop := ∃ d : DttIndex, s.dtt[d].state = .waiting ∧ s.dtt[d].kind = some .read

/-- The link after a READ (R57): IDLE from READING, SUSPENDED from SUSPENDED_READING, with nothing in flight. -/
def Link.afterRead (l : Link) : Link :=
  { l with state := if l.state = .suspendedReading then .suspended else .idle, owner := none, inFlight := none }

/-- The link after the end of a long operation, or of a recovery (R59, R67, R71): IDLE, with no operation, no timer and nothing in flight. -/
def Link.afterOperation (l : Link) : Link :=
  { l with
    state := .idle, owner := none, inFlight := none, opKind := none, opPage := none, suspensionCount := none, opTimer := none
    opExceeded := false, suspendWait := none, resetWait := none, pollTimer := none, pollOwed := false }

/-- What the command that fails an attempt leaves of the link and of the page (R41, R57, R59, R67, R71): after a READ the link as every READ leaves it; after a STATUS
reply the link IDLE with no operation. The page of a failed operation, and a page that did not verify, hold undefined content; a recovery leaves the page as the
operation that the RESET aborted has left it. -/
def State.AttemptLeaves (s : State) (c : Instr) (i : Slot) (t : State) : Prop :=
  (∀ bytes, c = .readCompletion bytes →
    t.link = s.link.afterRead ∧ ∀ page, s.entries[i].page = some page → t.array = insertPage page .undefined s.array) ∧
  (∀ cond failFlag, c = .statusReply cond failFlag →
    t.link = s.link.afterOperation ∧
    (s.link.state = .resetting → t.array = s.array) ∧
    (s.link.state ≠ .resetting → ∀ page, s.link.opPage = some page → t.array = insertPage page .undefined s.array))

/-- What the command that ends a commit with its bytes in the array leaves of the link and of the page (R52, R57, R59, R67): after a READ, of an elision or of a VERIFY, the link as
every READ leaves it and every page as it was; after the STATUS reply that ends a PROGRAM, the link IDLE with no operation and the page with the 512 bytes of the buffer. -/
def State.CommitLeaves (s : State) (c : Instr) (i : Slot) (t : State) : Prop :=
  (∀ bytes, c = .readCompletion bytes → t.link = s.link.afterRead ∧ t.array = s.array) ∧
  (∀ cond failFlag, c = .statusReply cond failFlag →
    t.link = s.link.afterOperation ∧
    ∀ page, s.link.opKind = some .program → s.link.opPage = some page → t.array = insertPage page (.image s.entries[i].buffer) s.array)

/-- What a report, or a drop, that names a pair does to SYNC (R132): the pair leaves the wait set, a failure is counted, and SYNC ends when that was the last pair,
the record IDLE with a failed count of 0. -/
def State.SyncTakesReport (s : State) (pair : WaitPair) (failed : Bool) (t : State) : Prop :=
  (∀ n, s.syncRecord = .idle n → t.syncRecord = .idle n ∧ t.command = s.command) ∧
  ∀ (ws : List WaitPair) (n : Nat), s.syncRecord = .waiting ws n →
    let count : Nat := if failed then n + 1 else n
    (pair ∉ ws → t.syncRecord = s.syncRecord ∧ t.command = s.command) ∧
    (pair ∈ ws → (∃ p ∈ ws, p ≠ pair) → t.syncRecord = .waiting (ws.filter (· ≠ pair)) count ∧ t.command = s.command) ∧
    (pair ∈ ws → (∀ p ∈ ws, p = pair) → t.syncRecord = .idle 0 ∧
      t.command = { s.command with busy := false, result := if count = 0 then .done else .failed, detail := count })

/-! ### The application of a configuration -/

/-- Steps 1 to 3 of R145 from the descriptors `loaded`, the window in force and the event queue before them. `stage n` is the table when region `n` is decided. A frozen region
is kept; another is held, with the lowest page at fault, where its replacement would take READ_WRITE from the page of a FAILED entry with host bytes, and replaced otherwise.
Then every descriptor that reaches beyond the window is clipped. The HELD records come in number order and the CLIP records after them in some order. -/
def State.RegionsApplied (s : State) (loaded : Vector Region 8) (window : Nat) (before : EventQueue) (t : State) : Prop :=
  ∃ (stage : Nat → Vector Region 8) (held clipped : List RegionIndex) (page : RegionIndex → Nat),
    stage 0 = s.regions ∧
    (∀ n : RegionIndex,
      let trial : Vector Region 8 := (stage n.val).set n.val loaded[n] n.isLt
      let stops (p : Nat) : Prop := ∃ i : Slot, s.entries[i].state = .failed ∧ s.entries[i].written ≠ 0#512 ∧
        s.entries[i].page = some p ∧ effectiveModeOf (stage n.val) p = .readWrite ∧ effectiveModeOf trial p ≠ .readWrite
      (n ∈ held ↔ s.regions[n].frozen = false ∧ ∃ p, stops p) ∧
      (n ∈ held → stops (page n) ∧ ∀ p, stops p → page n ≤ p) ∧
      stage (n.val + 1) = if s.regions[n].frozen = true ∨ n ∈ held then stage n.val else trial) ∧
    held.Pairwise (· < ·) ∧ clipped.Nodup ∧ (∀ n : RegionIndex, n ∈ clipped ↔ window ≤ (stage 8)[n].last) ∧
    (∀ n : RegionIndex, t.regions[n] =
      let r := (stage 8)[n]
      if r.last < window then r
      else if r.first < window then { r with last := window - 1 }
      else { enabled := false, first := 0, last := 0, mode := .readWrite, frozen := r.frozen }) ∧
    t.events = clipped.foldl
      (fun q n => q.append (.regionChanged .clip n t.regions[n].enabled t.regions[n].mode) (some t.regions[n].first) none none)
      (held.foldl (fun q n => q.append (.regionChanged .held n s.regions[n].enabled s.regions[n].mode) (some (page n)) none none) before)

/-- Step 4 of R179: after power-on and RESET_N the refresh table is created, with every record cleared (R158); after a REINIT the records of the window sectors are kept,
new ones cleared, a count at or above an interval that is not 0 returned to 0 with its sector pending, and a scan pointer beyond the window returned to 0 (R157). -/
def State.TableApplied (s : State) (window interval : Nat) (t : State) : Prop :=
  (s.sequencer.startKind ≠ some .reinit →
    t.refresh = { records := List.replicate (window / 64) { count := 0, cursor := 0, pending := false }, scan := 0 }) ∧
  (s.sequencer.startKind = some .reinit →
    t.refresh.scan = (if s.refresh.scan < window / 64 then s.refresh.scan else 0) ∧
    t.refresh.records.length = window / 64 ∧
    ∀ sector < window / 64,
      let old : RefreshRecord := s.refresh.records[sector]?.getD { count := 0, cursor := 0, pending := false }
      t.refresh.records[sector]? = some (if interval ≠ 0 ∧ interval ≤ old.count then { old with count := 0, pending := true } else old))

/-! ### The bytes that the management port shows -/

/-- Byte `k` of a number, the least significant being byte 0 (12). -/
def byteOf (n k : Nat) : Byte := BitVec.ofNat 8 (n / 256 ^ k)

/-- The two bytes of a page field, FFFFh for none (12.3, 12.4). -/
def pageByte (page : Option Nat) (k : Nat) : Byte :=
  match page with
  | some p => byteOf p k
  | none => 0xFF#8

/-- The code of a fault kind (12.1). -/
def faultNumber (k : FaultKind) : Nat := [.range, .format, .protect, .staging, .durability, .device].idxOf k + 1

/-- The code of a commit cause (12.3). -/
def causeNumber (c : CommitCause) : Nat := [.eraseFail, .programFail, .verifyMismatch, .timeout, .device].idxOf c + 1

/-- The code of a validation reason, in the order of R177 (12.3). -/
def reasonNumber (r : BadReason) : Nat := [.magic, .version, .crc, .range, .order, .window, .region].idxOf r + 1

/-- The code of an access mode (12.3). -/
def modeNumber (m : AccessMode) : Nat := [.readWrite, .readOnly, .noAccess].idxOf m

/-- The code of a copy (12.3). -/
def copyNumber (c : Copy) : Nat := [.a, .b].idxOf c

/-- The code of a drain cause in DRAIN_BEGIN and DRAIN_END (12.3). -/
def drainNumber (c : DrainCause) : Nat := [.pfail, .reinit].idxOf c

/-- The table of 12.3: the code of an event, and the fields of its detail, each with its lowest bit, its width in bits and its value. -/
def Event.layout : Event → Nat × List (Nat × Nat × Nat)
  | .writeFault k found => (1, [(0, 3, faultNumber k), (4, 2, (found.map modeNumber).getD 0)])
  | .readFault k found => (2, [(0, 3, faultNumber k), (4, 2, (found.map modeNumber).getD 0)])
  | .commitRetry c n => (3, [(0, 3, causeNumber c), (4, 3, n)])
  | .commitFailed c n => (4, [(0, 3, causeNumber c), (4, 3, n)])
  | .fenceFault k p => (5, [(0, 3, faultNumber k), (4, 1, [.arrival, .wait].idxOf p)])
  | .readDiscarded k .data => (6, [(0, 1, [.read, .fence].idxOf k), (1, 2, 0)])
  | .readDiscarded k .done => (6, [(0, 1, [.read, .fence].idxOf k), (1, 2, 1)])
  | .readDiscarded k (.fault f) => (6, [(0, 1, [.read, .fence].idxOf k), (1, 2, 2), (4, 3, faultNumber f)])
  | .arrayTimeout op p => (7, [(0, 1, [.erase, .program].idxOf op), (1, 1, [.running, .suspending].idxOf p)])
  | .deviceReset => (8, [(0, 16, 1)])
  | .halted .linkDown => (9, [(0, 2, 1)])
  | .halted (.asizeInvalid code) => (9, [(0, 2, 2), (4, 3, code.toNat)])
  | .configCopyBad c r => (10, [(0, 1, copyNumber c), (4, 4, reasonNumber r)])
  | .configDefaults a b => (11, [(0, 4, reasonNumber a), (4, 4, reasonNumber b)])
  | .configWritten c q => (12, [(15, 1, copyNumber c), (0, 15, q.toNat)])
  | .configWriteFailed c k => (13, [(0, 1, copyNumber c), (4, 3, causeNumber k)])
  | .drainBegin c => (14, [(0, 1, drainNumber c)])
  | .drainEnd n c => (15, [(0, 5, n), (8, 1, drainNumber c)])
  | .drainRecovered toStart => (16, [(0, 1, [false, true].idxOf toStart)])
  | .entryDiscarded g => (17, [(0, 8, g.toNat)])
  | .regionChanged c n en m =>
    (18, [(0, 3, n.val), (4, 2, [.set, .held, .clip].idxOf c + 1), (6, 1, [false, true].idxOf en), (8, 2, modeNumber m)])
  | .regionFrozen n => (19, [(0, 3, n.val)])
  | .refreshDropped n => (20, [(0, 16, n)])
  | .startComplete src k q =>
    (21, [(0, 2, [.a, .b, .default].idxOf src), (2, 2, [.powerOn, .resetN, .reinit].idxOf k), (4, 12, q.toNat)])

/-- The number that a list of fields makes: each value, cut to its width, at its lowest bit; every other bit is 0 (12.3). -/
def packed (fields : List (Nat × Nat × Nat)) : Nat := (fields.map fun f => f.2.2 % 2 ^ f.2.1 * 2 ^ f.1).sum

/-- Byte `k` of a record is `b` (12.3). What byte 3 holds for a slot or a requester that the record does not have is open (log entry 41). -/
def EventRecord.Shows (r : EventRecord) (k : Nat) (b : Byte) : Prop :=
  (k ≤ 1 → b = byteOf r.sequence.toNat k) ∧
  (k = 2 → b.toNat % 64 = r.event.layout.1 ∧ b.getLsbD 6 = r.requester.isSome ∧ b.getLsbD 7 = r.slot.isSome) ∧
  (k = 3 → b.getLsbD 7 = false ∧ (∀ i, r.slot = some i → b.toNat % 16 = i.val) ∧
    ∀ q, r.requester = some q → b.toNat / 16 % 8 = q.val) ∧
  (4 ≤ k → k ≤ 5 → b = pageByte r.page (k - 4)) ∧
  (6 ≤ k → k ≤ 7 → b = byteOf (packed r.event.layout.2) (k - 6))

/-- Byte `k` of the inspection window with a snapshot is `b` (12.4). -/
def Snapshot.Shows (w : Snapshot) (k : Nat) (b : Byte) : Prop :=
  (k = 0 → b.toNat = w.slot.val) ∧ (k = 1 → b.toNat = w.line.val) ∧
  (k = 2 → b.toNat = [.free, .opened, .sealed, .committing, .failed].idxOf w.state + 1) ∧
  (k = 3 → b = w.generation) ∧
  (k = 4 → b.toNat = [none, some Origin.host, some .refresh, some .config].idxOf w.origin) ∧
  (k = 5 ∨ k = 6 → b = pageByte w.page (k - 5)) ∧
  (k = 7 ∨ k = 8 → b = byteOf w.writtenCount (k - 7)) ∧
  (k = 9 ∨ k = 10 → b = byteOf w.validCount (k - 9)) ∧
  (k = 11 → b = w.writers) ∧
  (k = 12 → b = byteOf w.attempts 0) ∧
  (k = 13 → b = match w.sealOrder with | some n => byteOf n 0 | none => 0xFF#8) ∧
  (14 ≤ k → k < 22 → ∀ n : Fin 8, b.getLsbD n.val = w.writtenMap.getLsbD (8 * (k - 14) + n.val)) ∧
  (22 ≤ k → k < 30 → ∀ n : Fin 8, b.getLsbD n.val = w.validMap.getLsbD (8 * (k - 22) + n.val)) ∧
  (30 ≤ k → k < 94 → w.data.length = 64 → w.data[k - 30]? = some b)

/-- The register at an address `a` that a read does not change shows `b` (R186, R187, R194, 12.4); 00h where the address names none (R185). What the spec leaves
open is left open here: the revision (log entry 4), ATTN_MASK outside the event codes (log entry 40), the reason bits of a result that is not REFUSED, and
bits 3:2 of CMD_STATUS (log entry 41). -/
def State.RegisterShows (s : State) (a : Nat) (b : Byte) : Prop :=
  (a = 0x00 → b = 0x16#8) ∧
  (a = 0x01 → b.toNat / 16 = 7) ∧
  (a = 0x02 → b.toNat % 8 = [.start, .running, .drain, .drained, .halted].idxOf s.control.mode ∧
    b.toNat / 8 % 4 = [none, some DrainCause.pfail, some .reinit].idxOf s.control.drainCause ∧
    b.getLsbD 5 = s.control.reinitPending ∧ b.getLsbD 6 = s.control.pfail ∧ b.getLsbD 7 = decide (s.control.mode = .drained)) ∧
  (a = 0x03 → b.toNat = ((List.finRange 16).filter fun i => s.entries[i].state = .free).length) ∧
  (a = 0x04 → b.toNat = ((List.finRange 16).filter fun i => s.entries[i].state = .failed).length) ∧
  (a = 0x05 → b = byteOf s.events.records.length 0) ∧
  (∀ (k : Fin 4) (n : Fin 8), a = 0x06 + k.val → 1 ≤ 8 * k.val + n.val → 8 * k.val + n.val ≤ 21 →
    b.getLsbD n.val = s.params.attnMask.getLsbD (8 * k.val + n.val)) ∧
  (a = 0x11 →
    (s.command.result = .none → b.toNat % 16 = 0) ∧ (s.command.result = .busy → b.toNat % 16 = 1) ∧
    (s.command.result = .done → b.toNat % 16 = 2) ∧ (s.command.result = .failed → b.toNat % 16 = 4) ∧
    ∀ reason, s.command.result = .refused reason → b.toNat % 16 = 3 ∧
      b.toNat / 16 = [.badArgument, .wrongState, .frozen, .stagedInRange, .noSlot, .mode].idxOf reason + 1) ∧
  (a = 0x12 → b = byteOf s.command.detail 0) ∧
  (a = 0x13 → b.getLsbD 0 = s.command.busy ∧ b.getLsbD 1 = s.command.overrun ∧
    b.toNat / 16 = [none, some MgmtCommand.sync, some .retryEntry, some .discardEntry, some .setRegion, some .freezeRegion,
      some .writeConfig, some .reinit, some .clearCounters, some .inspectEntry].idxOf s.command.last) ∧
  (∀ (n : Fin 4) (k : Fin 2), a = 0x14 + 2 * n.val + k.val → b = byteOf (s.port.args[n]).toNat k.val) ∧
  (a = 0x21 → b = s.counters.holdStagingRetries) ∧ (a = 0x23 → b = s.counters.holdElidedCommits) ∧
  (a = 0x25 → b = s.counters.holdSuspensions) ∧ (a = 0x27 → b = s.counters.holdUnrecordedRetries) ∧
  (a = 0x30 → b.toNat = s.port.cfgIndex.val) ∧
  (0x40 ≤ a → a ≤ 0x9D → (s.port.window = none → b = 0#8) ∧ ∀ w, s.port.window = some w → w.Shows (a - 0x40) b) ∧
  ((0x0C ≤ a ∧ a ≤ 0x10) ∨ (0x1C ≤ a ∧ a ≤ 0x1F) ∨ (0x28 ≤ a ∧ a ≤ 0x2F) ∨ (0x32 ≤ a ∧ a ≤ 0x3F) ∨ 0x9E ≤ a → b = 0#8)

/-! ### The changes of mode -/

/-- The changes of mode that R159 lists, power-on and RESET_N aside; a command may also leave the mode as it is. -/
def modeChange (a b : Mode) : Bool :=
  a == b ||
  match a, b with
  | .start, .running | .running, .drain | .drain, .drained | .drain, .running | .drain, .start => true
  | .drained, .running | .drained, .start | .start, .halted | .running, .halted | .drain, .halted | .drained, .halted => true
  | _, _ => false

end Sys2Proof.Machine
end

