-- ==== Sys2Proof/Certificates/Slice0/Obligations.lean ====
section
/-! DEFINITION. The statements about the bridge, for the provers. A statement that gives the next state as an update of `s` names every
field that the command changes; every field that it does not name is as before. -/

open Sys2Proof Sys2Proof.Machine

/-! ### The machine -/

/-- The command at the front of the queue runs on the state with the queue's rest. -/
def Obligations.FrontCommandRuns : Prop :=
  ∀ (c : Instr) (rest : List Instr) (s : State), step { s with pending := c :: rest } = exec c { s with pending := rest }

/-- No command ends in a fault or a refusal, and none but the step itself touches the queue of commands. -/
def Obligations.EveryCommandAnswersAndKeepsTheQueue : Prop :=
  ∀ (c : Instr) (s : State), ∃ t, exec c s = .next t ∧ t.pending = s.pending

/-- The model's choice (log entry 2), by the timers of R12, R54, R55, R68, R69, R72 and R112: with no command waiting a step is one tick. Every
timer that runs counts it, and the expiry that falls on it joins the queue of commands. The operation timer counts up to its limit, and the tick that finds it running there takes the
running time beyond the limit (log entry 15). -/
def Obligations.EmptyQueueTicks : Prop :=
  ∀ s : State, s.pending = [] → ∃ t, step s = .next t ∧ t.now = s.now + 1 ∧ t.control = s.control ∧ t.commitQueue = s.commitQueue ∧
    t.engine = s.engine ∧ t.array = s.array ∧ t.events = s.events ∧ t.response = s.response ∧
    (∀ (i : Slot) (n : Nat), s.control.mode = .running ∨ s.control.mode = .drain → s.entries[i].idleTimer = some (n + 1) →
      t.entries[i].idleTimer = some n ∧ (.idleTimerExpiry i ∈ t.pending ↔ n = 0)) ∧
    (∀ (i : Slot) (n : Nat), s.control.mode = .running ∨ s.control.mode = .drain → s.entries[i].ageTimer = some (n + 1) →
      t.entries[i].ageTimer = some n ∧ (.openAgeTimerExpiry i ∈ t.pending ↔ n = 0)) ∧
    (s.control.mode ≠ .running → s.control.mode ≠ .drain → t.entries = s.entries) ∧
    (∀ (d : DttIndex) (n : Nat), s.dtt[d].discard = some (n + 1) →
      t.dtt[d].discard = some n ∧ (.discardTimerExpiry d ∈ t.pending ↔ n = 0)) ∧
    (∀ n, s.link.opTimer = some n → s.link.state = .opBusy ∨ s.link.state = .suspending →
      (.operationTimerExpiry ∈ t.pending ↔ s.operationLimit ≤ n) ∧
      (n < s.operationLimit → t.link.opTimer = some (n + 1) ∧ t.link.opExceeded = s.link.opExceeded) ∧
      (s.operationLimit ≤ n → t.link.opTimer = some n ∧ t.link.opExceeded = true)) ∧
    (s.link.state ≠ .opBusy → s.link.state ≠ .suspending → t.link.opTimer = s.link.opTimer ∧ t.link.opExceeded = s.link.opExceeded) ∧
    (∀ n, s.link.suspendWait = some n → n < 100 →
      t.link.suspendWait = some (n + 1) ∧ (.suspendWaitTimerExpiry ∈ t.pending ↔ n + 1 = 100)) ∧
    (∀ n, s.link.resetWait = some n → n < 1000 →
      t.link.resetWait = some (n + 1) ∧ (.resetWaitTimerExpiry ∈ t.pending ↔ n + 1 = 1000)) ∧
    (∀ n, s.link.pollTimer = some (n + 1) → t.link.pollTimer = some n ∧ (.pollTime ∈ t.pending ↔ n = 0))

/-! ### The resets -/

/-- The resets (R28, R51, R73, R74, R81, R119, R134, R144, R158, R170, R192, R196). POWER_ON gives every block its power-on values and begins
the start-up of kind POWER_ON. RESET_N_ASSERTION clears what RESET_N clears, and keeps the event queue but for its byte cursor, the frozen regions and the ATTN
mask. RESET_N_DEASSERTION begins the start-up of kind RESET_N in phase SIZE, with PFAIL and MADDR taken. The model's own: POWER_ON finds RESET_N deasserted
(log entry 30); no refresh record before the application (log entry 24); RESET_N keeps the shadow (log entry 31); the sequencer's other fields are none (log
entry 38); `array` stays, in which the page of an operation that a reset cuts short is undefined from its grant on (R50, log entry 12). -/
def Obligations.ResetsLeaveTheListedValues : Prop :=
  let free (e : Entry) : Prop := e.state = .free ∧ e.generation = 0#8 ∧ e.page = none ∧ e.origin = none ∧ e.written = 0#512 ∧
    e.valid = 0#512 ∧ e.writers = 0#8 ∧ e.idleTimer = none ∧ e.ageTimer = none ∧ e.allocTime = none ∧ e.lastWrite = none ∧ e.attempts = 0
  (∀ (pfail : Bool) (maddr : BitVec 2) (s : State), ∃ t, exec (.powerOn pfail maddr) s = .next t ∧
     t.resetAsserted = false ∧ t.array = s.array ∧
     t.control = { mode := .start, drainCause := none, reinitPending := false, pfail := pfail, reinitClaimed := false } ∧
     (∀ i : Slot, free t.entries[i]) ∧
     t.commitQueue = [] ∧ t.engine = Engine.initial ∧ t.link = Link.initial ∧ (∀ d : DttIndex, t.dtt[d] = DttEntry.initial) ∧
     t.syncRecord = .idle 0 ∧ (∀ n : RegionIndex, t.regions[n] = Region.initial) ∧ t.refresh = { records := [], scan := 0 } ∧
     t.params.windowPages = 32704 ∧ (∀ b : Fin 32, t.params.attnMask.getLsbD b.val = decide (b.val ∈ [1, 2, 3, 4, 5, 7, 8, 9, 10, 11, 13])) ∧
     t.sequencer = { Sequencer.initial with phase := .size, startKind := some .powerOn } ∧ t.command = CommandUnit.initial ∧
     t.events = EventQueue.initial ∧ t.counters = Counters.initial ∧ t.port = { Port.initial with maddr := some maddr } ∧
     t.psafe = false) ∧
  (∀ s : State, s.resetAsserted = false → ∃ t, exec .resetNAssertion s = .next t ∧
     t.resetAsserted = true ∧ t.array = s.array ∧ t.shadow = s.shadow ∧
     t.params.windowPages = 32704 ∧ t.params.attnMask = s.params.attnMask ∧
     t.events = { s.events with cursor := 0 } ∧
     t.control = { mode := .start, drainCause := none, reinitPending := false, pfail := s.control.pfail, reinitClaimed := false } ∧
     (∀ i : Slot, free t.entries[i]) ∧
     t.commitQueue = [] ∧ t.engine = Engine.initial ∧ t.link = Link.initial ∧ (∀ d : DttIndex, t.dtt[d] = DttEntry.initial) ∧
     t.syncRecord = .idle 0 ∧
     (∀ n : RegionIndex, t.regions[n] = if s.regions[n].frozen then s.regions[n] else Region.initial) ∧
     t.refresh = { records := [], scan := 0 } ∧ t.sequencer = Sequencer.initial ∧ t.command = CommandUnit.initial ∧
     t.counters = Counters.initial ∧ t.port = Port.initial ∧ t.psafe = false) ∧
  (∀ (pfail : Bool) (maddr : BitVec 2) (s : State), s.resetAsserted = true →
     exec (.resetNDeassertion pfail maddr) s = .next { s with
       resetAsserted := false
       control := { s.control with mode := .start, pfail := pfail }
       sequencer := { Sequencer.initial with phase := .size, startKind := some .resetN }
       port := { s.port with maddr := some maddr } })

/-- The state after power-on meets every law that the statements below carry from step to step. -/
def Obligations.ResetStateMeetsTheLaws : Prop :=
  State.reset.StagingLaw ∧ State.reset.ResetLaw ∧ State.reset.PageLaw ∧ State.reset.WrittenWithinValid ∧ State.reset.WholePageValid ∧
  State.reset.ProtectionPromise ∧
  State.reset.DttQuota ∧ State.reset.ArrivalLaw ∧ State.reset.EventLaw ∧ State.reset.SuspensionBudget ∧ State.reset.ArrayLaw

/-! ### WRITE requests -/

/-- A WRITE that the checks let through (R4, R5, R7, R8, R9, R10, R11, R110). With no absorbing entry it takes the lowest FREE slot: an OPEN HOST entry that holds
the write, its generation advanced and both timers started. With one it joins it: in an OPEN entry the idle timer restarts, and a written set that becomes the
whole page seals the entry; a SEALED entry keeps its place in the queue. The answer is DONE, and a READY delayed READ of the page takes the bytes that the two
have in common, and keeps the rest. -/
def Obligations.WriteIsAbsorbed : Prop :=
  let patched (s t : State) (addr : BitVec 24) (len : BitVec 7) (data : List Byte) : Prop := ∀ d : DttIndex,
    (∀ (a : Nat) (bytes : List Byte), s.dtt[d].state = .ready → s.dtt[d].kind = some .read → s.dtt[d].result = some .data →
      s.dtt[d].address = some a → s.dtt[d].data = some bytes → a / 512 = addr.toNat / 512 →
      ∃ new : List Byte, t.dtt[d] = { s.dtt[d] with data := some new } ∧ new.length = bytes.length ∧
        ∀ k < bytes.length, new[k]? =
          if addr.toNat ≤ a + k ∧ a + k < addr.toNat + len.toNat then data[a + k - addr.toNat]? else bytes[k]?) ∧
    (s.dtt[d].state ≠ .ready ∨ s.dtt[d].kind ≠ some .read ∨ s.dtt[d].result ≠ some .data ∨
        (∃ a, s.dtt[d].address = some a ∧ a / 512 ≠ addr.toNat / 512) → t.dtt[d] = s.dtt[d])
  (∀ (s : State) (req : Requester) (addr : BitVec 24) (len : BitVec 7) (data : List Byte) (i : Slot),
     s.AdmitsWrite addr len → data.length = len.toNat →
     (∀ j : Slot, s.entries[j].page = some (addr.toNat / 512) → s.entries[j].state ≠ .opened ∧ s.entries[j].state ≠ .sealed) →
     s.entries[i].state = .free → (∀ j : Slot, j < i → s.entries[j].state ≠ .free) →
     ∃ t, exec (.writeRequest req addr len data) s = .next t ∧ patched s t addr len data ∧
       t = { s.setEntry i
         { state := .opened, generation := s.entries[i].generation + 1#8, page := some (addr.toNat / 512), origin := some .host,
           buffer := writeRun s.entries[i].buffer (addr.toNat % 512) data,
           written := runSet (addr.toNat % 512) len.toNat, valid := runSet (addr.toNat % 512) len.toNat,
           writers := requesterBit req, idleTimer := some (s.params.idleSeal * 1000), ageTimer := some (s.params.maxOpen * 1000),
           allocTime := some s.now, lastWrite := some s.now, attempts := 0 } with
         dtt := t.dtt, response := some .done }) ∧
  (∀ (s : State) (req : Requester) (addr : BitVec 24) (len : BitVec 7) (data : List Byte) (i : Slot),
     s.AdmitsWrite addr len → data.length = len.toNat → s.absorbingSlot (addr.toNat / 512) = some i →
     let e : Entry := { s.entries[i] with
       buffer := writeRun s.entries[i].buffer (addr.toNat % 512) data
       written := s.entries[i].written ||| runSet (addr.toNat % 512) len.toNat
       valid := s.entries[i].valid ||| runSet (addr.toNat % 512) len.toNat
       writers := s.entries[i].writers ||| requesterBit req
       lastWrite := some s.now }
     ∃ t, exec (.writeRequest req addr len data) s = .next t ∧ patched s t addr len data ∧
       (s.entries[i].state = .sealed → t = { s.setEntry i e with dtt := t.dtt, response := some .done }) ∧
       (s.entries[i].state = .opened → e.written ≠ wholePage →
         t = { s.setEntry i { e with idleTimer := some (s.params.idleSeal * 1000) } with dtt := t.dtt, response := some .done }) ∧
       (s.entries[i].state = .opened → e.written = wholePage →
         t = { s.setEntry i { e with state := .sealed, idleTimer := none, ageTimer := none } with
           dtt := t.dtt, commitQueue := s.commitQueue ++ [i], response := some .done }))

/-- A WRITE answered DONE is what the coverage lookup gives from then on, and it changes the lookup nowhere else (R7, R8, R9, R24). -/
def Obligations.AbsorbedWriteIsCovered : Prop :=
  ∀ (s : State) (req : Requester) (addr : BitVec 24) (len : BitVec 7) (data : List Byte),
    s.AdmitsWrite addr len → data.length = len.toNat →
    (s.absorbingSlot (addr.toNat / 512)).isSome ∨ s.freeSlot.isSome →
    ∃ t, exec (.writeRequest req addr len data) s = .next t ∧ t.response = some .done ∧
      ∀ page o : Nat, t.coveredByte page o =
        if page = addr.toNat / 512 ∧ addr.toNat % 512 ≤ o ∧ o < addr.toNat % 512 + len.toNat then data[o - addr.toNat % 512]?
        else s.coveredByte page o

/-- A WRITE that finds no absorbing entry and no FREE slot (R7, R16, R86, R89): with an OPEN entry the one written longest ago is sealed (PRESSURE)
and the answer is RETRY; with none, FAULT STAGING where every entry is FAILED, and RETRY otherwise. -/
def Obligations.WriteFindsNoSlot : Prop :=
  ∀ (s : State) (req : Requester) (addr : BitVec 24) (len : BitVec 7) (data : List Byte),
    s.AdmitsWrite addr len → data.length = len.toNat → s.absorbingSlot (addr.toNat / 512) = none →
    (∀ j : Slot, s.entries[j].state ≠ .free) →
    (∀ i : Slot, s.entries[i].state = .opened →
      (∀ j : Slot, s.entries[j].state = .opened → s.entries[i].lastWrite.getD 0 < s.entries[j].lastWrite.getD 0 ∨
        (s.entries[i].lastWrite.getD 0 = s.entries[j].lastWrite.getD 0 ∧ i ≤ j)) →
      exec (.writeRequest req addr len data) s = .next { s.setEntry i
          { s.entries[i] with state := .sealed, idleTimer := none, ageTimer := none } with
        commitQueue := s.commitQueue ++ [i]
        counters := { s.counters with stagingRetries := satInc16 s.counters.stagingRetries }
        response := some .retry }) ∧
    ((∀ j : Slot, s.entries[j].state = .failed) →
      exec (.writeRequest req addr len data) s = .next { s with
        events := s.events.append (.writeFault .staging none) (some (addr.toNat / 512)) none (some req)
        response := some (.fault .staging) }) ∧
    ((∀ j : Slot, s.entries[j].state ≠ .opened) → (∃ j : Slot, s.entries[j].state ≠ .failed) →
      exec (.writeRequest req addr len data) s = .next { s with
        counters := { s.counters with stagingRetries := satInc16 s.counters.stagingRetries }
        response := some .retry })

/-- A WRITE that a check turns away, in the order of R79 (R75, R80 to R85): FORMAT, RANGE, the mode gate (DEVICE in HALTED; RETRY in START, DRAIN
and DRAINED), PROTECT. While RESET_N is asserted the answer is RETRY. -/
def Obligations.WriteRefusedByTheChecks : Prop :=
  ∀ (s : State) (req : Requester) (addr : BitVec 24) (len : BitVec 7) (data : List Byte),
    let refusal (k : FaultKind) (found : Option AccessMode) : State :=
      { s with events := s.events.append (.writeFault k found) (some (addr.toNat / 512)) none (some req), response := some (.fault k) }
    let formatGood := 1 ≤ len.toNat ∧ addr.toNat % 64 + len.toNat ≤ 64
    let rangeGood := addr.toNat < s.params.windowPages * 512
    (s.resetAsserted = true → exec (.writeRequest req addr len data) s = .next { s with response := some .retry }) ∧
    (s.resetAsserted = false → ¬ formatGood → exec (.writeRequest req addr len data) s = .next (refusal .format none)) ∧
    (s.resetAsserted = false → formatGood → ¬ rangeGood →
      exec (.writeRequest req addr len data) s = .next (refusal .range none)) ∧
    (s.resetAsserted = false → formatGood → rangeGood →
      (s.control.mode = .halted → exec (.writeRequest req addr len data) s = .next (refusal .device none)) ∧
      (s.control.mode = .start ∨ s.control.mode = .drain ∨ s.control.mode = .drained →
        exec (.writeRequest req addr len data) s = .next { s with response := some .retry }) ∧
      (∀ m, s.control.mode = .running → s.effectiveMode (addr.toNat / 512) = m → m ≠ .readWrite →
        exec (.writeRequest req addr len data) s = .next (refusal .protect (some m))))

/-! ### READ requests -/

/-- A READ whose every byte staging holds is answered DATA at once, the absorbing entry before the retired one, and nothing else changes
(R24, R90, R91). -/
def Obligations.CoveredReadReturnsStagedBytes : Prop :=
  ∀ (s : State) (req : Requester) (addr : BitVec 24) (len : BitVec 7) (bytes : List Byte),
    s.AdmitsRead addr len → s.matchDtt (.read req addr.toNat len.toNat) = none → bytes.length = len.toNat →
    (∀ (k : Nat) (h : k < bytes.length), s.coveredByte (addr.toNat / 512) (addr.toNat % 512 + k) = some bytes[k]) →
    exec (.readRequest req addr len) s = .next { s with response := some (.data bytes) }

/-- A READ that matches a delayed entry (R99, R100, R105): a READY entry's result is the answer and the entry becomes FREE, the arrival numbers
above its own moving down by one; any other entry answers RETRY and is kept. -/
def Obligations.ReissuedReadCollectsItsResult : Prop :=
  ∀ (s : State) (req : Requester) (addr : BitVec 24) (len : BitVec 7) (i : DttIndex),
    s.AdmitsRead addr len → s.matchDtt (.read req addr.toNat len.toNat) = some i →
    (s.dtt[i].state ≠ .ready → exec (.readRequest req addr len) s = .next { s with response := some .retry }) ∧
    (∀ n, s.dtt[i].state = .ready → s.dtt[i].arrival = some n →
      ∃ t, exec (.readRequest req addr len) s = .next t ∧ t = { s with dtt := t.dtt, response := t.response } ∧
        t.dtt[i] = DttEntry.initial ∧
        (∀ bytes, s.dtt[i].result = some .data → s.dtt[i].data = some bytes → t.response = some (.data bytes)) ∧
        (∀ k, s.dtt[i].result = some (.fault k) → t.response = some (.fault k)) ∧
        (∀ (j : DttIndex) (m : Nat), j ≠ i → s.dtt[j].arrival = some m → n < m → t.dtt[j] = { s.dtt[j] with arrival := some (m - 1) }) ∧
        (∀ j : DttIndex, j ≠ i → (∀ m, s.dtt[j].arrival = some m → m ≤ n) → t.dtt[j] = s.dtt[j]))

/-- A READ in RUNNING that neither matches nor is fully covered is answered RETRY (R90, R97, R103, R104, R105): recorded in the lowest FREE entry
with the next arrival number where its requester holds fewer than two; counted in UNRECORDED_RETRIES otherwise. -/
def Obligations.UncoveredReadIsRecorded : Prop :=
  ∀ (s : State) (req : Requester) (addr : BitVec 24) (len : BitVec 7),
    s.AdmitsRead addr len → s.control.mode = .running → s.matchDtt (.read req addr.toNat len.toNat) = none →
    (∃ k < len.toNat, s.coveredByte (addr.toNat / 512) (addr.toNat % 512 + k) = none) →
    (∀ d : DttIndex, s.heldBy req < 2 → s.dtt[d].state = .free → (∀ j : DttIndex, j < d → s.dtt[j].state ≠ .free) →
      exec (.readRequest req addr len) s = .next { s.setDtt d
          { state := .waiting, kind := some .read, requester := some req, address := some addr.toNat, length := some len.toNat,
            data := none, result := none, waitSet := none, arrival := some s.readCount, discard := none } with
        response := some .retry }) ∧
    (2 ≤ s.heldBy req ∨ (∀ d : DttIndex, s.dtt[d].state ≠ .free) →
      exec (.readRequest req addr len) s = .next { s with
        counters := { s.counters with unrecordedRetries := satInc16 s.counters.unrecordedRetries }
        response := some .retry })

/-- A READ that is turned away (R75, R80 to R85, R92, R93, R102): the checks in the order of R79, where a RANGE or PROTECT refusal frees a
matching entry that is not FETCHING; and, uncovered and unmatched, RETRY in DRAIN and DRAINED and FAULT DEVICE in HALTED. That a RANGE refusal frees the entry in
START too is the model's reading (log entry 20). -/
def Obligations.ReadRefused : Prop :=
  ∀ (s : State) (req : Requester) (addr : BitVec 24) (len : BitVec 7),
    let refusal (t : State) (k : FaultKind) (found : Option AccessMode) : State :=
      { t with events := s.events.append (.readFault k found) (some (addr.toNat / 512)) none (some req), response := some (.fault k) }
    let formatGood := 1 ≤ len.toNat ∧ addr.toNat % 64 + len.toNat ≤ 64
    let rangeGood := addr.toNat < s.params.windowPages * 512
    let released : State :=
      match s.matchDtt (.read req addr.toNat len.toNat) with
      | some i => if s.dtt[i].state = .fetching then s else s.freeDtt i
      | none => s
    (s.resetAsserted = true → exec (.readRequest req addr len) s = .next { s with response := some .retry }) ∧
    (s.resetAsserted = false → ¬ formatGood → exec (.readRequest req addr len) s = .next (refusal s .format none)) ∧
    (s.resetAsserted = false → formatGood → ¬ rangeGood →
      exec (.readRequest req addr len) s = .next (refusal released .range none)) ∧
    (s.resetAsserted = false → formatGood → rangeGood → s.control.mode = .start →
      exec (.readRequest req addr len) s = .next { s with response := some .retry }) ∧
    (s.resetAsserted = false → formatGood → rangeGood → s.control.mode ≠ .start → s.effectiveMode (addr.toNat / 512) = .noAccess →
      exec (.readRequest req addr len) s = .next (refusal released .protect (some .noAccess))) ∧
    (s.AdmitsRead addr len → s.matchDtt (.read req addr.toNat len.toNat) = none →
      (∃ k < len.toNat, s.coveredByte (addr.toNat / 512) (addr.toNat % 512 + k) = none) →
      (s.control.mode = .drain ∨ s.control.mode = .drained →
        exec (.readRequest req addr len) s = .next { s with response := some .retry }) ∧
      (s.control.mode = .halted → exec (.readRequest req addr len) s = .next (refusal s .device none)))

/-! ### FENCE requests, and requests of no kind -/

/-- A FENCE that is not recorded (R82, R94, R99, R100, R104, R121, R122, R124). FAULT DURABILITY where some FAILED entry holds bytes of its requester, with
FENCE_FAULT naming the lowest such slot; DONE where the requester has no bytes staged; RETRY in START and while RESET_N is asserted, FAULT DEVICE in HALTED. One that matches a delayed entry
collects a READY result, which frees the entry, or is answered RETRY. One that must wait but finds no place is counted in UNRECORDED_RETRIES and answered RETRY. -/
def Obligations.FenceIsAnsweredOrCollected : Prop :=
  (∀ (s : State) (req : Requester),
     (s.resetAsserted = true ∨ s.control.mode = .start →
       exec (.fenceRequest req) s = .next { s with response := some .retry }) ∧
     (s.resetAsserted = false → s.control.mode = .halted → exec (.fenceRequest req) s = .next { s with
       events := s.events.append (.fenceFault .device .arrival) none none (some req), response := some (.fault .device) }) ∧
     (s.AdmitsFence → s.matchDtt (.fence req) = none →
       (∀ i : Slot, s.entries[i].state = .failed → s.entries[i].writers.getLsbD req.val = true →
         (∀ j : Slot, j < i → s.entries[j].state = .failed → s.entries[j].writers.getLsbD req.val = false) →
         exec (.fenceRequest req) s = .next { s with
           events := s.events.append (.fenceFault .durability .arrival) s.entries[i].page (some i) (some req)
           response := some (.fault .durability) }) ∧
       ((∀ i : Slot, s.entries[i].state ≠ .free → s.entries[i].writers.getLsbD req.val = false) →
         exec (.fenceRequest req) s = .next { s with response := some .done }))) ∧
  (∀ (s : State) (req : Requester), s.AdmitsFence →
     (∀ i, s.matchDtt (.fence req) = some i → s.dtt[i].state ≠ .ready →
       exec (.fenceRequest req) s = .next { s with response := some .retry }) ∧
     (∀ i, s.matchDtt (.fence req) = some i → s.dtt[i].state = .ready → s.dtt[i].arrival = none →
       (s.dtt[i].result = some .done →
         exec (.fenceRequest req) s = .next { s.setDtt i DttEntry.initial with response := some .done }) ∧
       (∀ k, s.dtt[i].result = some (.fault k) →
         exec (.fenceRequest req) s = .next { s.setDtt i DttEntry.initial with response := some (.fault k) })) ∧
     (s.matchDtt (.fence req) = none →
       (∀ i : Slot, s.entries[i].state = .failed → s.entries[i].writers.getLsbD req.val = false) →
       (∃ i : Slot, s.entries[i].state ≠ .free ∧ s.entries[i].writers.getLsbD req.val = true) →
       2 ≤ s.heldBy req ∨ (∀ d : DttIndex, s.dtt[d].state ≠ .free) →
       exec (.fenceRequest req) s = .next { s with
         counters := { s.counters with unrecordedRetries := satInc16 s.counters.unrecordedRetries }, response := some .retry }))

/-- A FENCE that must wait is recorded (R14, R17, R96, R123, R124): its wait set holds the pair of every OPEN, SEALED and COMMITTING entry with bytes
of its requester, and the OPEN ones among them are sealed in order of allocation time. The answer is RETRY. -/
def Obligations.FenceRecordsItsWaitSet : Prop :=
  ∀ (s : State) (req : Requester) (d : DttIndex),
    s.AdmitsFence → s.matchDtt (.fence req) = none →
    (∀ i : Slot, s.entries[i].state = .failed → s.entries[i].writers.getLsbD req.val = false) →
    (∃ i : Slot, s.entries[i].state ≠ .free ∧ s.entries[i].writers.getLsbD req.val = true) →
    s.heldBy req < 2 → s.dtt[d].state = .free → (∀ j : DttIndex, j < d → s.dtt[j].state ≠ .free) →
    ∃ (t : State) (sealing : List Slot) (ws : List WaitPair), exec (.fenceRequest req) s = .next t ∧
      t = { s with dtt := t.dtt, entries := t.entries, commitQueue := s.commitQueue ++ sealing, response := some .retry } ∧
      t.dtt[d] = { DttEntry.initial with state := .waiting, kind := some .fence, requester := some req, waitSet := some ws } ∧
      (∀ j : DttIndex, j ≠ d → t.dtt[j] = s.dtt[j]) ∧ ws.Nodup ∧
      (∀ p : WaitPair, p ∈ ws ↔ p.generation = s.entries[p.slot].generation ∧ s.entries[p.slot].writers.getLsbD req.val = true ∧
        s.entries[p.slot].state ≠ .free) ∧
      sealing.Nodup ∧
      (∀ i : Slot, i ∈ sealing ↔ s.entries[i].state = .opened ∧ s.entries[i].writers.getLsbD req.val = true) ∧
      sealing.Pairwise (fun i j => s.entries[i].allocTime.getD 0 < s.entries[j].allocTime.getD 0 ∨
        (s.entries[i].allocTime.getD 0 = s.entries[j].allocTime.getD 0 ∧ i < j)) ∧
      (∀ i : Slot, t.entries[i] =
        if i ∈ sealing then { s.entries[i] with state := .sealed, idleTimer := none, ageTimer := none } else s.entries[i])

/-- A request whose kind field holds 3 (R197): FAULT FORMAT in every mode, with READ_FAULT; RETRY while RESET_N is asserted. No fault kind has the
code 0 or 7. -/
def Obligations.RequestOfNoKindIsAFormatFault : Prop :=
  (∀ (s : State) (req : Requester) (addr : BitVec 24),
    (s.resetAsserted = false → exec (.invalidKindRequest req addr) s = .next { s with
      events := s.events.append (.readFault .format none) (some (addr.toNat / 512)) none (some req)
      response := some (.fault .format) }) ∧
    (s.resetAsserted = true → exec (.invalidKindRequest req addr) s = .next { s with response := some .retry })) ∧
  ∀ k : FaultKind, k.code ≠ 0 ∧ k.code ≠ 7

/-! ### The staging timers and the take of the head -/

/-- The idle timer and the open-age timer that have run out seal their OPEN entry at the tail of the queue (R10, R11, R14). An expiry that finds another entry
in the slot, a stopped timer, or an idle timer that a write has restarted first, does not take place. -/
def Obligations.TimersSealTheOpenEntry : Prop :=
  ∀ (s : State) (i : Slot),
    let after : State :=
      { s.setEntry i { s.entries[i] with state := .sealed, idleTimer := none, ageTimer := none } with
        commitQueue := s.commitQueue ++ [i] }
    (s.control.mode = .running ∨ s.control.mode = .drain → s.entries[i].state = .opened →
      (s.entries[i].idleTimer = some 0 → exec (.idleTimerExpiry i) s = .next after) ∧
      (s.entries[i].ageTimer = some 0 → exec (.openAgeTimerExpiry i) s = .next after)) ∧
    (s.entries[i].state ≠ .opened → exec (.idleTimerExpiry i) s = .next s ∧ exec (.openAgeTimerExpiry i) s = .next s) ∧
    (s.entries[i].idleTimer ≠ some 0 → exec (.idleTimerExpiry i) s = .next s) ∧
    (s.entries[i].ageTimer ≠ some 0 → exec (.openAgeTimerExpiry i) s = .next s)

/-- TAKE_HEAD (R18, R19, R21, R30, R31). The head leaves the queue and is COMMITTING with attempts 0; the engine holds its pair with attempt 1 and goes to
FILL or ERASE as R31 says. A FAILED entry of the same page is absorbed: the successor keeps the bytes of its written set, takes every other byte and the
writers of the predecessor, and goes to ERASE; the predecessor becomes FREE with its generation. That a FREE entry has no times and no attempts is read from R28, and that it keeps
its buffer bytes is the model's choice (log entry 11); that the absorption takes place in DRAIN too, where R162 says that an entry which ends FAILED stays FAILED, is its reading (log entry 43). -/
def Obligations.HeadIsTakenForCommit : Prop :=
  (∀ (s : State) (i : Slot) (rest : List Slot) (page : Nat),
     s.engine.stage = .idle → s.control.mode = .running ∨ s.control.mode = .drain → s.commitQueue = i :: rest →
     s.entries[i].page = some page → (∀ j : Slot, s.entries[j].page = some page → s.entries[j].state ≠ .failed) →
     exec .takeHead s = .next { s.setEntry i { s.entries[i] with state := .committing, attempts := 0 } with
       commitQueue := rest
       engine := {
         stage := if (s.entries[i].origin = some .host ∧ s.params.elide = true) ∨ s.entries[i].valid ≠ wholePage then .fill else .erase
         slot := some i, generation := some s.entries[i].generation, attempt := some 1, step := some .waiting } }) ∧
  (∀ (s : State) (i j : Slot) (rest : List Slot) (page : Nat),
     s.engine.stage = .idle → s.control.mode = .running ∨ s.control.mode = .drain → s.commitQueue = i :: rest →
     s.entries[i].state = .sealed → s.entries[i].page = some page → s.entries[j].state = .failed → s.entries[j].page = some page →
     (∀ k : Slot, s.entries[k].page = some page → s.entries[k].state = .failed → k = j) →
     ∃ t, exec .takeHead s = .next t ∧ t = { s with entries := t.entries, commitQueue := rest, engine := t.engine } ∧
       t.engine = { stage := .erase, slot := some i, generation := some s.entries[i].generation, attempt := some 1, step := some .waiting } ∧
       t.entries[i] = { s.entries[i] with
         state := .committing, attempts := 0, valid := wholePage, writers := s.entries[i].writers ||| s.entries[j].writers
         buffer := t.entries[i].buffer } ∧
       (∀ o : Fin 512, t.entries[i].buffer[o] =
         if s.entries[i].written.getLsbD o.val then s.entries[i].buffer[o] else s.entries[j].buffer[o]) ∧
       t.entries[j] = { Entry.initial with generation := s.entries[j].generation, buffer := s.entries[j].buffer } ∧
       ∀ k : Slot, k ≠ i → k ≠ j → t.entries[k] = s.entries[k])

/-! ### The arbiter and the reads of the link -/

/-- ARBITER_DECISION for the engine (R45, R46, R58, R60, R62): it is granted in DRAIN whenever it claims, and in RUNNING and DRAINED when no read waits
or the fetch streak has reached READ_STREAK. The command of its stage is issued and the streak returns to 0. That `array` holds undefined content for the page from the
issue of ERASE or PROGRAM on is the model's choice (log entry 12); R50 says it of a RESET_N that cuts the operation short. -/
def Obligations.ArbiterGrantsTheEngine : Prop :=
  ∀ (s : State) (i : Slot) (page : Nat),
    s.link.state = .idle → s.link.inFlight = none → s.engine.step = some .waiting → s.engine.slot = some i →
    s.entries[i].page = some page →
    s.control.mode = .drain ∨ ((s.control.mode = .running ∨ s.control.mode = .drained) ∧
      ((∀ d : DttIndex, s.dtt[d].state = .waiting → s.dtt[d].kind ≠ some .read) ∨ s.params.readStreak ≤ s.link.fetchStreak)) →
    (s.engine.stage = .fill ∨ s.engine.stage = .verify →
      exec .arbiterDecision s = .next { s with
        engine := { s.engine with step := some .issued }
        link := { s.link with state := .reading, owner := some .commit, inFlight := some (.read (page * 512) 512), fetchStreak := 0 } }) ∧
    (s.engine.stage = .erase →
      exec .arbiterDecision s = .next { s with
        engine := { s.engine with step := some .issued }
        array := insertPage page .undefined s.array
        link := { s.link with
          owner := some .commit, inFlight := some (.erase page), opKind := some .erase, opPage := some page
          suspensionCount := some 0, opTimer := some 0, opExceeded := false, fetchStreak := 0 } }) ∧
    (s.engine.stage = .program →
      exec .arbiterDecision s = .next { s with
        engine := { s.engine with step := some .issued }
        array := insertPage page .undefined s.array
        link := { s.link with
          owner := some .commit, inFlight := some (.program page s.entries[i].buffer), opKind := some .program, opPage := some page
          suspensionCount := some 0, opTimer := some 0, opExceeded := false, fetchStreak := 0 } })

/-- ARBITER_DECISION and SUSPENDED_FETCH_STEP for a read (R60, R61, R62, R65, R106, R107, R108): the oldest WAITING read is served. From IDLE it is
granted while the engine makes no claim or the fetch streak is below READ_STREAK, which the grant of a READ raises; in DRAIN only while the engine
has no work. Inside a suspension it is served while fewer than READ_STREAK have been. A covered one is READY at once and issues nothing. -/
def Obligations.OldestWaitingReadIsServed : Prop :=
  ∀ (s : State) (d : DttIndex) (addr len : Nat),
    s.dtt[d].state = .waiting → s.dtt[d].kind = some .read → s.dtt[d].address = some addr → s.dtt[d].length = some len →
    (∀ j : DttIndex, j ≠ d → s.dtt[j].state = .waiting → s.dtt[j].kind = some .read →
      s.dtt[d].arrival.getD 0 < s.dtt[j].arrival.getD 0) →
    s.link.inFlight = none →
    let covered (bytes : List Byte) : Prop := bytes.length = len ∧
      ∀ (k : Nat) (h : k < bytes.length), s.coveredByte (addr / 512) (addr % 512 + k) = some bytes[k]
    let uncovered : Prop := ∃ k < len, s.coveredByte (addr / 512) (addr % 512 + k) = none
    let ready (bytes : List Byte) : State := s.setDtt d
      { s.dtt[d] with state := .ready, data := some bytes, result := some .data, discard := some s.params.discardTime }
    let fetching : State := s.setDtt d { s.dtt[d] with state := .fetching }
    (s.link.state = .idle →
      ((s.control.mode = .running ∨ s.control.mode = .drained) ∧
          (s.engine.step ≠ some .waiting ∨ s.engine.slot = none ∨ s.link.fetchStreak < s.params.readStreak)) ∨
        (s.control.mode = .drain ∧ s.engine = Engine.initial ∧ s.commitQueue = []) →
      (∀ bytes, covered bytes → exec .arbiterDecision s = .next (ready bytes)) ∧
      (uncovered → exec .arbiterDecision s = .next { fetching with
        link := { s.link with
          state := .reading, owner := some (.fetch d), inFlight := some (.read addr len)
          fetchStreak := if s.link.fetchStreak < s.params.readStreak then s.link.fetchStreak + 1 else s.link.fetchStreak } })) ∧
    (s.link.state = .suspended → s.control.mode = .running → s.link.fetchesThisSuspension.getD 0 < s.params.readStreak →
      (∀ bytes, covered bytes → exec .suspendedFetchStep s = .next (ready bytes)) ∧
      (uncovered → exec .suspendedFetchStep s = .next { fetching with
        link := { s.link with
          state := .suspendedReading, owner := some (.fetch d), inFlight := some (.read addr len)
          fetchesThisSuspension := some (s.link.fetchesThisSuspension.getD 0 + 1) } }))

/-- READ_COMPLETION of a fetch (R57, R109, R112): the entry becomes READY with the array bytes, each byte that staging covers replaced by its staged
value, and its discard timer starts; the link returns to IDLE, or to SUSPENDED inside a suspension. -/
def Obligations.FetchCompletionOverlaysStagedBytes : Prop :=
  ∀ (s : State) (d : DttIndex) (addr len : Nat) (bytes : List Byte),
    s.link.inFlight = some (.read addr len) → s.link.owner = some (.fetch d) → bytes.length = len →
    s.dtt[d].state = .fetching → s.dtt[d].address = some addr →
    ∃ data : List Byte, data.length = len ∧
      (∀ k < len, data[k]? = (s.coveredByte (addr / 512) (addr % 512 + k)).or bytes[k]?) ∧
      exec (.readCompletion bytes) s = .next { s.setDtt d
          { s.dtt[d] with state := .ready, data := some data, result := some .data, discard := some s.params.discardTime } with
        link := s.link.afterRead }

/-- READ_COMPLETION of FILL (R32, R33): array bytes fill every offset outside the valid set, which becomes the whole page, and the engine goes to
ERASE; but for a HOST entry with ELIDE on whose bytes are the array's already, which ends ELIDED: the entry FREE, ELIDED_COMMITS counted. The link is as every READ leaves it (R57). -/
def Obligations.FillMergesOrElides : Prop :=
  ∀ (s : State) (i : Slot) (bytes : List Byte),
    s.engine.slot = some i → s.engine.stage = .fill → s.AwaitsBytes bytes →
    let same : Prop := ∀ o : Fin 512, s.entries[i].valid.getLsbD o.val = true → s.entries[i].buffer[o] = bytes.getD o.val 0#8
    (¬ (s.entries[i].origin = some .host ∧ s.params.elide = true ∧ same) →
      ∃ t, exec (.readCompletion bytes) s = .next t ∧
        t = { s with entries := t.entries, link := s.link.afterRead, engine := { s.engine with stage := .erase, step := some .waiting } } ∧
        t.entries[i] = { s.entries[i] with valid := wholePage, buffer := t.entries[i].buffer } ∧
        (∀ o : Fin 512, t.entries[i].buffer[o] =
          if s.entries[i].valid.getLsbD o.val then s.entries[i].buffer[o] else bytes.getD o.val 0#8) ∧
        ∀ j : Slot, j ≠ i → t.entries[j] = s.entries[j]) ∧
    (s.entries[i].origin = some .host → s.params.elide = true → same →
      ∃ t, exec (.readCompletion bytes) s = .next t ∧ t.engine = Engine.initial ∧ t.entries[i].state = .free ∧
        t.entries[i].generation = s.entries[i].generation ∧
        t.counters = { s.counters with elidedCommits := satInc16 s.counters.elidedCommits } ∧
        t.link = s.link.afterRead ∧ t.array = s.array ∧ t.refresh = s.refresh ∧ t.events = s.events ∧ t.commitQueue = s.commitQueue)

/-! ### The outcome of an attempt and of a commit -/

/-- An erase that succeeds leads to PROGRAM, and a program that succeeds to VERIFY where VERIFY is on or the origin is CONFIG (R35, R36, R59, R67).
The record of the operation is cleared. That `array` then holds the page as erased, or as the entry's bytes, is the model's record of what R52 says the operation does (log entry 12). -/
def Obligations.OperationSuccessLeadsOn : Prop :=
  ∀ (s : State) (i : Slot) (page : Nat), s.engine.slot = some i → s.AwaitsResult → s.link.opPage = some page →
    let idleLink : Link := s.link.afterOperation
    (s.engine.stage = .erase → s.link.opKind = some .erase →
      exec (.statusReply .ready false) s = .next { s with
        link := idleLink, array := insertPage page .erased s.array
        engine := { s.engine with stage := .program, step := some .waiting } }) ∧
    (s.engine.stage = .program → s.link.opKind = some .program → s.params.verify = true ∨ s.entries[i].origin = some .config →
      exec (.statusReply .ready false) s = .next { s with
        link := idleLink, array := insertPage page (.image s.entries[i].buffer) s.array
        engine := { s.engine with stage := .verify, step := some .waiting } })

/-- An attempt that fails below COMMIT_TRIES is counted and retried from ERASE with the next attempt number and COMMIT_RETRY (R38, R39, R40); the
entry stays COMMITTING and no fence and no SYNC hears of it. The link is IDLE with no operation after a failed operation and after a recovery (R59, R67, R71),
and as every READ leaves it after a VERIFY (R57). What the failed operation or VERIFY left in the page is undefined content in `array` (R41, log entry 12). -/
def Obligations.FailedAttemptIsRetried : Prop :=
  ∀ (s : State) (c : Instr) (i : Slot) (cause : CommitCause) (n : Nat),
    s.AttemptFailsBy c i cause → s.entries[i].attempts = n → s.engine.attempt = some (n + 1) → n + 1 < s.params.commitTries →
    ∃ t, exec c s = .next t ∧
      t = { s.setEntry i { s.entries[i] with attempts := n + 1 } with
        engine := { s.engine with stage := .erase, step := some .waiting, attempt := some (n + 2) }
        events := s.events.append (.commitRetry cause (n + 1)) s.entries[i].page (some i) none
        link := t.link, array := t.array } ∧
      s.AttemptLeaves c i t

/-- The last failed attempt of a HOST or REFRESH commit (R22, R38, R41, R42, R126, R132): the entry is FAILED with its whole page valid, COMMIT_FAILED is
appended, the engine is IDLE, every fence that waits on the entry is READY with FAULT DURABILITY, its discard timer started, with FENCE_FAULT of phase WAIT that names the slot,
the page and the fence's requester, and a SYNC that waits on it counts the failure, to end FAILED with the count when that was the last pair. The link and the page are left as
after any failed attempt. The order of the FENCE_FAULT records is open (log entry 8); that COMMIT_FAILED stands before them is the model's reading (log entry 35). -/
def Obligations.LastFailedAttemptFailsTheEntry : Prop :=
  ∀ (s : State) (c : Instr) (i : Slot) (cause : CommitCause) (n : Nat),
    s.AttemptFailsBy c i cause → s.entries[i].attempts = n → s.engine.attempt = some (n + 1) → s.params.commitTries ≤ n + 1 →
    s.entries[i].origin ≠ some .config →
    let pair : WaitPair := ⟨i, s.entries[i].generation⟩
    ∃ t, exec c s = .next t ∧ t.engine = Engine.initial ∧ t.commitQueue = s.commitQueue ∧
      t.entries[i] = { s.entries[i] with state := .failed, valid := wholePage, attempts := n + 1 } ∧
      (∀ j : Slot, j ≠ i → t.entries[j] = s.entries[j]) ∧
      (∀ d : DttIndex, t.dtt[d] =
        if s.dtt[d].state = .waiting ∧ s.dtt[d].kind = some .fence ∧ pair ∈ s.dtt[d].waitSet.getD [] then
          { s.dtt[d] with
            state := .ready, result := some (.fault .durability), waitSet := none, discard := some s.params.discardTime }
        else s.dtt[d]) ∧
      (s.events.records.length < 32 →
        ∃ later, t.events.records = s.events.records ++
          ⟨s.events.nextSequence, .commitFailed cause (n + 1), s.entries[i].page, some i, none⟩ :: later) ∧
      (∃ order : List DttIndex, order.Nodup ∧
        (∀ d : DttIndex, d ∈ order ↔ s.dtt[d].state = .waiting ∧ s.dtt[d].kind = some .fence ∧ pair ∈ s.dtt[d].waitSet.getD []) ∧
        t.events = order.foldl (fun q d => q.append (.fenceFault .durability .wait) s.entries[i].page (some i) s.dtt[d].requester)
          (s.events.append (.commitFailed cause (n + 1)) s.entries[i].page (some i) none)) ∧
      s.SyncTakesReport pair true t ∧ t.refresh = s.refresh ∧ s.AttemptLeaves c i t

/-- A HOST or REFRESH commit whose bytes are in the array (R22, R34, R37, R42, R43, R125, R132, R148, R149): the entry is FREE with its generation, the engine is IDLE,
every fence that waits on the entry loses its pair, to become READY with DONE when that was the last, and so does a SYNC, to end DONE or with its count of failures.
A SUCCESS is counted in the record of its sector, whose count returns to 0 and sets pending at REFRESH_INTERVAL; an elided commit, a page outside the window sectors and an
interval of 0 leave the table alone. After a READ, of the elision or of the VERIFY, the link is as every READ leaves it (R57) and no page of `array` changes; after a PROGRAM that needs no
VERIFY the link is IDLE with no operation (R59, R67), and `array` holds the entry's bytes in the page, the model's record of what R52 says the PROGRAM does (log entry 12). -/
def Obligations.CommitEndsWithBytesInTheArray : Prop :=
  ∀ (s : State) (c : Instr) (i : Slot), s.CommitEndsBy c i → s.entries[i].origin ≠ some .config →
    let pair : WaitPair := ⟨i, s.entries[i].generation⟩
    ∃ t, exec c s = .next t ∧ t.engine = Engine.initial ∧ t.commitQueue = s.commitQueue ∧ t.events = s.events ∧
      t.entries[i].state = .free ∧ t.entries[i].generation = s.entries[i].generation ∧
      (∀ j : Slot, j ≠ i → t.entries[j] = s.entries[j]) ∧
      (∀ (d : DttIndex) (ws : List WaitPair), s.dtt[d].state = .waiting → s.dtt[d].kind = some .fence → s.dtt[d].waitSet = some ws →
        (pair ∉ ws → t.dtt[d] = s.dtt[d]) ∧
        (pair ∈ ws → (∀ p ∈ ws, p = pair) → t.dtt[d] = { s.dtt[d] with
          state := .ready, result := some .done, waitSet := none, discard := some s.params.discardTime }) ∧
        ((∃ p ∈ ws, p ≠ pair) →
          t.dtt[d] = { s.dtt[d] with waitSet := some (ws.filter (· ≠ pair)) })) ∧
      (∀ d : DttIndex, s.dtt[d].state ≠ .waiting ∨ s.dtt[d].kind ≠ some .fence → t.dtt[d] = s.dtt[d]) ∧
      s.SyncTakesReport pair false t ∧ s.CommitLeaves c i t ∧
      (s.engine.stage = .fill → t.refresh = s.refresh) ∧
      (∀ page, s.engine.stage ≠ .fill → s.entries[i].page = some page →
        (s.params.refreshInterval = 0 ∨ s.refresh.records.length ≤ page / 64 → t.refresh = s.refresh) ∧
        (∀ r : RefreshRecord, s.refresh.records[page / 64]? = some r →
          (r.count + 1 < s.params.refreshInterval → t.refresh = { s.refresh with
            records := s.refresh.records.set (page / 64) { r with count := r.count + 1 } }) ∧
          (r.count + 1 = s.params.refreshInterval → t.refresh = { s.refresh with
            records := s.refresh.records.set (page / 64) { r with count := 0, pending := true } })))

/-- The end of a CONFIG commit (R42, R44, R183, R189): verified, the entry is FREE, the written copy is the loaded one with the shadow's sequence, and
WRITE_CONFIG ends DONE with CONFIG_WRITTEN; failed for the last time, the entry is FREE and WRITE_CONFIG ends FAILED with CONFIG_WRITE_FAILED. The verified commit leaves the link as every READ
does and every page as it was (R57); the failed one leaves the link and the page as any failed attempt (R41, R57, R59, R67, R71; undefined content in `array`: log entry 12). -/
def Obligations.ConfigCommitEndsWriteConfig : Prop :=
  ∀ (s : State) (c : Instr) (i : Slot) (copy : Copy),
    s.entries[i].origin = some .config → s.sequencer.writeTarget = some copy → s.command.busy = true →
    s.command.last = some .writeConfig →
    (s.CommitEndsBy c i →
      ∃ t, exec c s = .next t ∧ t.entries[i].state = .free ∧ t.engine = Engine.initial ∧ t.dtt = s.dtt ∧ t.refresh = s.refresh ∧
        t.sequencer = { s.sequencer with
          loadedCopy := some (match copy with | .a => .a | .b => .b), loadedSequence := some s.shadow.fields.sequence, writeTarget := none } ∧
        t.events = s.events.append (.configWritten copy s.shadow.fields.sequence) s.entries[i].page (some i) none ∧
        t.command = { s.command with busy := false, result := .done, detail := 0 } ∧ s.CommitLeaves c i t) ∧
    (∀ cause n, s.AttemptFailsBy c i cause → s.engine.attempt = some n → s.params.commitTries ≤ n →
      ∃ t, exec c s = .next t ∧ t.entries[i].state = .free ∧ t.engine = Engine.initial ∧ t.dtt = s.dtt ∧
        t.sequencer = { s.sequencer with writeTarget := none } ∧
        t.events = s.events.append (.configWriteFailed copy cause) s.entries[i].page (some i) none ∧
        t.command = { s.command with busy := false, result := .failed, detail := 0 } ∧ s.AttemptLeaves c i t)

/-! ### Polls, suspension and timeouts -/

/-- Polls (R54, R58, R64, R66, R70). At a poll time in OP_BUSY, SUSPEND is issued where a read waits, the suspension count is below SUSPEND_MAX and the mode is
RUNNING, and STATUS otherwise; in SUSPENDING and RESETTING it is STATUS. A poll time that finds a transaction in flight is owed, and one that is not due changes nothing. Once the
device has accepted ERASE, PROGRAM, SUSPEND or RESUME the link polls, first 10 µs later. RESUME leaves the operation timer as it is. The model's reading (log entry 34): a SUSPEND that a
timeout has overtaken is followed by RESET. -/
def Obligations.PollsAndAcceptedTransactions : Prop :=
  (∀ s : State,
     let suspendAllowed : Prop := s.link.state = .opBusy ∧ s.ReadWaits ∧ s.link.suspensionCount.getD 0 < s.params.suspendMax ∧
       s.control.mode = .running
     (s.link.resetOwed = false → s.link.pollTimer = some 0 →
       (s.link.inFlight = none → suspendAllowed →
         exec .pollTime s = .next { s with link := { s.link with
           owner := some .controller, inFlight := some .suspend, suspendWait := some 0, pollTimer := none, pollOwed := false } }) ∧
       (s.link.inFlight = none → s.link.state = .opBusy ∨ s.link.state = .suspending ∨ s.link.state = .resetting → ¬ suspendAllowed →
         exec .pollTime s = .next { s with link := { s.link with
           owner := some .controller, inFlight := some .status, pollTimer := some 10, pollOwed := false } }) ∧
       (s.link.inFlight ≠ none → s.link.state = .opBusy ∨ s.link.state = .suspending ∨ s.link.state = .resetting →
         exec .pollTime s = .next { s with link := { s.link with pollOwed := true } })) ∧
     (s.link.pollTimer ≠ some 0 → exec .pollTime s = .next s)) ∧
  (∀ s : State,
     ((∃ page, s.link.inFlight = some (.erase page)) ∨ (∃ page bytes, s.link.inFlight = some (.program page bytes)) →
       exec .longOperationAccepted s = .next { s with link := { s.link with
         state := .opBusy, owner := none, inFlight := none, pollTimer := some 10, pollOwed := false } }) ∧
     (s.link.inFlight = some .suspend → s.link.resetOwed = false →
       exec .suspendAccepted s = .next { s with link := { s.link with
         state := .suspending, owner := none, inFlight := none, pollTimer := some 10, pollOwed := false } }) ∧
     (s.link.inFlight = some .suspend → s.link.resetOwed = true →
       exec .suspendAccepted s = .next { s with link := { s.link with
         owner := some .controller, inFlight := some .reset, resetWait := some 0, resetOwed := false } }) ∧
     (s.link.inFlight = some .resume →
       exec .resumeAccepted s = .next { s with link := { s.link with
         state := .opBusy, owner := none, inFlight := none, fetchesThisSuspension := none, pollTimer := some 10, pollOwed := false } }))

/-- STATUS replies and END_SUSPENSION (R54, R59, R65, R66, R68, R71, R193). A suspended device takes a link in SUSPENDING to SUSPENDED, raises the suspension count and counts
SUSPENSIONS. A reply of busy, and one of suspended in OP_BUSY and RESETTING, ends the STATUS and changes nothing else; a poll time that fell meanwhile is taken then, as SUSPEND where R64 says
so and as STATUS otherwise. Once a timeout has been taken the reply is disregarded, whatever it is, and RESET follows it. RESUME is issued once no read waits, READ_STREAK reads have been
served, or the mode is not RUNNING. -/
def Obligations.SuspensionAndStatusReplies : Prop :=
  (∀ (s : State) (failFlag : Bool),
     (s.link.inFlight = some .status → s.link.resetOwed = false → s.link.state = .suspending →
       exec (.statusReply .suspended failFlag) s = .next { s with
         link := { s.link with
           state := .suspended, owner := none, inFlight := none, suspendWait := none
           suspensionCount := some (s.link.suspensionCount.getD 0 + 1), fetchesThisSuspension := some 0
           pollTimer := none, pollOwed := false }
         counters := { s.counters with suspensions := satInc16 s.counters.suspensions } }) ∧
     (s.link.state = .suspended → s.link.inFlight = none →
       s.control.mode ≠ .running ∨ s.params.readStreak ≤ s.link.fetchesThisSuspension.getD 0 ∨ ¬ s.ReadWaits →
       exec .endSuspension s = .next { s with link := { s.link with owner := some .controller, inFlight := some .resume } })) ∧
  (∀ (s : State) (cond : DeviceCondition) (failFlag : Bool), s.link.inFlight = some .status → s.link.resetOwed = false →
     s.link.state = .opBusy ∨ s.link.state = .suspending ∨ s.link.state = .resetting →
     cond = .busy ∨ (cond = .suspended ∧ s.link.state ≠ .suspending) →
     let suspendAllowed : Prop := s.link.state = .opBusy ∧ s.ReadWaits ∧ s.link.suspensionCount.getD 0 < s.params.suspendMax ∧
       s.control.mode = .running
     (s.link.pollOwed = false →
       exec (.statusReply cond failFlag) s = .next { s with link := { s.link with owner := none, inFlight := none } }) ∧
     (s.link.pollOwed = true → suspendAllowed →
       exec (.statusReply cond failFlag) s = .next { s with link := { s.link with
         owner := some .controller, inFlight := some .suspend, suspendWait := some 0, pollTimer := none, pollOwed := false } }) ∧
     (s.link.pollOwed = true → ¬ suspendAllowed →
       exec (.statusReply cond failFlag) s = .next { s with link := { s.link with
         owner := some .controller, inFlight := some .status, pollTimer := some 10, pollOwed := false } })) ∧
  (∀ (s : State) (cond : DeviceCondition) (failFlag : Bool), s.link.inFlight = some .status → s.link.resetOwed = true →
     exec (.statusReply cond failFlag) s = .next { s with link := { s.link with
       owner := some .controller, inFlight := some .reset, resetWait := some 0, resetOwed := false } })

/-- Timeouts and RESET (R68, R69, R70, R71, R174). The operation timer whose running time exceeds its limit in OP_BUSY or SUSPENDING, and the suspend wait timer that has come to 100 µs, append
ARRAY_TIMEOUT and stop; before that no expiry takes place. RESET is issued at once where no transaction is in flight; after a STATUS it is owed (R68), and the model reads the same for any
transaction in flight (R52, log entry 34). The suspend wait timer counts from the issue of SUSPEND, so also before its acceptance (log entry 15). RESET_ACCEPTED leads to RESETTING, polled from
10 µs on, with DEVICE_RESET after a timeout and no record for the RESET of a start-up; the ready reply that ends the RESET of a start-up takes the sequencer to READ_A. That the operation
timers are none once they have stopped is the model's choice (log entry 46). -/
def Obligations.TimeoutResetsTheDevice : Prop :=
  (∀ (s : State) (kind : OpKind), s.link.opKind = some kind →
     let limit : Nat := 1000 * match kind with | .erase => s.params.eraseTimeout | .program => s.params.programTimeout
     let stopped : Link := { s.link with opTimer := none, opExceeded := false, suspendWait := none, pollTimer := none, pollOwed := false }
     let after (phase : TimeoutPhase) : State := { s with
       events := s.events.append (.arrayTimeout kind phase) s.link.opPage s.engine.slot none
       link := if s.link.inFlight = none then
           { stopped with owner := some .controller, inFlight := some .reset, resetWait := some 0, resetOwed := false }
         else { stopped with resetOwed := true } }
     s.operationLimit = limit ∧
     (s.link.opExceeded = true → s.link.state = .opBusy → exec .operationTimerExpiry s = .next (after .running)) ∧
     (s.link.opExceeded = true → s.link.state = .suspending → exec .operationTimerExpiry s = .next (after .suspending)) ∧
     (s.link.opExceeded = false → exec .operationTimerExpiry s = .next s) ∧
     (∀ n, s.link.suspendWait = some n →
       (100 ≤ n → exec .suspendWaitTimerExpiry s = .next (after .suspending)) ∧
       (n < 100 → exec .suspendWaitTimerExpiry s = .next s))) ∧
  (∀ (s : State) (failFlag : Bool),
     let resetting : Link := { s.link with
       state := .resetting, owner := none, inFlight := none, pollTimer := some 10, pollOwed := false }
     (s.link.inFlight = some .reset → s.link.opKind.isSome →
       exec .resetAccepted s = .next { s with
         link := resetting, events := s.events.append .deviceReset s.link.opPage s.engine.slot none }) ∧
     (s.link.inFlight = some .reset → s.link.opKind = none → exec .resetAccepted s = .next { s with link := resetting }) ∧
     (s.link.inFlight = some .status → s.link.resetOwed = false → s.link.state = .resetting → s.link.opKind = none →
       s.sequencer.phase = .deviceReset →
       exec (.statusReply .ready failFlag) s = .next { s with
         sequencer := { s.sequencer with phase := .readA }
         link := s.link.afterOperation }))

/-- RESET_WAIT_TIMER_EXPIRY at 1000 µs (R48, R49, R71, R72, R116, R126, R133, R169): the link is DOWN with no operation, no timer and nothing in flight, its fetch streak as it was, and the mode HALTED. A WAITING read is
READY with FAULT DEVICE; a WAITING fence is READY with FAULT DURABILITY, and FENCE_FAULT is appended, where it waits on the commit cut short and the report of that commit is taken before the
notice of HALTED; it is READY with FAULT DEVICE otherwise. Their discard timers start. A SYNC ends FAILED with the count held and the pairs it still waited on, its record IDLE with
a failed count of 0 (R132, R133; log entry 44), and the timers of OPEN entries stop. During a commit its entry is FAILED, whatever its origin, with the whole page valid and one attempt more,
and the engine is IDLE; with room in the queue COMMIT_FAILED names the cause DEVICE (R48), and HALTED the cause LINK_DOWN. A WRITE_CONFIG whose commit is in hand ends FAILED with
CONFIG_WRITE_FAILED DEVICE, the loaded copy as it was (R48, R183); so does one whose entry still waits in the queue (R44, R169), where the cause DEVICE is the model's reading (log entry 23).
This holds in every order that the spec leaves open. -/
def Obligations.LossOfTheDeviceHalts : Prop :=
  (∀ s : State, (∀ n, s.link.resetWait = some n → n < 1000) → exec .resetWaitTimerExpiry s = .next s) ∧
  ∀ (s : State) (wait : Nat), s.link.resetWait = some wait → 1000 ≤ wait →
    ∃ t, exec .resetWaitTimerExpiry s = .next t ∧ t.control.mode = .halted ∧ t.control.drainCause = none ∧
      t.control.reinitPending = false ∧ t.psafe = false ∧
      t.link = { state := .down, owner := none, opKind := none, opPage := none, suspensionCount := none, opTimer := none, opExceeded := false
                 suspendWait := none, resetWait := none, fetchesThisSuspension := none, fetchStreak := s.link.fetchStreak
                 inFlight := none, pollTimer := none, pollOwed := false, resetOwed := false } ∧
      t.commitQueue = s.commitQueue ∧ (∀ n, s.syncRecord = .idle n → t.syncRecord = .idle n) ∧
      (∀ ws n, s.syncRecord = .waiting ws n → t.syncRecord = .idle 0) ∧ (∀ d : DttIndex, t.dtt[d].state ≠ .waiting) ∧
      (∀ d : DttIndex, s.dtt[d].state = .waiting → s.dtt[d].kind = some .read →
        t.dtt[d].state = .ready ∧ t.dtt[d].result = some (.fault .device) ∧ t.dtt[d].discard = some s.params.discardTime) ∧
      (let cutShort (i : Slot) (ws : List WaitPair) : Prop := s.link.opKind.isSome ∧ s.engine.slot = some i ∧
         s.entries[i].origin ≠ some .config ∧ ⟨i, s.entries[i].generation⟩ ∈ ws
       let ended (d : DttIndex) (kind : FaultKind) : DttEntry := { s.dtt[d] with
         state := .ready, waitSet := none, discard := some s.params.discardTime, result := some (.fault kind) }
       ∃ reportFirst : Bool, ∀ (d : DttIndex) (ws : List WaitPair),
         s.dtt[d].state = .waiting → s.dtt[d].kind = some .fence → s.dtt[d].waitSet = some ws → s.dtt[d].data = none →
         (∀ i, reportFirst = true → cutShort i ws → t.dtt[d] = ended d .durability ∧
           (s.events.records.length ≤ 20 →
             ∃ q, ⟨q, .fenceFault .durability .wait, s.entries[i].page, some i, s.dtt[d].requester⟩ ∈ t.events.records)) ∧
         (reportFirst = false ∨ (∀ i, ¬ cutShort i ws) → t.dtt[d] = ended d .device)) ∧
      (∀ d : DttIndex, s.dtt[d].state ≠ .waiting → t.dtt[d] = s.dtt[d]) ∧
      (∀ i : Slot, s.link.opKind = none ∨ s.engine.slot ≠ some i → t.entries[i] =
        if s.entries[i].state = .opened then { s.entries[i] with idleTimer := none, ageTimer := none } else s.entries[i]) ∧
      (∀ (ws : List WaitPair) (n : Nat), s.syncRecord = .waiting ws n → ws.Nodup → s.command.last = some .sync →
        t.command = { s.command with busy := false, result := .failed, detail := n + ws.length }) ∧
      (∀ i : Slot, s.link.opKind.isSome → s.engine.slot = some i → s.entries[i].state = .committing → t.engine = Engine.initial ∧
        t.entries[i] = { s.entries[i] with state := .failed, valid := wholePage, attempts := s.entries[i].attempts + 1 } ∧
        (s.events.records.length ≤ 20 →
          ∃ q, ⟨q, .commitFailed .device (s.entries[i].attempts + 1), s.entries[i].page, some i, none⟩ ∈ t.events.records)) ∧
      (s.events.records.length ≤ 20 → ∃ q, ⟨q, .halted .linkDown, none, none, none⟩ ∈ t.events.records) ∧
      (∀ (i : Slot) (copy : Copy) (found : Nat), s.link.opKind.isSome → s.engine.slot = some i → s.entries[i].state = .committing →
        s.entries[i].origin = some .config → (∀ k : Slot, s.entries[k].state = .sealed → s.entries[k].origin ≠ some .config) →
        s.sequencer.writeTarget = some copy → s.command.busy = true → s.command.last = some .writeConfig → s.syncRecord = .idle found →
        t.command = { s.command with busy := false, result := .failed, detail := 0 } ∧ t.sequencer.writeTarget = none ∧
        t.sequencer.loadedCopy = s.sequencer.loadedCopy ∧ t.sequencer.loadedSequence = s.sequencer.loadedSequence ∧
        (s.events.records.length ≤ 20 →
          ∃ q, ⟨q, .configWriteFailed copy .device, s.entries[i].page, some i, none⟩ ∈ t.events.records)) ∧
      (∀ (i j : Slot) (copy : Copy) (found : Nat), s.link.opKind.isSome → s.engine.slot = some i → s.entries[i].state = .committing →
        s.entries[i].origin ≠ some .config → s.entries[j].state = .sealed → s.entries[j].origin = some .config →
        (∀ k : Slot, s.entries[k].state = .sealed → s.entries[k].origin = some .config → k = j) →
        s.sequencer.writeTarget = some copy → s.command.busy = true → s.command.last = some .writeConfig → s.syncRecord = .idle found →
        t.command = { s.command with busy := false, result := .failed, detail := 0 } ∧ t.sequencer.writeTarget = none ∧
        t.sequencer.loadedCopy = s.sequencer.loadedCopy ∧ t.sequencer.loadedSequence = s.sequencer.loadedSequence ∧
        (s.events.records.length ≤ 20 →
          ∃ q, ⟨q, .configWriteFailed copy .device, s.entries[j].page, some j, none⟩ ∈ t.events.records))

/-! ### The discard timer and the refresh scheduler -/

/-- DISCARD_TIMER_EXPIRY (R98, R105, R112, R113): a READY entry whose discard timer has run out becomes FREE with READ_DISCARDED, which names its kind, its result, its
requester and, for a READ, its page. A timer that runs on, or has stopped, does not expire. -/
def Obligations.DiscardTimerFreesTheEntry : Prop :=
  (∀ (s : State) (d : DttIndex) (kind : DttKind) (result : DttResult) (addr : Nat),
    s.dtt[d].state = .ready → s.dtt[d].discard = some 0 → s.dtt[d].kind = some kind → s.dtt[d].result = some result →
    (kind = .read → s.dtt[d].address = some addr) →
    ∃ t, exec (.discardTimerExpiry d) s = .next t ∧ t = { s with dtt := t.dtt, events := t.events } ∧ t.dtt[d] = DttEntry.initial ∧
      t.events = s.events.append (.readDiscarded kind result)
        (match kind with | .read => some (addr / 512) | .fence => none) none s.dtt[d].requester ∧
      ∀ j : DttIndex, j ≠ d → t.dtt[j] = { s.dtt[j] with
        arrival := match s.dtt[d].arrival, s.dtt[j].arrival with
          | some n, some m => if n < m then some (m - 1) else some m
          | _, a => a }) ∧
  ∀ (s : State) (d : DttIndex), s.dtt[d].discard ≠ some 0 → exec (.discardTimerExpiry d) s = .next s

/-- REFRESH_STEP (R150, R151, R152): in RUNNING, with REFRESH_INTERVAL not 0 and at least four FREE entries, the first pending sector from the scan
pointer round is served: its page joins the queue as a SEALED REFRESH entry in the lowest FREE slot, unless the page is staged already. The cursor
advances, pending clears, and the scan pointer moves past the sector. -/
def Obligations.RefreshServesTheNextPendingSector : Prop :=
  ∀ (s : State) (sector : Nat) (r : RefreshRecord) (i : Slot),
    s.control.mode = .running → s.params.refreshInterval ≠ 0 → 4 ≤ s.freeCount →
    s.refresh.scan < s.refresh.records.length →
    s.refresh.records[sector]? = some r → r.pending = true →
    (∀ (n : Nat) (x : RefreshRecord), s.refresh.records[n]? = some x → x.pending = true →
      (n + s.refresh.records.length - s.refresh.scan) % s.refresh.records.length ≥
        (sector + s.refresh.records.length - s.refresh.scan) % s.refresh.records.length) →
    s.entries[i].state = .free → (∀ j : Slot, j < i → s.entries[j].state ≠ .free) →
    let page := sector * 64 + r.cursor.val
    let table : Refresh := {
      records := s.refresh.records.set sector { r with cursor := r.cursor + 1, pending := false }
      scan := if sector + 1 = s.refresh.records.length then 0 else sector + 1 }
    ((∃ j : Slot, s.entries[j].state ≠ .free ∧ s.entries[j].page = some page) →
      exec .refreshStep s = .next { s with refresh := table }) ∧
    ((∀ j : Slot, s.entries[j].page = some page → s.entries[j].state = .free) →
      exec .refreshStep s = .next { s.setEntry i
          { state := .sealed, generation := s.entries[i].generation + 1#8, page := some page, origin := some .refresh
            buffer := s.entries[i].buffer, written := 0#512, valid := 0#512, writers := 0#8, idleTimer := none, ageTimer := none
            allocTime := some s.now, lastWrite := none, attempts := 0 } with
        commitQueue := s.commitQueue ++ [i], refresh := table })

/-! ### The mode controller -/

/-- Drain start (R17, R66, R132, R155, R156, R160, R161, R164): a PFAIL assertion in RUNNING, the drain start owed at the entry to RUNNING, and a REINIT claim in
RUNNING enter DRAIN with their cause. Every OPEN entry is sealed behind the queue in order of allocation time; every queued REFRESH entry without host bytes is
dropped and is FREE (no REFRESH entry is OPEN in a run), its sector owed the step again with the cursor moved back, and a SYNC that waits on it loses its pair; every other entry stays.
DRAIN_BEGIN is appended, then REFRESH_DROPPED with the number dropped. A link in SUSPENDED is told to RESUME at once. That the sector is owed the step again with
REFRESH_INTERVAL 0 too, where R148 has the records keep their values, is the model's choice (log entry 45). -/
def Obligations.DrainStartSealsAndDrops : Prop :=
  ∀ (s : State) (c : Instr) (cause : DrainCause),
    s.control.mode = .running →
    (c = .pfailAssertion ∧ s.resetAsserted = false ∧ s.control.pfail = false ∧ cause = .pfail) ∨
      (c = .deferredDrainStart ∧ s.control.pfail = true ∧ cause = .pfail) ∨
      (c = .reinitClaim ∧ s.control.reinitClaimed = true ∧ cause = .reinit) →
    let dropped (i : Slot) : Prop :=
      (s.entries[i].state = .opened ∨ s.entries[i].state = .sealed) ∧ s.entries[i].origin = some .refresh ∧ s.entries[i].written = 0#512
    let number : Nat := ((List.finRange 16).filter fun i => dropped i).length
    let begun : EventQueue := s.events.append (.drainBegin cause) none none none
    ∃ (t : State) (sealing : List Slot), exec c s = .next t ∧ t.control.mode = .drain ∧ t.control.drainCause = some cause ∧
      (c ≠ .reinitClaim → t.control.pfail = true ∧ t.control.reinitPending = s.control.reinitPending) ∧
      (c = .reinitClaim → t.control.pfail = s.control.pfail ∧ t.control.reinitPending = true ∧ t.control.reinitClaimed = false) ∧
      sealing.Nodup ∧ (∀ i : Slot, i ∈ sealing ↔ s.entries[i].state = .opened) ∧
      sealing.Pairwise (fun i j => s.entries[i].allocTime.getD 0 < s.entries[j].allocTime.getD 0 ∨
        (s.entries[i].allocTime.getD 0 = s.entries[j].allocTime.getD 0 ∧ i < j)) ∧
      t.commitQueue = (s.commitQueue ++ sealing).filter (fun i => ¬ dropped i) ∧
      (∀ i : Slot, dropped i → t.entries[i].state = .free ∧ t.entries[i].generation = s.entries[i].generation) ∧
      (∀ i : Slot, ¬ dropped i → t.entries[i] =
        if s.entries[i].state = .opened then { s.entries[i] with state := .sealed, idleTimer := none, ageTimer := none }
        else s.entries[i]) ∧
      t.events = (if number = 0 then begun else begun.append (.refreshDropped number) none none none) ∧
      t.refresh.scan = s.refresh.scan ∧ t.refresh.records.length = s.refresh.records.length ∧
      ((∀ i : Slot, dropped i → s.entries[i].page.isSome) → ∀ (sector : Nat) (r : RefreshRecord), s.refresh.records[sector]? = some r →
        let back : Nat := ((List.finRange 16).filter fun i => dropped i ∧ s.entries[i].page.map (· / 64) = some sector).length
        ∃ r', t.refresh.records[sector]? = some r' ∧ r'.count = r.count ∧ r'.pending = (r.pending || decide (back ≠ 0)) ∧
          (r'.cursor.val + back) % 64 = r.cursor.val) ∧
      (∀ (ws : List WaitPair) (n : Nat), s.syncRecord = .waiting ws n → ws ≠ [] →
        let left : List WaitPair := ws.filter fun p => ¬ (dropped p.slot ∧ p.generation = s.entries[p.slot].generation)
        (left ≠ [] → t.syncRecord = .waiting left n ∧ t.command = s.command) ∧
        (left = [] → t.syncRecord = .idle 0 ∧
          t.command = { s.command with busy := false, result := if n = 0 then .done else .failed, detail := n })) ∧
      t.link = if s.link.state = .suspended ∧ s.link.inFlight = none then
          { s.link with owner := some .controller, inFlight := some .resume }
        else s.link

/-- PFAIL and REINIT where no drain starts (R160, R164, R165, R167, R168, R172). An assertion of PFAIL in DRAIN records the level and the cause PFAIL; in START, DRAINED and HALTED
the level alone; so does a deassertion outside DRAINED. In DRAINED a deassertion appends DRAIN_RECOVERED and leaves for RUNNING, or for the start-up of the
REINIT that is pending. A REINIT claim sets reinit-pending in DRAIN and DRAINED, and in HALTED the REINIT ends FAILED. -/
def Obligations.PfailAndReinitOutsideADrainStart : Prop :=
  (∀ s : State, s.resetAsserted = false →
     (s.control.pfail = false → s.control.mode = .drain →
       exec .pfailAssertion s = .next { s with control := { s.control with pfail := true, drainCause := some .pfail } }) ∧
     (s.control.pfail = false → s.control.mode = .start ∨ s.control.mode = .drained ∨ s.control.mode = .halted →
       exec .pfailAssertion s = .next { s with control := { s.control with pfail := true } }) ∧
     (s.control.pfail = true → s.control.mode ≠ .drained →
       exec .pfailDeassertion s = .next { s with control := { s.control with pfail := false } })) ∧
  (∀ s : State, s.resetAsserted = false → s.control.pfail = true → s.control.mode = .drained →
     (s.control.reinitPending = false →
       exec .pfailDeassertion s = .next { s with
         control := { s.control with mode := .running, drainCause := none, pfail := false }
         events := s.events.append (.drainRecovered false) none none none }) ∧
     (s.control.reinitPending = true →
       exec .pfailDeassertion s = .next { s with
         control := { s.control with mode := .start, drainCause := none, reinitPending := false, pfail := false }
         events := s.events.append (.drainRecovered true) none none none
         sequencer := { s.sequencer with
           phase := .readA, startKind := some .reinit, verdictA := none, verdictB := none, applied := false } })) ∧
  (∀ s : State, s.control.reinitClaimed = true →
     (s.control.mode = .drain ∨ s.control.mode = .drained →
       exec .reinitClaim s = .next { s with control := { s.control with reinitClaimed := false, reinitPending := true } }) ∧
     (s.control.mode = .halted → s.command.busy = true → s.command.last = some .reinit →
       exec .reinitClaim s = .next { s with
         control := { s.control with reinitClaimed := false }
         command := { s.command with busy := false, result := .failed, detail := 0 } }))

/-- DRAIN_COMPLETION (R163, R166, R172): with no entry SEALED or COMMITTING, DRAIN_END with the FAILED count and the cause; then DRAINED where PFAIL is
asserted, the start-up of a pending REINIT where it is not, and RUNNING otherwise. -/
def Obligations.DrainCompletionChoosesTheMode : Prop :=
  ∀ (s : State) (cause : DrainCause), s.control.mode = .drain → s.control.drainCause = some cause →
    (∀ i : Slot, s.entries[i].state ≠ .sealed ∧ s.entries[i].state ≠ .committing) →
    let ended := s.events.append (.drainEnd s.failedCount cause) none none none
    (s.control.pfail = true →
      exec .drainCompletion s = .next { s with events := ended, control := { s.control with mode := .drained } }) ∧
    (s.control.pfail = false → s.control.reinitPending = true →
      exec .drainCompletion s = .next { s with
        events := ended
        control := { s.control with mode := .start, drainCause := none, reinitPending := false }
        sequencer := { s.sequencer with
          phase := .readA, startKind := some .reinit, verdictA := none, verdictB := none, applied := false } }) ∧
    (s.control.pfail = false → s.control.reinitPending = false →
      exec .drainCompletion s = .next { s with events := ended, control := { s.control with mode := .running, drainCause := none } })

/-! ### Start-up -/

/-- The first phases of a start-up (R53, R173, R174, R175). The size codes 0 to 4 select 2048 to 32768 pages; the codes 5, 6 and 7 enter HALTED with the code in the HALTED record.
With the link IDLE the sequencer then issues RESET, with the reset wait timer started, and the READ of 82 bytes of each copy, the first two pages of the device's last sector. -/
def Obligations.StartUpBegins : Prop :=
  (∀ (s : State) (asize : BitVec 3), s.control.mode = .start → s.sequencer.phase = .size →
     (asize.toNat ≤ 4 → exec (.size asize) s = .next { s with
       sequencer := { s.sequencer with deviceSize := some (2048 * 2 ^ asize.toNat), phase := .deviceReset } }) ∧
     (5 ≤ asize.toNat → ∃ t, exec (.size asize) s = .next t ∧ t.control.mode = .halted ∧ t.sequencer.phase = .idle ∧
       t.events = s.events.append (.halted (.asizeInvalid asize)) none none none)) ∧
  (∀ (s : State) (pages : Nat), s.control.mode = .start → s.link.state = .idle → s.link.inFlight = none →
     s.sequencer.deviceSize = some pages →
     (s.sequencer.phase = .deviceReset → exec .deviceReset s = .next { s with link := { s.link with
       owner := some .startup, inFlight := some .reset, resetWait := some 0, resetOwed := false } }) ∧
     (s.sequencer.phase = .readA → exec .readA s = .next { s with link := { s.link with
       state := .reading, owner := some .startup, inFlight := some (.read ((pages - 64) * 512) 82) } }) ∧
     (s.sequencer.phase = .readB → exec .readB s = .next { s with link := { s.link with
       state := .reading, owner := some .startup, inFlight := some (.read ((pages - 64 + 1) * 512) 82) } }))

/-- READ_COMPLETION of a configuration copy (R175, R177): its verdict is kept and the next phase begins; a BAD copy appends CONFIG_COPY_BAD with the
copy, the reason and the copy's page. -/
def Obligations.CopyReadGivesItsVerdict : Prop :=
  ∀ (s : State) (bytes : List Byte) (addr pages : Nat),
    s.link.inFlight = some (.read addr 82) → s.link.owner = some .startup → bytes.length = 82 →
    s.sequencer.deviceSize = some pages →
    let verdict := validate pages bytes
    let noted (copy : Copy) (page : Nat) : EventQueue :=
      match verdict with
      | .valid _ => s.events
      | .bad reason => s.events.append (.configCopyBad copy reason) (some page) none none
    (s.sequencer.phase = .readA → exec (.readCompletion bytes) s = .next { s with
      link := s.link.afterRead, events := noted .a (pages - 64)
      sequencer := { s.sequencer with verdictA := some verdict, phase := .readB } }) ∧
    (s.sequencer.phase = .readB → exec (.readCompletion bytes) s = .next { s with
      link := s.link.afterRead, events := noted .b (pages - 64 + 1)
      sequencer := { s.sequencer with verdictB := some verdict, phase := .apply } })

/-- A copy is judged by the seven checks of R177 in their order, with the accepted values of R176: the first that fails gives the reason, and a copy that passes
all seven is VALID with the record that its bytes hold. -/
def Obligations.ValidCopyPassesEveryCheck : Prop :=
  ∀ (pages : Nat) (bytes : List Byte),
    let r := recordOf bytes
    let magicGood : Prop := at8 bytes 0 = 0x5A#8 ∧ at8 bytes 1 = 0x4B#8 ∧ at8 bytes 2 = 0x37#8 ∧ at8 bytes 3 = 0x31#8
    let versionGood : Prop := at8 bytes 4 = 1#8
    let crcGood : Prop := crc32 (bytes.take 78) = at32 bytes 78
    let rangeGood : Prop :=
      r.fields.elide.toNat ≤ 1 ∧ r.fields.verify.toNat ≤ 1 ∧ 1 ≤ r.fields.idleSeal.toNat ∧ r.fields.idleSeal.toNat ≤ 1000 ∧
      10 ≤ r.fields.maxOpen.toNat ∧ r.fields.maxOpen.toNat ≤ 10000 ∧ 100 ≤ r.fields.discardTime.toNat ∧
      1 ≤ r.fields.eraseTimeout.toNat ∧ 1 ≤ r.fields.programTimeout.toNat ∧
      1 ≤ r.fields.commitTries.toNat ∧ r.fields.commitTries.toNat ≤ 4 ∧ r.fields.suspendMax.toNat ≤ 15 ∧
      1 ≤ r.fields.readStreak.toNat ∧ r.fields.readStreak.toNat ≤ 16 ∧
      (r.fields.refreshInterval.toNat = 0 ∨ 16 ≤ r.fields.refreshInterval.toNat ∧ r.fields.refreshInterval.toNat ≤ 4096)
    let orderGood : Prop := r.fields.idleSeal.toNat ≤ r.fields.maxOpen.toNat
    let windowGood : Prop :=
      r.fields.windowPages.toNat % 64 = 0 ∧ 64 ≤ r.fields.windowPages.toNat ∧ r.fields.windowPages.toNat + 64 ≤ pages
    let regionsGood : Prop := ∀ n : RegionIndex, r.regions[n].first.toNat ≤ r.regions[n].last.toNat ∧
      r.regions[n].last.toNat < r.fields.windowPages.toNat ∧ r.regions[n].mode.toNat ≤ 2
    (¬ magicGood → validate pages bytes = .bad .magic) ∧
    (magicGood → ¬ versionGood → validate pages bytes = .bad .version) ∧
    (magicGood → versionGood → ¬ crcGood → validate pages bytes = .bad .crc) ∧
    (magicGood → versionGood → crcGood → ¬ rangeGood → validate pages bytes = .bad .range) ∧
    (magicGood → versionGood → crcGood → rangeGood → ¬ orderGood → validate pages bytes = .bad .order) ∧
    (magicGood → versionGood → crcGood → rangeGood → orderGood → ¬ windowGood → validate pages bytes = .bad .window) ∧
    (magicGood → versionGood → crcGood → rangeGood → orderGood → windowGood → ¬ regionsGood → validate pages bytes = .bad .region) ∧
    (magicGood → versionGood → crcGood → rangeGood → orderGood → windowGood → regionsGood → validate pages bytes = .valid r)

/-- APPLY (R145, R157, R158, R176, R178, R179): the VALID copy with the higher sequence number is applied, copy A where they are equal; with no VALID copy the
defaults are, and CONFIG_DEFAULTS is appended. The parameters, the shadow and the loaded copy are the record's. A frozen region is kept; every other is replaced by the
record's, or held where that would tighten a page with FAILED host bytes, with REGION_CHANGED HELD; and what reaches beyond the window is clipped, with REGION_CHANGED CLIP. The order of
the CLIP records is open (log entry 39), and the tightening test is made at the pages of the entries (log entry 27). The refresh table is created, or adjusted after a REINIT.
That the mask in force keeps the record's bits 0 and 22 to 31 is the model's choice (log entry 40). -/
def Obligations.ApplicationOfTheConfiguration : Prop :=
  ∀ (s : State) (pages : Nat), s.control.mode = .start → s.sequencer.phase = .apply → s.sequencer.applied = false →
    s.sequencer.deviceSize = some pages →
    let applies (source : Source) (r : ConfigRecord) (events : EventQueue) : Prop :=
      ∃ t, exec .apply s = .next t ∧ t.control = s.control ∧ t.entries = s.entries ∧ t.params = r.fields.params ∧
        t.shadow = { fields := r.fields, crc := r.crc } ∧
        t.sequencer = { s.sequencer with
          loadedCopy := some source, loadedSequence := some r.fields.sequence, applied := true } ∧
        s.RegionsApplied (r.regions.map RawRegion.region) r.fields.windowPages.toNat events t ∧
        s.TableApplied r.fields.windowPages.toNat r.fields.refreshInterval.toNat t
    (∀ ra rb, s.sequencer.verdictA = some (.valid ra) → s.sequencer.verdictB = some (.valid rb) →
      (rb.fields.sequence.toNat ≤ ra.fields.sequence.toNat → applies .a ra s.events) ∧
      (ra.fields.sequence.toNat < rb.fields.sequence.toNat → applies .b rb s.events)) ∧
    (∀ ra b, s.sequencer.verdictA = some (.valid ra) → s.sequencer.verdictB = some (.bad b) → applies .a ra s.events) ∧
    (∀ a rb, s.sequencer.verdictA = some (.bad a) → s.sequencer.verdictB = some (.valid rb) → applies .b rb s.events) ∧
    (∀ a b, s.sequencer.verdictA = some (.bad a) → s.sequencer.verdictB = some (.bad b) →
      applies .default (ConfigRecord.default pages) (s.events.append (.configDefaults a b) none none none))

/-- START_COMPLETE (R159, R179, R189): the mode is RUNNING, START_COMPLETE is appended with the source, the kind and the sequence, the sequencer is
IDLE with its verdicts gone, and a REINIT in progress ends DONE. -/
def Obligations.StartUpEndsInRunning : Prop :=
  ∀ (s : State) (source : Source) (kind : StartKind) (sequence : BitVec 32),
    s.control.mode = .start → s.sequencer.phase = .apply → s.sequencer.applied = true →
    s.sequencer.loadedCopy = some source → s.sequencer.startKind = some kind → s.sequencer.loadedSequence = some sequence →
    exec .startComplete s = .next { s with
      control := { s.control with mode := .running }
      events := s.events.append (.startComplete source kind sequence) none none none
      sequencer := { s.sequencer with phase := .idle, startKind := none, verdictA := none, verdictB := none, applied := false }
      command := if s.command.busy = true ∧ s.command.last = some .reinit then
          { s.command with busy := false, result := .done, detail := 0 }
        else s.command }

/-! ### The commands of the management port -/

/-- A write of CMD that its owner never sees (R185, R187, R188): in BUSY it sets OVERRUN and nothing else; a byte that names no command is refused
BAD_ARGUMENT with the last command none; a command in a mode that refuses it is refused MODE. The pointer moves on to 11h. -/
def Obligations.CmdTurnedAway : Prop :=
  ∀ s : State, s.resetAsserted = false → s.port.maddr.isSome →
    (∀ c m, (c, m) ∈ cmdWrites → s.command.busy = true →
      exec c s = .next { s with command := { s.command with overrun := true }, port := s.portAfterCmd }) ∧
    (∀ c m, (c, m) ∈ cmdWrites → s.command.busy = false → refusingMode m s.control.mode →
      exec c s = .next { s with
        command := { busy := false, last := some m, result := .refused .mode, detail := 0, overrun := false }, port := s.portAfterCmd }) ∧
    (∀ code : Byte, code = 0#8 ∨ 9 < code.toNat →
      (s.command.busy = true → exec (.unknownCommand code) s = .next { s with
        command := { s.command with overrun := true }, port := s.portAfterCmd }) ∧
      (s.command.busy = false → exec (.unknownCommand code) s = .next { s with
        command := { busy := false, last := none, result := .refused .badArgument, detail := 0, overrun := false }
        port := s.portAfterCmd }))

/-- SYNC (R17, R130, R131): every OPEN entry is sealed; with a FAILED entry SYNC ends FAILED with their number, with nothing to wait on it ends DONE, and
otherwise it waits, BUSY, on the pair of every SEALED and COMMITTING entry. The record of a SYNC that ends at once is
IDLE and holds the number of FAILED entries found, none of them where it ends DONE (log entry 44). -/
def Obligations.SyncSealsAndWaits : Prop :=
  ∀ s : State, s.AdmitsCommand → s.control.mode = .running →
    ∃ (t : State) (sealing : List Slot), exec .sync s = .next t ∧
      t = { s with entries := t.entries, commitQueue := s.commitQueue ++ sealing, syncRecord := t.syncRecord, command := t.command
                   port := s.portAfterCmd } ∧
      sealing.Nodup ∧ (∀ i : Slot, i ∈ sealing ↔ s.entries[i].state = .opened) ∧
      sealing.Pairwise (fun i j => s.entries[i].allocTime.getD 0 < s.entries[j].allocTime.getD 0 ∨
        (s.entries[i].allocTime.getD 0 = s.entries[j].allocTime.getD 0 ∧ i < j)) ∧
      (∀ i : Slot, t.entries[i] =
        if s.entries[i].state = .opened then { s.entries[i] with state := .sealed, idleTimer := none, ageTimer := none }
        else s.entries[i]) ∧
      (∀ n, s.failedCount = n + 1 → t.syncRecord = .idle (n + 1) ∧
        t.command = { busy := false, last := some .sync, result := .failed, detail := n + 1, overrun := false }) ∧
      ((∀ i : Slot, s.entries[i].state = .free) → t.syncRecord = .idle 0 ∧
        t.command = { busy := false, last := some .sync, result := .done, detail := 0, overrun := false }) ∧
      (s.failedCount = 0 → (∃ i : Slot, s.entries[i].state ≠ .free) →
        t.command = { busy := true, last := some .sync, result := .busy, detail := 0, overrun := false } ∧
        ∃ ws : List WaitPair, t.syncRecord = .waiting ws 0 ∧ ws.Nodup ∧
          ∀ p : WaitPair, p ∈ ws ↔ p.generation = s.entries[p.slot].generation ∧ s.entries[p.slot].state ≠ .free)

/-- RETRY_ENTRY and DISCARD_ENTRY (R5, R25, R26): a FAILED entry goes back to the tail of the queue with attempts 0, unless its page has an absorbing
entry, or becomes FREE with ENTRY_DISCARDED, its generation kept. Refused: BAD_ARGUMENT for a slot above 15, WRONG_STATE otherwise. That a FREE entry has no times and no attempts is
read from R28, and that it keeps its buffer bytes is the model's choice (log entry 11). -/
def Obligations.RetryAndDiscardOfAFailedEntry : Prop :=
  ∀ s : State, s.AdmitsCommand →
    let ended (m : MgmtCommand) (r : CmdResult) : CommandUnit := { busy := false, last := some m, result := r, detail := 0, overrun := false }
    (16 ≤ (s.port.args[0]).toNat →
      (s.control.mode = .running → exec .retryEntry s = .next { s with
        command := ended .retryEntry (.refused .badArgument), port := s.portAfterCmd }) ∧
      (s.control.mode = .running ∨ s.control.mode = .drained ∨ s.control.mode = .halted → exec .discardEntry s = .next { s with
        command := ended .discardEntry (.refused .badArgument), port := s.portAfterCmd })) ∧
    ∀ i : Slot, (s.port.args[0]).toNat = i.val →
      (s.control.mode = .running → s.entries[i].state = .failed →
        (∀ j : Slot, s.entries[j].page = s.entries[i].page → s.entries[j].state ≠ .opened ∧ s.entries[j].state ≠ .sealed) →
        exec .retryEntry s = .next { s.setEntry i { s.entries[i] with state := .sealed, attempts := 0 } with
          commitQueue := s.commitQueue ++ [i], command := ended .retryEntry .done, port := s.portAfterCmd }) ∧
      (s.control.mode = .running →
        s.entries[i].state ≠ .failed ∨ (∃ (j : Slot) (page : Nat), s.entries[i].page = some page ∧ s.entries[j].page = some page ∧
          (s.entries[j].state = .opened ∨ s.entries[j].state = .sealed)) →
        exec .retryEntry s = .next { s with
          command := ended .retryEntry (.refused .wrongState), port := s.portAfterCmd }) ∧
      (s.control.mode = .running ∨ s.control.mode = .drained ∨ s.control.mode = .halted →
        (s.entries[i].state = .failed →
          exec .discardEntry s = .next { s.setEntry i { Entry.initial with
              generation := s.entries[i].generation, buffer := s.entries[i].buffer } with
            events := s.events.append (.entryDiscarded s.entries[i].generation) s.entries[i].page (some i) none
            command := ended .discardEntry .done, port := s.portAfterCmd }) ∧
        (s.entries[i].state ≠ .failed →
          exec .discardEntry s = .next { s with
            command := ended .discardEntry (.refused .wrongState), port := s.portAfterCmd }))

/-- SET_REGION and FREEZE_REGION (R139, R140, R141, R143): the rows of R139 in their order. An accepted SET_REGION replaces the descriptor, its
frozen flag kept, with REGION_CHANGED; FREEZE_REGION sets the frozen flag, with REGION_FROZEN. -/
def Obligations.RegionCommands : Prop :=
  ∀ (s : State) (new : Region), s.AdmitsCommand → s.control.mode = .running →
    let ended (m : MgmtCommand) (r : CmdResult) : CommandUnit := { busy := false, last := some m, result := r, detail := 0, overrun := false }
    let refusedSet (r : RefusalReason) : Prop := exec .setRegion s = .next { s with
      command := ended .setRegion (.refused r), port := s.portAfterCmd }
    let bounds := new.first ≤ new.last ∧ new.last < s.params.windowPages
    (8 ≤ (s.port.args[0]).toNat ∨ (s.port.args[3]).toNat % 4 = 3 → refusedSet .badArgument) ∧
    (8 ≤ (s.port.args[0]).toNat → exec .freezeRegion s = .next { s with
      command := ended .freezeRegion (.refused .badArgument), port := s.portAfterCmd }) ∧
    ∀ n : RegionIndex, (s.port.args[0]).toNat = n.val →
      (new = { enabled := (s.port.args[3]).getLsbD 8, first := (s.port.args[1]).toNat, last := (s.port.args[2]).toNat
               mode := new.mode, frozen := s.regions[n].frozen } → (s.port.args[3]).toNat % 4 = new.mode.code →
        let blocked : Prop := ∃ (i : Slot) (page : Nat), s.entries[i].state ≠ .free ∧ s.entries[i].written ≠ 0#512 ∧
          s.entries[i].page = some page ∧ s.effectiveMode page = .readWrite ∧
          effectiveModeOf (s.regions.set n.val new n.isLt) page ≠ .readWrite
        (¬ bounds → refusedSet .badArgument) ∧
        (bounds → s.regions[n].frozen = true → refusedSet .frozen) ∧
        (bounds → s.regions[n].frozen = false → blocked → refusedSet .stagedInRange) ∧
        (bounds → s.regions[n].frozen = false → ¬ blocked →
          exec .setRegion s = .next { s.setRegion n new with
            events := s.events.append (.regionChanged .set n new.enabled new.mode) (some new.first) none none
            command := ended .setRegion .done, port := s.portAfterCmd })) ∧
      (s.regions[n].frozen = true → exec .freezeRegion s = .next { s with
        command := ended .freezeRegion (.refused .frozen), port := s.portAfterCmd }) ∧
      (s.regions[n].frozen = false → exec .freezeRegion s = .next { s.setRegion n { s.regions[n] with frozen := true } with
        events := s.events.append (.regionFrozen n) (some s.regions[n].first) none none
        command := ended .freezeRegion .done, port := s.portAfterCmd })

/-- WRITE_CONFIG (R4, R177, R182, R198): with the shadow's values acceptable, the loaded sequence below FFFFFFFFh and a FREE entry, a SEALED CONFIG entry
for the copy that is not the loaded one holds the record: the shadow with the next sequence number, the live descriptors clipped to the shadow's window, and the CRC-32; FFh after byte 81. Otherwise it is
refused BAD_ARGUMENT, WRONG_STATE or NO_SLOT. -/
def Obligations.WriteConfigStagesTheRecord : Prop :=
  ∀ (s : State) (pages : Nat) (sequence : BitVec 32), s.AdmitsCommand → s.control.mode = .running →
    s.sequencer.deviceSize = some pages → s.sequencer.loadedSequence = some sequence →
    let good := s.shadow.fields.rangeOk = true ∧ s.shadow.fields.orderOk = true ∧ s.shadow.fields.windowOk pages = true
    let refused (r : RefusalReason) : Prop := exec .writeConfig s = .next { s with
      command := { busy := false, last := some .writeConfig, result := .refused r, detail := 0, overrun := false }, port := s.portAfterCmd }
    (¬ good → refused .badArgument) ∧
    (good → sequence = 0xFFFFFFFF#32 → refused .wrongState) ∧
    (good → sequence ≠ 0xFFFFFFFF#32 → (∀ i : Slot, s.entries[i].state ≠ .free) → refused .noSlot) ∧
    (∀ i : Slot, good → sequence ≠ 0xFFFFFFFF#32 → s.entries[i].state = .free → (∀ j : Slot, j < i → s.entries[j].state ≠ .free) →
      ∃ t, exec .writeConfig s = .next t ∧
        t = { s with entries := t.entries, commitQueue := s.commitQueue ++ [i], shadow := t.shadow, port := s.portAfterCmd
                     sequencer := { s.sequencer with writeTarget := some (if s.sequencer.loadedCopy = some .a then .b else .a) }
                     command := { busy := true, last := some .writeConfig, result := .busy, detail := 0, overrun := false } } ∧
        (∀ j : Slot, j ≠ i → t.entries[j] = s.entries[j]) ∧ t.entries[i].state = .sealed ∧ t.entries[i].origin = some .config ∧
        t.entries[i].generation = s.entries[i].generation + 1#8 ∧
        t.entries[i].page = some (if s.sequencer.loadedCopy = some .a then pages - 64 + 1 else pages - 64) ∧
        t.entries[i].written = wholePage ∧ t.entries[i].valid = wholePage ∧ t.entries[i].writers = 0#8 ∧
        t.shadow.fields = { s.shadow.fields with sequence := sequence + 1#32 } ∧
        (∀ o : Fin 512, 82 ≤ o.val → t.entries[i].buffer[o] = 0xFF#8) ∧
        (∀ o : Fin 512, o.val < 30 → t.entries[i].buffer[o] =
          at8 ({ s.shadow.fields with magic := magicValue, version := 1#8, sequence := sequence + 1#32 } : RecordFields).bytes o.val) ∧
        (∀ n : RegionIndex, rawRegionAt (t.entries[i].buffer.toList) (30 + 6 * n.val) =
          ((s.regions[n]).clip s.shadow.fields.windowPages.toNat).raw) ∧
        at32 (t.entries[i].buffer.toList) 78 = crc32 (t.entries[i].buffer.toList.take 78) ∧
        t.shadow.crc = crc32 (t.entries[i].buffer.toList.take 78))

/-- REINIT, CLEAR_COUNTERS and INSPECT_ENTRY (R186, R187, R188, R193, R194): REINIT is handed on and stays BUSY; the four counters become 0 and their holding
bytes stay; the window takes a snapshot of the entry and the line that the arguments name, or the command is refused BAD_ARGUMENT. That the snapshot of a FREE entry too shows
slot and line as given is the model's choice (log entry 42). -/
def Obligations.ReinitClearAndInspect : Prop :=
  ∀ s : State, s.AdmitsCommand →
    (s.control.mode = .running → exec .reinit s = .next { s with
      control := { s.control with reinitClaimed := true }
      command := { busy := true, last := some .reinit, result := .busy, detail := 0, overrun := false }, port := s.portAfterCmd }) ∧
    (s.control.mode ≠ .start → exec .clearCounters s = .next { s with
      counters := { s.counters with stagingRetries := 0#16, elidedCommits := 0#16, suspensions := 0#16, unrecordedRetries := 0#16 }
      command := { busy := false, last := some .clearCounters, result := .done, detail := 0, overrun := false }
      port := s.portAfterCmd }) ∧
    (s.control.mode ≠ .start → 16 ≤ (s.port.args[0]).toNat ∨ 8 ≤ (s.port.args[1]).toNat →
      exec .inspectEntry s = .next { s with
        command := { busy := false, last := some .inspectEntry, result := .refused .badArgument, detail := 0, overrun := false }
        port := s.portAfterCmd }) ∧
    (∀ (i : Slot) (line : Fin 8), s.control.mode ≠ .start → (s.port.args[0]).toNat = i.val → (s.port.args[1]).toNat = line.val →
      ∃ w : Snapshot, exec .inspectEntry s = .next { s with
          command := { busy := false, last := some .inspectEntry, result := .done, detail := 0, overrun := false }
          port := { s.portAfterCmd with window := some w } } ∧
        w.slot = i ∧ w.line = line ∧ w.state = s.entries[i].state ∧ w.generation = s.entries[i].generation ∧
        w.origin = s.entries[i].origin ∧ w.page = s.entries[i].page ∧ w.writers = s.entries[i].writers ∧
        w.attempts = s.entries[i].attempts ∧
        w.writtenCount = ((List.finRange 512).filter fun o => s.entries[i].written.getLsbD o.val).length ∧
        w.validCount = ((List.finRange 512).filter fun o => s.entries[i].valid.getLsbD o.val).length ∧
        (i ∉ s.commitQueue → w.sealOrder = none) ∧
        (∀ k, s.commitQueue[k]? = some i → (∀ m < k, s.commitQueue[m]? ≠ some i) → w.sealOrder = some k) ∧
        (∀ k : Fin 64, w.writtenMap.getLsbD k.val = s.entries[i].written.getLsbD (64 * line.val + k.val) ∧
          w.validMap.getLsbD k.val = s.entries[i].valid.getLsbD (64 * line.val + k.val)) ∧
        w.data.length = 64 ∧
        (∀ k : Fin 64, w.data[k.val]? = some (if s.entries[i].valid.getLsbD (64 * line.val + k.val) then
          imageByte s.entries[i].buffer (64 * line.val + k.val) else 0#8)))

/-! ### The registers of the management port -/

/-- The bytes of a transfer (R185, R186, R191). The port does not answer while RESET_N is asserted, nor before MADDR is sampled: nothing but its reply changes (log entry 19). POINTER_WRITE
sets the pointer; a further byte goes to the register at the pointer, which moves on: CMD, CFG_INDEX and CFG_DATA take it as their own commands do (log entry 17), each argument takes its low byte
at the even place, and a write to a read-only register or to none changes the pointer alone. A byte read at the pointer (log entry 18) is what 12.4 places there, and changes the pointer alone
at a register without an effect of its own. The end of a transfer returns the byte cursor to 0. -/
def Obligations.PortTransferBytes : Prop :=
  (∀ (s : State) (c : Instr), portCommand c → s.resetAsserted = true ∨ s.port.maddr = none →
     exec c s = .next { s with port := { s.port with reply := .nack } }) ∧
  (∀ (s : State) (value : Byte), s.resetAsserted = false → s.port.maddr.isSome →
     exec (.pointerWrite value) s = .next { s with port := { s.port with pointer := value, reply := .ack } } ∧
     exec .transferEnd s = .next { s with
       events := { s.events with cursor := 0 }, port := { s.port with reply := .none } } ∧
     (∀ n : Fin 4, s.port.pointer.toNat = 0x14 + 2 * n.val →
       exec (.registerWrite value) s = .next { s with port := { s.port with
         pointer := s.port.pointer + 1#8, reply := .ack
         args := s.port.args.set n.val ((s.port.args[n]).extractLsb' 8 8 ++ value) n.isLt } }) ∧
     (∀ n : Fin 4, s.port.pointer.toNat = 0x14 + 2 * n.val + 1 →
       exec (.registerWrite value) s = .next { s with port := { s.port with
         pointer := s.port.pointer + 1#8, reply := .ack
         args := s.port.args.set n.val (value ++ (s.port.args[n]).extractLsb' 0 8) n.isLt } }) ∧
     (s.port.pointer.toNat = 0x10 →
       (∀ (k : Nat) (c : Instr) (m : MgmtCommand), cmdWrites[k]? = some (c, m) → value.toNat = k + 1 →
         exec (.registerWrite value) s = exec c s) ∧
       (value = 0#8 ∨ 9 < value.toNat → exec (.registerWrite value) s = exec (.unknownCommand value) s)) ∧
     (s.port.pointer.toNat = 0x30 → exec (.registerWrite value) s = exec (.cfgIndexWrite value) s) ∧
     (s.port.pointer.toNat = 0x31 → exec (.registerWrite value) s = exec (.cfgDataWrite value) s) ∧
     (s.port.pointer.toNat < 0x10 ∨ (0x11 ≤ s.port.pointer.toNat ∧ s.port.pointer.toNat ≤ 0x13) ∨
         (0x1C ≤ s.port.pointer.toNat ∧ s.port.pointer.toNat ≤ 0x2F) ∨ 0x32 ≤ s.port.pointer.toNat →
       exec (.registerWrite value) s = .next { s with port := { s.port with
         pointer := if s.port.pointer = 0x0A#8 then 0x0A#8 else s.port.pointer + 1#8, reply := .ack } })) ∧
  (∀ s : State, s.resetAsserted = false → s.port.maddr.isSome →
     (s.port.pointer.toNat = 0x0A → exec (.counterLowByteRead .pointer) s = exec .evdataRead s) ∧
     (s.port.pointer.toNat = 0x0B → exec (.counterLowByteRead .pointer) s = exec .evlostRead s) ∧
     (s.port.pointer.toNat = 0x31 → exec (.counterLowByteRead .pointer) s = exec .cfgDataRead s) ∧
     (∀ k : CounterId, s.port.pointer = counterLowAddr k →
       exec (.counterLowByteRead .pointer) s = exec (.counterLowByteRead (.counter k)) s) ∧
     (s.port.pointer.toNat ∉ [0x0A, 0x0B, 0x20, 0x22, 0x24, 0x26, 0x31] →
       ∃ b : Byte, s.RegisterShows s.port.pointer.toNat b ∧ exec (.counterLowByteRead .pointer) s = .next { s with
         port := { s.port with pointer := s.port.pointer + 1#8, reply := .byte b } }))

/-- EVDATA_READ, EVLOST_READ, COUNTER_LOW_BYTE_READ and ATTN (R186, R190, R191, R192). EVDATA gives byte number cursor of the head record, laid out as 12.3 says; the record is removed at the
eighth byte, and an empty queue gives 00h with nothing changed. EVLOST reads its value and becomes 0. A counter's low byte is returned and its high byte goes to the holding byte, which the next
register returns to a read at the pointer (log entry 18). ATTN is asserted while a record whose code the mask enables is queued. That the detail bits of a field which a record does
not have are 0 (the mode beside a kind other than PROTECT, the fault kind beside DATA and DONE, the ASIZE code at LINK_DOWN) is the model's reading (log entry 41). -/
def Obligations.ReadsThatChangeTheirRegister : Prop :=
  (∀ s : State, s.resetAsserted = false → s.port.maddr.isSome →
     (s.events.records = [] → exec .evdataRead s = .next { s with
       port := { s.port with pointer := 0x0A#8, reply := .byte 0#8 } }) ∧
     (∀ (r : EventRecord) (rest : List EventRecord), s.events.records = r :: rest →
       ∃ b : Byte, r.Shows s.events.cursor.val b ∧
       (s.events.cursor < 7 → exec .evdataRead s = .next { s with
         events := { s.events with cursor := s.events.cursor + 1 }
         port := { s.port with pointer := 0x0A#8, reply := .byte b } }) ∧
       (s.events.cursor = 7 → exec .evdataRead s = .next { s with
         events := { s.events with records := rest, cursor := 0 }
         port := { s.port with pointer := 0x0A#8, reply := .byte b } }))) ∧
  (∀ s : State, s.resetAsserted = false → s.port.maddr.isSome →
     exec .evlostRead s = .next { s with
       events := { s.events with lost := 0#8 }, port := { s.port with pointer := 0x0C#8, reply := .byte s.events.lost } } ∧
     ∀ k : CounterId, ∃ t, exec (.counterLowByteRead (.counter k)) s = .next t ∧
       t = { s with counters := t.counters, port := { s.port with
         pointer := counterLowAddr k + 1#8, reply := .byte ((s.counters.value k).extractLsb' 0 8) } } ∧
       t.counters.held k = (s.counters.value k).extractLsb' 8 8 ∧
       (∃ u, exec (.counterLowByteRead .pointer) t = .next u ∧ u.port.reply = .byte ((s.counters.value k).extractLsb' 8 8)) ∧
       (∀ j : CounterId, t.counters.value j = s.counters.value j) ∧
       (∀ j : CounterId, j ≠ k → t.counters.held j = s.counters.held j)) ∧
  (∀ s : State, s.attn = true ↔ ∃ r ∈ s.events.records, s.params.attnMask.getLsbD r.event.layout.1 = true)

/-- CFG_INDEX_WRITE, CFG_DATA_READ and CFG_DATA_WRITE (R146, R181, R195): the index, or 0 from 82 on; a byte of the shadow, whose region descriptors are
the live ones; an edit of a parameter byte, taken in RUNNING, DRAIN and DRAINED alone. CFG_DATA moves the index on, from 81 to 0, and leaves the
pointer. -/
def Obligations.ConfigurationRegisters : Prop :=
  ∀ (s : State) (value : Byte), s.resetAsserted = false → s.port.maddr.isSome →
    (∀ h : value.toNat < 82, exec (.cfgIndexWrite value) s = .next { s with
      port := { s.port with cfgIndex := ⟨value.toNat, h⟩, pointer := 0x31#8, reply := .ack } }) ∧
    (82 ≤ value.toNat → exec (.cfgIndexWrite value) s = .next { s with
      port := { s.port with cfgIndex := 0, pointer := 0x31#8, reply := .ack } }) ∧
    (∃ b : Byte, exec .cfgDataRead s = .next { s with
        port := { s.port with cfgIndex := s.port.cfgIndex + 1, pointer := 0x31#8, reply := .byte b } } ∧
      (s.port.cfgIndex.val < 30 → s.shadow.fields.bytes[s.port.cfgIndex.val]? = some b) ∧
      (∀ (n : RegionIndex) (j : Fin 6), s.port.cfgIndex.val = 30 + 6 * n.val + j.val →
        (j.val < 2 → b = byteOf s.regions[n].first j.val) ∧
        (2 ≤ j.val → j.val < 4 → b = byteOf s.regions[n].last (j.val - 2)) ∧
        (j.val = 4 → b.toNat = [AccessMode.readWrite, .readOnly, .noAccess].idxOf s.regions[n].mode) ∧
        (j.val = 5 → b.toNat = (if s.regions[n].enabled then 1 else 0) + (if s.regions[n].frozen then 2 else 0))) ∧
      (∀ k : Fin 4, s.port.cfgIndex.val = 78 + k.val → b = byteOf s.shadow.crc.toNat k.val)) ∧
    ((5 ≤ s.port.cfgIndex.val ∧ s.port.cfgIndex.val ≤ 7) ∨ (12 ≤ s.port.cfgIndex.val ∧ s.port.cfgIndex.val ≤ 29) →
      s.control.mode ≠ .start → s.control.mode ≠ .halted →
      ∃ fields : RecordFields, fields.bytes = s.shadow.fields.bytes.set s.port.cfgIndex.val value ∧
        exec (.cfgDataWrite value) s = .next { s with
          shadow := { s.shadow with fields := fields }
          port := { s.port with cfgIndex := s.port.cfgIndex + 1, pointer := 0x31#8, reply := .ack } }) ∧
    (¬ ((5 ≤ s.port.cfgIndex.val ∧ s.port.cfgIndex.val ≤ 7) ∨ (12 ≤ s.port.cfgIndex.val ∧ s.port.cfgIndex.val ≤ 29)) ∨
        s.control.mode = .start ∨ s.control.mode = .halted →
      exec (.cfgDataWrite value) s = .next { s with
        port := { s.port with cfgIndex := s.port.cfgIndex + 1, pointer := 0x31#8, reply := .ack } })

/-! ### What every step keeps -/

/-- Every step keeps the laws that bind the staging table to the commit queue, to the engine, and to the mode (R12, R13, R28, R29, R159), and RESET_N to
START (R168). Under them PSAFE says that no entry is left to commit: every entry is FREE or FAILED (R167, R168). Every step also keeps at most one absorbing and one retired
entry of a page (R3), with what that rests on: where CONFIG and other entries lie, and that one WRITE_CONFIG at most has its entry in use. -/
def Obligations.StepsKeepTheStagingLaws : Prop :=
  (∀ s t : State, s.StagingLaw → s.ResetLaw → step s = .next t → t.StagingLaw ∧ t.ResetLaw) ∧
  (∀ s t : State, s.StagingLaw → s.ResetLaw → s.PageLaw → step s = .next t → t.PageLaw) ∧
  ∀ s : State, s.StagingLaw → s.psafe = true → ∀ i : Slot, s.entries[i].state = .free ∨ s.entries[i].state = .failed

/-- The mode changes as R159 lists, and in no other way, by any command but the resets; a tick leaves it. Power-on and RESET_N lead to START. -/
def Obligations.ModeChangesAreTheListedOnes : Prop :=
  (∀ (c : Instr) (s t : State), (∀ p m, c ≠ .powerOn p m) → c ≠ .resetNAssertion → (∀ p m, c ≠ .resetNDeassertion p m) →
    exec c s = .next t → modeChange s.control.mode t.control.mode = true) ∧
  (∀ s t : State, s.pending = [] → step s = .next t → t.control.mode = s.control.mode) ∧
  (∀ (p : Bool) (m : BitVec 2) (s t : State), exec (.powerOn p m) s = .next t → t.control.mode = .start) ∧
  (∀ s t : State, s.resetAsserted = false → exec .resetNAssertion s = .next t → t.control.mode = .start) ∧
  (∀ (p : Bool) (m : BitVec 2) (s t : State), s.resetAsserted = true → exec (.resetNDeassertion p m) s = .next t → t.control.mode = .start)

/-- The generation of a slot advances by one, from 255 to 0, when a command takes the slot from FREE, and it changes at nothing else but power-on and
RESET_N, which set it to 0 (R5). REINIT keeps it. -/
def Obligations.GenerationAdvancesAtAllocation : Prop :=
  (∀ (c : Instr) (s t : State) (i : Slot), s.StagingLaw → (∀ p m, c ≠ .powerOn p m) → c ≠ .resetNAssertion → exec c s = .next t →
    t.entries[i].generation =
      if s.entries[i].state = .free ∧ t.entries[i].state ≠ .free then s.entries[i].generation + 1#8 else s.entries[i].generation) ∧
  (∀ (p : Bool) (m : BitVec 2) (s t : State) (i : Slot), exec (.powerOn p m) s = .next t → t.entries[i].generation = 0#8) ∧
  (∀ (s t : State) (i : Slot), s.resetAsserted = false → exec .resetNAssertion s = .next t → t.entries[i].generation = 0#8) ∧
  ∀ (s t : State) (i : Slot), s.pending = [] → step s = .next t → t.entries[i].generation = s.entries[i].generation

/-- Every step keeps the written set inside the valid set, and the valid set of every FAILED entry and of a COMMITTING entry past FILL the whole page (R6), and keeps every entry with written bytes, the CONFIG entries aside, on a READ_WRITE
page: through writes, SET_REGION, a new configuration and both resets (R138). -/
def Obligations.StepsKeepProtection : Prop :=
  (∀ s t : State, s.StagingLaw → s.WrittenWithinValid → step s = .next t → t.WrittenWithinValid) ∧
  (∀ s t : State, s.StagingLaw → s.WholePageValid → step s = .next t → t.WholePageValid) ∧
  ∀ s t : State, s.StagingLaw → s.ProtectionPromise → step s = .next t → t.ProtectionPromise

/-- The effective mode of a page is the most restrictive mode among the enabled regions that hold it, and READ_WRITE where none does (R136). No other
field of a descriptor and no order plays a part. -/
def Obligations.EffectiveModeIsTheMostRestrictive : Prop :=
  ∀ (s : State) (page : Nat),
    let holds (n : RegionIndex) : Prop := s.regions[n].enabled = true ∧ s.regions[n].first ≤ page ∧ page ≤ s.regions[n].last
    (s.effectiveMode page = .noAccess ↔ ∃ n, holds n ∧ s.regions[n].mode = .noAccess) ∧
    (s.effectiveMode page = .readOnly ↔
      (∃ n, holds n ∧ s.regions[n].mode = .readOnly) ∧ ∀ n, holds n → s.regions[n].mode ≠ .noAccess) ∧
    (s.effectiveMode page = .readWrite ↔ ∀ n, holds n → s.regions[n].mode = .readWrite)

/-- The delayed transaction table (R97): every step keeps at most two entries for one requester and at most one for any key, so at most one FENCE for a
requester. An entry leaves FREE only when a request that matches none is recorded, and its key is the request's. -/
def Obligations.StepsKeepTheDelayedQuota : Prop :=
  (∀ s t : State, s.DttQuota → step s = .next t → t.DttQuota) ∧
  (∀ (s : State) (r : Requester) (i j : DttIndex), s.DttQuota → s.dtt[i].state ≠ .free → s.dtt[j].state ≠ .free →
    s.dtt[i].kind = some .fence → s.dtt[j].kind = some .fence → s.dtt[i].requester = some r → s.dtt[j].requester = some r → i = j) ∧
  ∀ (c : Instr) (s t : State) (d : DttIndex), exec c s = .next t → s.dtt[d].state = .free → t.dtt[d].state ≠ .free →
    ∃ k : DttKey, s.matchDtt k = none ∧ t.dtt[d].hasKey k = true ∧
      ((∃ req addr len, c = .readRequest req addr len ∧ k = .read req addr.toNat len.toNat) ∨
        (∃ req, c = .fenceRequest req ∧ k = .fence req))

/-- Every step keeps the arrival numbers of the READ entries 0 up to one less than their number, each once (R98, R105). -/
def Obligations.StepsKeepTheArrivalOrder : Prop :=
  ∀ s t : State, s.ArrivalLaw → step s = .next t → t.ArrivalLaw

/-- Every step keeps the event queue at 32 records or fewer with consecutive sequence numbers that end before the next one, the byte cursor at 0 while it is
empty (R190, R191). It also keeps the pages of `array` listed once each in rising order: that list is the model's own representation of the memory device (log entries 12
and 33). -/
def Obligations.StepsKeepTheEventOrder : Prop :=
  (∀ s t : State, s.EventLaw → step s = .next t → t.EventLaw) ∧
  ∀ s t : State, s.ArrayLaw → step s = .next t → t.ArrayLaw

/-- The suspension count of an operation never exceeds SUSPEND_MAX (R63). It is 0 when the operation is granted the link, it goes up by one when the
operation reaches SUSPENDED, and it ends with the operation; nothing else changes it. -/
def Obligations.SuspensionCountStaysInBudget : Prop :=
  (∀ s t : State, s.StagingLaw → s.SuspensionBudget → step s = .next t → t.SuspensionBudget) ∧
  ∀ (c : Instr) (s t : State), s.SuspensionBudget → exec c s = .next t →
    (s.link.suspensionCount = none → t.link.suspensionCount = none ∨
      (t.link.suspensionCount = some 0 ∧ c = .arbiterDecision ∧
        ((∃ page, t.link.inFlight = some (.erase page)) ∨ ∃ page bytes, t.link.inFlight = some (.program page bytes)))) ∧
    ∀ n, s.link.suspensionCount = some n →
      (t.link.suspensionCount = some n ∧ ¬ (s.link.state = .suspending ∧ t.link.state = .suspended)) ∨
      (t.link.suspensionCount = some (n + 1) ∧ s.link.state = .suspending ∧ t.link.state = .suspended) ∨
      (t.link.suspensionCount = none ∧ t.link.opKind = none)

/-- The 82 bytes of a configuration record and its fields say the same (12.2): each gives the other back. The CRC-32 of the bytes 31h to 39h is
CBF43926h (R198). -/
def Obligations.RecordBytesAndFieldsAgree : Prop :=
  (∀ r : ConfigRecord, r.bytes.length = 82 ∧ recordOf r.bytes = r) ∧
  (∀ bytes : List Byte, bytes.length = 82 → (recordOf bytes).bytes = bytes) ∧
  crc32 [0x31#8, 0x32#8, 0x33#8, 0x34#8, 0x35#8, 0x36#8, 0x37#8, 0x38#8, 0x39#8] = 0xCBF43926#32
end

