-- ==== Sys2Proof/Laws/State.lean ====
section
/-! SUPPORT. What each named update of the state does to each field: the one it replaces, and every other one, which it keeps. -/

namespace Sys2Proof.Machine

/-! ### State.setEntry -/

@[simp] theorem State.setEntry_pending (s : State) (i : Slot) (e : Entry) : (s.setEntry i e).pending = s.pending := rfl
@[simp] theorem State.setEntry_now (s : State) (i : Slot) (e : Entry) : (s.setEntry i e).now = s.now := rfl
@[simp] theorem State.setEntry_resetAsserted (s : State) (i : Slot) (e : Entry) : (s.setEntry i e).resetAsserted = s.resetAsserted := rfl
@[simp] theorem State.setEntry_control (s : State) (i : Slot) (e : Entry) : (s.setEntry i e).control = s.control := rfl
@[simp] theorem State.setEntry_entries (s : State) (i : Slot) (e : Entry) : (s.setEntry i e).entries = s.entries.set i.val e i.isLt := rfl
@[simp] theorem State.setEntry_commitQueue (s : State) (i : Slot) (e : Entry) : (s.setEntry i e).commitQueue = s.commitQueue := rfl
@[simp] theorem State.setEntry_engine (s : State) (i : Slot) (e : Entry) : (s.setEntry i e).engine = s.engine := rfl
@[simp] theorem State.setEntry_link (s : State) (i : Slot) (e : Entry) : (s.setEntry i e).link = s.link := rfl
@[simp] theorem State.setEntry_array (s : State) (i : Slot) (e : Entry) : (s.setEntry i e).array = s.array := rfl
@[simp] theorem State.setEntry_dtt (s : State) (i : Slot) (e : Entry) : (s.setEntry i e).dtt = s.dtt := rfl
@[simp] theorem State.setEntry_syncRecord (s : State) (i : Slot) (e : Entry) : (s.setEntry i e).syncRecord = s.syncRecord := rfl
@[simp] theorem State.setEntry_regions (s : State) (i : Slot) (e : Entry) : (s.setEntry i e).regions = s.regions := rfl
@[simp] theorem State.setEntry_refresh (s : State) (i : Slot) (e : Entry) : (s.setEntry i e).refresh = s.refresh := rfl
@[simp] theorem State.setEntry_params (s : State) (i : Slot) (e : Entry) : (s.setEntry i e).params = s.params := rfl
@[simp] theorem State.setEntry_shadow (s : State) (i : Slot) (e : Entry) : (s.setEntry i e).shadow = s.shadow := rfl
@[simp] theorem State.setEntry_sequencer (s : State) (i : Slot) (e : Entry) : (s.setEntry i e).sequencer = s.sequencer := rfl
@[simp] theorem State.setEntry_command (s : State) (i : Slot) (e : Entry) : (s.setEntry i e).command = s.command := rfl
@[simp] theorem State.setEntry_events (s : State) (i : Slot) (e : Entry) : (s.setEntry i e).events = s.events := rfl
@[simp] theorem State.setEntry_counters (s : State) (i : Slot) (e : Entry) : (s.setEntry i e).counters = s.counters := rfl
@[simp] theorem State.setEntry_port (s : State) (i : Slot) (e : Entry) : (s.setEntry i e).port = s.port := rfl
@[simp] theorem State.setEntry_response (s : State) (i : Slot) (e : Entry) : (s.setEntry i e).response = s.response := rfl
@[simp] theorem State.setEntry_freeIndex (s : State) (i : Slot) (e : Entry) : (s.setEntry i e).freeIndex = s.freeIndex := rfl

/-! ### State.setDtt -/

@[simp] theorem State.setDtt_pending (s : State) (i : DttIndex) (d : DttEntry) : (s.setDtt i d).pending = s.pending := rfl
@[simp] theorem State.setDtt_now (s : State) (i : DttIndex) (d : DttEntry) : (s.setDtt i d).now = s.now := rfl
@[simp] theorem State.setDtt_resetAsserted (s : State) (i : DttIndex) (d : DttEntry) : (s.setDtt i d).resetAsserted = s.resetAsserted := rfl
@[simp] theorem State.setDtt_control (s : State) (i : DttIndex) (d : DttEntry) : (s.setDtt i d).control = s.control := rfl
@[simp] theorem State.setDtt_entries (s : State) (i : DttIndex) (d : DttEntry) : (s.setDtt i d).entries = s.entries := rfl
@[simp] theorem State.setDtt_commitQueue (s : State) (i : DttIndex) (d : DttEntry) : (s.setDtt i d).commitQueue = s.commitQueue := rfl
@[simp] theorem State.setDtt_engine (s : State) (i : DttIndex) (d : DttEntry) : (s.setDtt i d).engine = s.engine := rfl
@[simp] theorem State.setDtt_link (s : State) (i : DttIndex) (d : DttEntry) : (s.setDtt i d).link = s.link := rfl
@[simp] theorem State.setDtt_array (s : State) (i : DttIndex) (d : DttEntry) : (s.setDtt i d).array = s.array := rfl
@[simp] theorem State.setDtt_dtt (s : State) (i : DttIndex) (d : DttEntry) : (s.setDtt i d).dtt = s.dtt.set i.val d i.isLt := rfl
@[simp] theorem State.setDtt_syncRecord (s : State) (i : DttIndex) (d : DttEntry) : (s.setDtt i d).syncRecord = s.syncRecord := rfl
@[simp] theorem State.setDtt_regions (s : State) (i : DttIndex) (d : DttEntry) : (s.setDtt i d).regions = s.regions := rfl
@[simp] theorem State.setDtt_refresh (s : State) (i : DttIndex) (d : DttEntry) : (s.setDtt i d).refresh = s.refresh := rfl
@[simp] theorem State.setDtt_params (s : State) (i : DttIndex) (d : DttEntry) : (s.setDtt i d).params = s.params := rfl
@[simp] theorem State.setDtt_shadow (s : State) (i : DttIndex) (d : DttEntry) : (s.setDtt i d).shadow = s.shadow := rfl
@[simp] theorem State.setDtt_sequencer (s : State) (i : DttIndex) (d : DttEntry) : (s.setDtt i d).sequencer = s.sequencer := rfl
@[simp] theorem State.setDtt_command (s : State) (i : DttIndex) (d : DttEntry) : (s.setDtt i d).command = s.command := rfl
@[simp] theorem State.setDtt_events (s : State) (i : DttIndex) (d : DttEntry) : (s.setDtt i d).events = s.events := rfl
@[simp] theorem State.setDtt_counters (s : State) (i : DttIndex) (d : DttEntry) : (s.setDtt i d).counters = s.counters := rfl
@[simp] theorem State.setDtt_port (s : State) (i : DttIndex) (d : DttEntry) : (s.setDtt i d).port = s.port := rfl
@[simp] theorem State.setDtt_response (s : State) (i : DttIndex) (d : DttEntry) : (s.setDtt i d).response = s.response := rfl
@[simp] theorem State.setDtt_freeIndex (s : State) (i : DttIndex) (d : DttEntry) : (s.setDtt i d).freeIndex = s.freeIndex := rfl

/-! ### State.setRegion -/

@[simp] theorem State.setRegion_pending (s : State) (n : RegionIndex) (r : Region) : (s.setRegion n r).pending = s.pending := rfl
@[simp] theorem State.setRegion_now (s : State) (n : RegionIndex) (r : Region) : (s.setRegion n r).now = s.now := rfl
@[simp] theorem State.setRegion_resetAsserted (s : State) (n : RegionIndex) (r : Region) : (s.setRegion n r).resetAsserted = s.resetAsserted := rfl
@[simp] theorem State.setRegion_control (s : State) (n : RegionIndex) (r : Region) : (s.setRegion n r).control = s.control := rfl
@[simp] theorem State.setRegion_entries (s : State) (n : RegionIndex) (r : Region) : (s.setRegion n r).entries = s.entries := rfl
@[simp] theorem State.setRegion_commitQueue (s : State) (n : RegionIndex) (r : Region) : (s.setRegion n r).commitQueue = s.commitQueue := rfl
@[simp] theorem State.setRegion_engine (s : State) (n : RegionIndex) (r : Region) : (s.setRegion n r).engine = s.engine := rfl
@[simp] theorem State.setRegion_link (s : State) (n : RegionIndex) (r : Region) : (s.setRegion n r).link = s.link := rfl
@[simp] theorem State.setRegion_array (s : State) (n : RegionIndex) (r : Region) : (s.setRegion n r).array = s.array := rfl
@[simp] theorem State.setRegion_dtt (s : State) (n : RegionIndex) (r : Region) : (s.setRegion n r).dtt = s.dtt := rfl
@[simp] theorem State.setRegion_syncRecord (s : State) (n : RegionIndex) (r : Region) : (s.setRegion n r).syncRecord = s.syncRecord := rfl
@[simp] theorem State.setRegion_regions (s : State) (n : RegionIndex) (r : Region) : (s.setRegion n r).regions = s.regions.set n.val r n.isLt := rfl
@[simp] theorem State.setRegion_refresh (s : State) (n : RegionIndex) (r : Region) : (s.setRegion n r).refresh = s.refresh := rfl
@[simp] theorem State.setRegion_params (s : State) (n : RegionIndex) (r : Region) : (s.setRegion n r).params = s.params := rfl
@[simp] theorem State.setRegion_shadow (s : State) (n : RegionIndex) (r : Region) : (s.setRegion n r).shadow = s.shadow := rfl
@[simp] theorem State.setRegion_sequencer (s : State) (n : RegionIndex) (r : Region) : (s.setRegion n r).sequencer = s.sequencer := rfl
@[simp] theorem State.setRegion_command (s : State) (n : RegionIndex) (r : Region) : (s.setRegion n r).command = s.command := rfl
@[simp] theorem State.setRegion_events (s : State) (n : RegionIndex) (r : Region) : (s.setRegion n r).events = s.events := rfl
@[simp] theorem State.setRegion_counters (s : State) (n : RegionIndex) (r : Region) : (s.setRegion n r).counters = s.counters := rfl
@[simp] theorem State.setRegion_port (s : State) (n : RegionIndex) (r : Region) : (s.setRegion n r).port = s.port := rfl
@[simp] theorem State.setRegion_response (s : State) (n : RegionIndex) (r : Region) : (s.setRegion n r).response = s.response := rfl
@[simp] theorem State.setRegion_freeIndex (s : State) (n : RegionIndex) (r : Region) : (s.setRegion n r).freeIndex = s.freeIndex := rfl

/-! ### State.setLink -/

@[simp] theorem State.setLink_pending (s : State) (l : Link) : (s.setLink l).pending = s.pending := rfl
@[simp] theorem State.setLink_now (s : State) (l : Link) : (s.setLink l).now = s.now := rfl
@[simp] theorem State.setLink_resetAsserted (s : State) (l : Link) : (s.setLink l).resetAsserted = s.resetAsserted := rfl
@[simp] theorem State.setLink_control (s : State) (l : Link) : (s.setLink l).control = s.control := rfl
@[simp] theorem State.setLink_entries (s : State) (l : Link) : (s.setLink l).entries = s.entries := rfl
@[simp] theorem State.setLink_commitQueue (s : State) (l : Link) : (s.setLink l).commitQueue = s.commitQueue := rfl
@[simp] theorem State.setLink_engine (s : State) (l : Link) : (s.setLink l).engine = s.engine := rfl
@[simp] theorem State.setLink_link (s : State) (l : Link) : (s.setLink l).link = l := rfl
@[simp] theorem State.setLink_array (s : State) (l : Link) : (s.setLink l).array = s.array := rfl
@[simp] theorem State.setLink_dtt (s : State) (l : Link) : (s.setLink l).dtt = s.dtt := rfl
@[simp] theorem State.setLink_syncRecord (s : State) (l : Link) : (s.setLink l).syncRecord = s.syncRecord := rfl
@[simp] theorem State.setLink_regions (s : State) (l : Link) : (s.setLink l).regions = s.regions := rfl
@[simp] theorem State.setLink_refresh (s : State) (l : Link) : (s.setLink l).refresh = s.refresh := rfl
@[simp] theorem State.setLink_params (s : State) (l : Link) : (s.setLink l).params = s.params := rfl
@[simp] theorem State.setLink_shadow (s : State) (l : Link) : (s.setLink l).shadow = s.shadow := rfl
@[simp] theorem State.setLink_sequencer (s : State) (l : Link) : (s.setLink l).sequencer = s.sequencer := rfl
@[simp] theorem State.setLink_command (s : State) (l : Link) : (s.setLink l).command = s.command := rfl
@[simp] theorem State.setLink_events (s : State) (l : Link) : (s.setLink l).events = s.events := rfl
@[simp] theorem State.setLink_counters (s : State) (l : Link) : (s.setLink l).counters = s.counters := rfl
@[simp] theorem State.setLink_port (s : State) (l : Link) : (s.setLink l).port = s.port := rfl
@[simp] theorem State.setLink_response (s : State) (l : Link) : (s.setLink l).response = s.response := rfl
@[simp] theorem State.setLink_freeIndex (s : State) (l : Link) : (s.setLink l).freeIndex = s.freeIndex := rfl

/-! ### State.setEngine -/

@[simp] theorem State.setEngine_pending (s : State) (e : Engine) : (s.setEngine e).pending = s.pending := rfl
@[simp] theorem State.setEngine_now (s : State) (e : Engine) : (s.setEngine e).now = s.now := rfl
@[simp] theorem State.setEngine_resetAsserted (s : State) (e : Engine) : (s.setEngine e).resetAsserted = s.resetAsserted := rfl
@[simp] theorem State.setEngine_control (s : State) (e : Engine) : (s.setEngine e).control = s.control := rfl
@[simp] theorem State.setEngine_entries (s : State) (e : Engine) : (s.setEngine e).entries = s.entries := rfl
@[simp] theorem State.setEngine_commitQueue (s : State) (e : Engine) : (s.setEngine e).commitQueue = s.commitQueue := rfl
@[simp] theorem State.setEngine_engine (s : State) (e : Engine) : (s.setEngine e).engine = e := rfl
@[simp] theorem State.setEngine_link (s : State) (e : Engine) : (s.setEngine e).link = s.link := rfl
@[simp] theorem State.setEngine_array (s : State) (e : Engine) : (s.setEngine e).array = s.array := rfl
@[simp] theorem State.setEngine_dtt (s : State) (e : Engine) : (s.setEngine e).dtt = s.dtt := rfl
@[simp] theorem State.setEngine_syncRecord (s : State) (e : Engine) : (s.setEngine e).syncRecord = s.syncRecord := rfl
@[simp] theorem State.setEngine_regions (s : State) (e : Engine) : (s.setEngine e).regions = s.regions := rfl
@[simp] theorem State.setEngine_refresh (s : State) (e : Engine) : (s.setEngine e).refresh = s.refresh := rfl
@[simp] theorem State.setEngine_params (s : State) (e : Engine) : (s.setEngine e).params = s.params := rfl
@[simp] theorem State.setEngine_shadow (s : State) (e : Engine) : (s.setEngine e).shadow = s.shadow := rfl
@[simp] theorem State.setEngine_sequencer (s : State) (e : Engine) : (s.setEngine e).sequencer = s.sequencer := rfl
@[simp] theorem State.setEngine_command (s : State) (e : Engine) : (s.setEngine e).command = s.command := rfl
@[simp] theorem State.setEngine_events (s : State) (e : Engine) : (s.setEngine e).events = s.events := rfl
@[simp] theorem State.setEngine_counters (s : State) (e : Engine) : (s.setEngine e).counters = s.counters := rfl
@[simp] theorem State.setEngine_port (s : State) (e : Engine) : (s.setEngine e).port = s.port := rfl
@[simp] theorem State.setEngine_response (s : State) (e : Engine) : (s.setEngine e).response = s.response := rfl
@[simp] theorem State.setEngine_freeIndex (s : State) (e : Engine) : (s.setEngine e).freeIndex = s.freeIndex := rfl

/-! ### State.setSequencer -/

@[simp] theorem State.setSequencer_pending (s : State) (q : Sequencer) : (s.setSequencer q).pending = s.pending := rfl
@[simp] theorem State.setSequencer_now (s : State) (q : Sequencer) : (s.setSequencer q).now = s.now := rfl
@[simp] theorem State.setSequencer_resetAsserted (s : State) (q : Sequencer) : (s.setSequencer q).resetAsserted = s.resetAsserted := rfl
@[simp] theorem State.setSequencer_control (s : State) (q : Sequencer) : (s.setSequencer q).control = s.control := rfl
@[simp] theorem State.setSequencer_entries (s : State) (q : Sequencer) : (s.setSequencer q).entries = s.entries := rfl
@[simp] theorem State.setSequencer_commitQueue (s : State) (q : Sequencer) : (s.setSequencer q).commitQueue = s.commitQueue := rfl
@[simp] theorem State.setSequencer_engine (s : State) (q : Sequencer) : (s.setSequencer q).engine = s.engine := rfl
@[simp] theorem State.setSequencer_link (s : State) (q : Sequencer) : (s.setSequencer q).link = s.link := rfl
@[simp] theorem State.setSequencer_array (s : State) (q : Sequencer) : (s.setSequencer q).array = s.array := rfl
@[simp] theorem State.setSequencer_dtt (s : State) (q : Sequencer) : (s.setSequencer q).dtt = s.dtt := rfl
@[simp] theorem State.setSequencer_syncRecord (s : State) (q : Sequencer) : (s.setSequencer q).syncRecord = s.syncRecord := rfl
@[simp] theorem State.setSequencer_regions (s : State) (q : Sequencer) : (s.setSequencer q).regions = s.regions := rfl
@[simp] theorem State.setSequencer_refresh (s : State) (q : Sequencer) : (s.setSequencer q).refresh = s.refresh := rfl
@[simp] theorem State.setSequencer_params (s : State) (q : Sequencer) : (s.setSequencer q).params = s.params := rfl
@[simp] theorem State.setSequencer_shadow (s : State) (q : Sequencer) : (s.setSequencer q).shadow = s.shadow := rfl
@[simp] theorem State.setSequencer_sequencer (s : State) (q : Sequencer) : (s.setSequencer q).sequencer = q := rfl
@[simp] theorem State.setSequencer_command (s : State) (q : Sequencer) : (s.setSequencer q).command = s.command := rfl
@[simp] theorem State.setSequencer_events (s : State) (q : Sequencer) : (s.setSequencer q).events = s.events := rfl
@[simp] theorem State.setSequencer_counters (s : State) (q : Sequencer) : (s.setSequencer q).counters = s.counters := rfl
@[simp] theorem State.setSequencer_port (s : State) (q : Sequencer) : (s.setSequencer q).port = s.port := rfl
@[simp] theorem State.setSequencer_response (s : State) (q : Sequencer) : (s.setSequencer q).response = s.response := rfl
@[simp] theorem State.setSequencer_freeIndex (s : State) (q : Sequencer) : (s.setSequencer q).freeIndex = s.freeIndex := rfl

/-! ### State.setCommand -/

@[simp] theorem State.setCommand_pending (s : State) (c : CommandUnit) : (s.setCommand c).pending = s.pending := rfl
@[simp] theorem State.setCommand_now (s : State) (c : CommandUnit) : (s.setCommand c).now = s.now := rfl
@[simp] theorem State.setCommand_resetAsserted (s : State) (c : CommandUnit) : (s.setCommand c).resetAsserted = s.resetAsserted := rfl
@[simp] theorem State.setCommand_control (s : State) (c : CommandUnit) : (s.setCommand c).control = s.control := rfl
@[simp] theorem State.setCommand_entries (s : State) (c : CommandUnit) : (s.setCommand c).entries = s.entries := rfl
@[simp] theorem State.setCommand_commitQueue (s : State) (c : CommandUnit) : (s.setCommand c).commitQueue = s.commitQueue := rfl
@[simp] theorem State.setCommand_engine (s : State) (c : CommandUnit) : (s.setCommand c).engine = s.engine := rfl
@[simp] theorem State.setCommand_link (s : State) (c : CommandUnit) : (s.setCommand c).link = s.link := rfl
@[simp] theorem State.setCommand_array (s : State) (c : CommandUnit) : (s.setCommand c).array = s.array := rfl
@[simp] theorem State.setCommand_dtt (s : State) (c : CommandUnit) : (s.setCommand c).dtt = s.dtt := rfl
@[simp] theorem State.setCommand_syncRecord (s : State) (c : CommandUnit) : (s.setCommand c).syncRecord = s.syncRecord := rfl
@[simp] theorem State.setCommand_regions (s : State) (c : CommandUnit) : (s.setCommand c).regions = s.regions := rfl
@[simp] theorem State.setCommand_refresh (s : State) (c : CommandUnit) : (s.setCommand c).refresh = s.refresh := rfl
@[simp] theorem State.setCommand_params (s : State) (c : CommandUnit) : (s.setCommand c).params = s.params := rfl
@[simp] theorem State.setCommand_shadow (s : State) (c : CommandUnit) : (s.setCommand c).shadow = s.shadow := rfl
@[simp] theorem State.setCommand_sequencer (s : State) (c : CommandUnit) : (s.setCommand c).sequencer = s.sequencer := rfl
@[simp] theorem State.setCommand_command (s : State) (c : CommandUnit) : (s.setCommand c).command = c := rfl
@[simp] theorem State.setCommand_events (s : State) (c : CommandUnit) : (s.setCommand c).events = s.events := rfl
@[simp] theorem State.setCommand_counters (s : State) (c : CommandUnit) : (s.setCommand c).counters = s.counters := rfl
@[simp] theorem State.setCommand_port (s : State) (c : CommandUnit) : (s.setCommand c).port = s.port := rfl
@[simp] theorem State.setCommand_response (s : State) (c : CommandUnit) : (s.setCommand c).response = s.response := rfl
@[simp] theorem State.setCommand_freeIndex (s : State) (c : CommandUnit) : (s.setCommand c).freeIndex = s.freeIndex := rfl

/-! ### State.setControl -/

@[simp] theorem State.setControl_pending (s : State) (m : ModeController) : (s.setControl m).pending = s.pending := rfl
@[simp] theorem State.setControl_now (s : State) (m : ModeController) : (s.setControl m).now = s.now := rfl
@[simp] theorem State.setControl_resetAsserted (s : State) (m : ModeController) : (s.setControl m).resetAsserted = s.resetAsserted := rfl
@[simp] theorem State.setControl_control (s : State) (m : ModeController) : (s.setControl m).control = m := rfl
@[simp] theorem State.setControl_entries (s : State) (m : ModeController) : (s.setControl m).entries = s.entries := rfl
@[simp] theorem State.setControl_commitQueue (s : State) (m : ModeController) : (s.setControl m).commitQueue = s.commitQueue := rfl
@[simp] theorem State.setControl_engine (s : State) (m : ModeController) : (s.setControl m).engine = s.engine := rfl
@[simp] theorem State.setControl_link (s : State) (m : ModeController) : (s.setControl m).link = s.link := rfl
@[simp] theorem State.setControl_array (s : State) (m : ModeController) : (s.setControl m).array = s.array := rfl
@[simp] theorem State.setControl_dtt (s : State) (m : ModeController) : (s.setControl m).dtt = s.dtt := rfl
@[simp] theorem State.setControl_syncRecord (s : State) (m : ModeController) : (s.setControl m).syncRecord = s.syncRecord := rfl
@[simp] theorem State.setControl_regions (s : State) (m : ModeController) : (s.setControl m).regions = s.regions := rfl
@[simp] theorem State.setControl_refresh (s : State) (m : ModeController) : (s.setControl m).refresh = s.refresh := rfl
@[simp] theorem State.setControl_params (s : State) (m : ModeController) : (s.setControl m).params = s.params := rfl
@[simp] theorem State.setControl_shadow (s : State) (m : ModeController) : (s.setControl m).shadow = s.shadow := rfl
@[simp] theorem State.setControl_sequencer (s : State) (m : ModeController) : (s.setControl m).sequencer = s.sequencer := rfl
@[simp] theorem State.setControl_command (s : State) (m : ModeController) : (s.setControl m).command = s.command := rfl
@[simp] theorem State.setControl_events (s : State) (m : ModeController) : (s.setControl m).events = s.events := rfl
@[simp] theorem State.setControl_counters (s : State) (m : ModeController) : (s.setControl m).counters = s.counters := rfl
@[simp] theorem State.setControl_port (s : State) (m : ModeController) : (s.setControl m).port = s.port := rfl
@[simp] theorem State.setControl_response (s : State) (m : ModeController) : (s.setControl m).response = s.response := rfl
@[simp] theorem State.setControl_freeIndex (s : State) (m : ModeController) : (s.setControl m).freeIndex = s.freeIndex := rfl

/-! ### State.setPort -/

@[simp] theorem State.setPort_pending (s : State) (p : Port) : (s.setPort p).pending = s.pending := rfl
@[simp] theorem State.setPort_now (s : State) (p : Port) : (s.setPort p).now = s.now := rfl
@[simp] theorem State.setPort_resetAsserted (s : State) (p : Port) : (s.setPort p).resetAsserted = s.resetAsserted := rfl
@[simp] theorem State.setPort_control (s : State) (p : Port) : (s.setPort p).control = s.control := rfl
@[simp] theorem State.setPort_entries (s : State) (p : Port) : (s.setPort p).entries = s.entries := rfl
@[simp] theorem State.setPort_commitQueue (s : State) (p : Port) : (s.setPort p).commitQueue = s.commitQueue := rfl
@[simp] theorem State.setPort_engine (s : State) (p : Port) : (s.setPort p).engine = s.engine := rfl
@[simp] theorem State.setPort_link (s : State) (p : Port) : (s.setPort p).link = s.link := rfl
@[simp] theorem State.setPort_array (s : State) (p : Port) : (s.setPort p).array = s.array := rfl
@[simp] theorem State.setPort_dtt (s : State) (p : Port) : (s.setPort p).dtt = s.dtt := rfl
@[simp] theorem State.setPort_syncRecord (s : State) (p : Port) : (s.setPort p).syncRecord = s.syncRecord := rfl
@[simp] theorem State.setPort_regions (s : State) (p : Port) : (s.setPort p).regions = s.regions := rfl
@[simp] theorem State.setPort_refresh (s : State) (p : Port) : (s.setPort p).refresh = s.refresh := rfl
@[simp] theorem State.setPort_params (s : State) (p : Port) : (s.setPort p).params = s.params := rfl
@[simp] theorem State.setPort_shadow (s : State) (p : Port) : (s.setPort p).shadow = s.shadow := rfl
@[simp] theorem State.setPort_sequencer (s : State) (p : Port) : (s.setPort p).sequencer = s.sequencer := rfl
@[simp] theorem State.setPort_command (s : State) (p : Port) : (s.setPort p).command = s.command := rfl
@[simp] theorem State.setPort_events (s : State) (p : Port) : (s.setPort p).events = s.events := rfl
@[simp] theorem State.setPort_counters (s : State) (p : Port) : (s.setPort p).counters = s.counters := rfl
@[simp] theorem State.setPort_port (s : State) (p : Port) : (s.setPort p).port = p := rfl
@[simp] theorem State.setPort_response (s : State) (p : Port) : (s.setPort p).response = s.response := rfl
@[simp] theorem State.setPort_freeIndex (s : State) (p : Port) : (s.setPort p).freeIndex = s.freeIndex := rfl

/-! ### State.setEvents -/

@[simp] theorem State.setEvents_pending (s : State) (q : EventQueue) : (s.setEvents q).pending = s.pending := rfl
@[simp] theorem State.setEvents_now (s : State) (q : EventQueue) : (s.setEvents q).now = s.now := rfl
@[simp] theorem State.setEvents_resetAsserted (s : State) (q : EventQueue) : (s.setEvents q).resetAsserted = s.resetAsserted := rfl
@[simp] theorem State.setEvents_control (s : State) (q : EventQueue) : (s.setEvents q).control = s.control := rfl
@[simp] theorem State.setEvents_entries (s : State) (q : EventQueue) : (s.setEvents q).entries = s.entries := rfl
@[simp] theorem State.setEvents_commitQueue (s : State) (q : EventQueue) : (s.setEvents q).commitQueue = s.commitQueue := rfl
@[simp] theorem State.setEvents_engine (s : State) (q : EventQueue) : (s.setEvents q).engine = s.engine := rfl
@[simp] theorem State.setEvents_link (s : State) (q : EventQueue) : (s.setEvents q).link = s.link := rfl
@[simp] theorem State.setEvents_array (s : State) (q : EventQueue) : (s.setEvents q).array = s.array := rfl
@[simp] theorem State.setEvents_dtt (s : State) (q : EventQueue) : (s.setEvents q).dtt = s.dtt := rfl
@[simp] theorem State.setEvents_syncRecord (s : State) (q : EventQueue) : (s.setEvents q).syncRecord = s.syncRecord := rfl
@[simp] theorem State.setEvents_regions (s : State) (q : EventQueue) : (s.setEvents q).regions = s.regions := rfl
@[simp] theorem State.setEvents_refresh (s : State) (q : EventQueue) : (s.setEvents q).refresh = s.refresh := rfl
@[simp] theorem State.setEvents_params (s : State) (q : EventQueue) : (s.setEvents q).params = s.params := rfl
@[simp] theorem State.setEvents_shadow (s : State) (q : EventQueue) : (s.setEvents q).shadow = s.shadow := rfl
@[simp] theorem State.setEvents_sequencer (s : State) (q : EventQueue) : (s.setEvents q).sequencer = s.sequencer := rfl
@[simp] theorem State.setEvents_command (s : State) (q : EventQueue) : (s.setEvents q).command = s.command := rfl
@[simp] theorem State.setEvents_events (s : State) (q : EventQueue) : (s.setEvents q).events = q := rfl
@[simp] theorem State.setEvents_counters (s : State) (q : EventQueue) : (s.setEvents q).counters = s.counters := rfl
@[simp] theorem State.setEvents_port (s : State) (q : EventQueue) : (s.setEvents q).port = s.port := rfl
@[simp] theorem State.setEvents_response (s : State) (q : EventQueue) : (s.setEvents q).response = s.response := rfl
@[simp] theorem State.setEvents_freeIndex (s : State) (q : EventQueue) : (s.setEvents q).freeIndex = s.freeIndex := rfl

/-! ### State.setCounters -/

@[simp] theorem State.setCounters_pending (s : State) (c : Counters) : (s.setCounters c).pending = s.pending := rfl
@[simp] theorem State.setCounters_now (s : State) (c : Counters) : (s.setCounters c).now = s.now := rfl
@[simp] theorem State.setCounters_resetAsserted (s : State) (c : Counters) : (s.setCounters c).resetAsserted = s.resetAsserted := rfl
@[simp] theorem State.setCounters_control (s : State) (c : Counters) : (s.setCounters c).control = s.control := rfl
@[simp] theorem State.setCounters_entries (s : State) (c : Counters) : (s.setCounters c).entries = s.entries := rfl
@[simp] theorem State.setCounters_commitQueue (s : State) (c : Counters) : (s.setCounters c).commitQueue = s.commitQueue := rfl
@[simp] theorem State.setCounters_engine (s : State) (c : Counters) : (s.setCounters c).engine = s.engine := rfl
@[simp] theorem State.setCounters_link (s : State) (c : Counters) : (s.setCounters c).link = s.link := rfl
@[simp] theorem State.setCounters_array (s : State) (c : Counters) : (s.setCounters c).array = s.array := rfl
@[simp] theorem State.setCounters_dtt (s : State) (c : Counters) : (s.setCounters c).dtt = s.dtt := rfl
@[simp] theorem State.setCounters_syncRecord (s : State) (c : Counters) : (s.setCounters c).syncRecord = s.syncRecord := rfl
@[simp] theorem State.setCounters_regions (s : State) (c : Counters) : (s.setCounters c).regions = s.regions := rfl
@[simp] theorem State.setCounters_refresh (s : State) (c : Counters) : (s.setCounters c).refresh = s.refresh := rfl
@[simp] theorem State.setCounters_params (s : State) (c : Counters) : (s.setCounters c).params = s.params := rfl
@[simp] theorem State.setCounters_shadow (s : State) (c : Counters) : (s.setCounters c).shadow = s.shadow := rfl
@[simp] theorem State.setCounters_sequencer (s : State) (c : Counters) : (s.setCounters c).sequencer = s.sequencer := rfl
@[simp] theorem State.setCounters_command (s : State) (c : Counters) : (s.setCounters c).command = s.command := rfl
@[simp] theorem State.setCounters_events (s : State) (c : Counters) : (s.setCounters c).events = s.events := rfl
@[simp] theorem State.setCounters_counters (s : State) (c : Counters) : (s.setCounters c).counters = c := rfl
@[simp] theorem State.setCounters_port (s : State) (c : Counters) : (s.setCounters c).port = s.port := rfl
@[simp] theorem State.setCounters_response (s : State) (c : Counters) : (s.setCounters c).response = s.response := rfl
@[simp] theorem State.setCounters_freeIndex (s : State) (c : Counters) : (s.setCounters c).freeIndex = s.freeIndex := rfl

/-! ### State.setRefresh -/

@[simp] theorem State.setRefresh_pending (s : State) (r : Refresh) : (s.setRefresh r).pending = s.pending := rfl
@[simp] theorem State.setRefresh_now (s : State) (r : Refresh) : (s.setRefresh r).now = s.now := rfl
@[simp] theorem State.setRefresh_resetAsserted (s : State) (r : Refresh) : (s.setRefresh r).resetAsserted = s.resetAsserted := rfl
@[simp] theorem State.setRefresh_control (s : State) (r : Refresh) : (s.setRefresh r).control = s.control := rfl
@[simp] theorem State.setRefresh_entries (s : State) (r : Refresh) : (s.setRefresh r).entries = s.entries := rfl
@[simp] theorem State.setRefresh_commitQueue (s : State) (r : Refresh) : (s.setRefresh r).commitQueue = s.commitQueue := rfl
@[simp] theorem State.setRefresh_engine (s : State) (r : Refresh) : (s.setRefresh r).engine = s.engine := rfl
@[simp] theorem State.setRefresh_link (s : State) (r : Refresh) : (s.setRefresh r).link = s.link := rfl
@[simp] theorem State.setRefresh_array (s : State) (r : Refresh) : (s.setRefresh r).array = s.array := rfl
@[simp] theorem State.setRefresh_dtt (s : State) (r : Refresh) : (s.setRefresh r).dtt = s.dtt := rfl
@[simp] theorem State.setRefresh_syncRecord (s : State) (r : Refresh) : (s.setRefresh r).syncRecord = s.syncRecord := rfl
@[simp] theorem State.setRefresh_regions (s : State) (r : Refresh) : (s.setRefresh r).regions = s.regions := rfl
@[simp] theorem State.setRefresh_refresh (s : State) (r : Refresh) : (s.setRefresh r).refresh = r := rfl
@[simp] theorem State.setRefresh_params (s : State) (r : Refresh) : (s.setRefresh r).params = s.params := rfl
@[simp] theorem State.setRefresh_shadow (s : State) (r : Refresh) : (s.setRefresh r).shadow = s.shadow := rfl
@[simp] theorem State.setRefresh_sequencer (s : State) (r : Refresh) : (s.setRefresh r).sequencer = s.sequencer := rfl
@[simp] theorem State.setRefresh_command (s : State) (r : Refresh) : (s.setRefresh r).command = s.command := rfl
@[simp] theorem State.setRefresh_events (s : State) (r : Refresh) : (s.setRefresh r).events = s.events := rfl
@[simp] theorem State.setRefresh_counters (s : State) (r : Refresh) : (s.setRefresh r).counters = s.counters := rfl
@[simp] theorem State.setRefresh_port (s : State) (r : Refresh) : (s.setRefresh r).port = s.port := rfl
@[simp] theorem State.setRefresh_response (s : State) (r : Refresh) : (s.setRefresh r).response = s.response := rfl
@[simp] theorem State.setRefresh_freeIndex (s : State) (r : Refresh) : (s.setRefresh r).freeIndex = s.freeIndex := rfl

/-! ### State.setSync -/

@[simp] theorem State.setSync_pending (s : State) (r : SyncRecord) : (s.setSync r).pending = s.pending := rfl
@[simp] theorem State.setSync_now (s : State) (r : SyncRecord) : (s.setSync r).now = s.now := rfl
@[simp] theorem State.setSync_resetAsserted (s : State) (r : SyncRecord) : (s.setSync r).resetAsserted = s.resetAsserted := rfl
@[simp] theorem State.setSync_control (s : State) (r : SyncRecord) : (s.setSync r).control = s.control := rfl
@[simp] theorem State.setSync_entries (s : State) (r : SyncRecord) : (s.setSync r).entries = s.entries := rfl
@[simp] theorem State.setSync_commitQueue (s : State) (r : SyncRecord) : (s.setSync r).commitQueue = s.commitQueue := rfl
@[simp] theorem State.setSync_engine (s : State) (r : SyncRecord) : (s.setSync r).engine = s.engine := rfl
@[simp] theorem State.setSync_link (s : State) (r : SyncRecord) : (s.setSync r).link = s.link := rfl
@[simp] theorem State.setSync_array (s : State) (r : SyncRecord) : (s.setSync r).array = s.array := rfl
@[simp] theorem State.setSync_dtt (s : State) (r : SyncRecord) : (s.setSync r).dtt = s.dtt := rfl
@[simp] theorem State.setSync_syncRecord (s : State) (r : SyncRecord) : (s.setSync r).syncRecord = r := rfl
@[simp] theorem State.setSync_regions (s : State) (r : SyncRecord) : (s.setSync r).regions = s.regions := rfl
@[simp] theorem State.setSync_refresh (s : State) (r : SyncRecord) : (s.setSync r).refresh = s.refresh := rfl
@[simp] theorem State.setSync_params (s : State) (r : SyncRecord) : (s.setSync r).params = s.params := rfl
@[simp] theorem State.setSync_shadow (s : State) (r : SyncRecord) : (s.setSync r).shadow = s.shadow := rfl
@[simp] theorem State.setSync_sequencer (s : State) (r : SyncRecord) : (s.setSync r).sequencer = s.sequencer := rfl
@[simp] theorem State.setSync_command (s : State) (r : SyncRecord) : (s.setSync r).command = s.command := rfl
@[simp] theorem State.setSync_events (s : State) (r : SyncRecord) : (s.setSync r).events = s.events := rfl
@[simp] theorem State.setSync_counters (s : State) (r : SyncRecord) : (s.setSync r).counters = s.counters := rfl
@[simp] theorem State.setSync_port (s : State) (r : SyncRecord) : (s.setSync r).port = s.port := rfl
@[simp] theorem State.setSync_response (s : State) (r : SyncRecord) : (s.setSync r).response = s.response := rfl
@[simp] theorem State.setSync_freeIndex (s : State) (r : SyncRecord) : (s.setSync r).freeIndex = s.freeIndex := rfl

/-! ### State.setQueue -/

@[simp] theorem State.setQueue_pending (s : State) (q : List Slot) : (s.setQueue q).pending = s.pending := rfl
@[simp] theorem State.setQueue_now (s : State) (q : List Slot) : (s.setQueue q).now = s.now := rfl
@[simp] theorem State.setQueue_resetAsserted (s : State) (q : List Slot) : (s.setQueue q).resetAsserted = s.resetAsserted := rfl
@[simp] theorem State.setQueue_control (s : State) (q : List Slot) : (s.setQueue q).control = s.control := rfl
@[simp] theorem State.setQueue_entries (s : State) (q : List Slot) : (s.setQueue q).entries = s.entries := rfl
@[simp] theorem State.setQueue_commitQueue (s : State) (q : List Slot) : (s.setQueue q).commitQueue = q := rfl
@[simp] theorem State.setQueue_engine (s : State) (q : List Slot) : (s.setQueue q).engine = s.engine := rfl
@[simp] theorem State.setQueue_link (s : State) (q : List Slot) : (s.setQueue q).link = s.link := rfl
@[simp] theorem State.setQueue_array (s : State) (q : List Slot) : (s.setQueue q).array = s.array := rfl
@[simp] theorem State.setQueue_dtt (s : State) (q : List Slot) : (s.setQueue q).dtt = s.dtt := rfl
@[simp] theorem State.setQueue_syncRecord (s : State) (q : List Slot) : (s.setQueue q).syncRecord = s.syncRecord := rfl
@[simp] theorem State.setQueue_regions (s : State) (q : List Slot) : (s.setQueue q).regions = s.regions := rfl
@[simp] theorem State.setQueue_refresh (s : State) (q : List Slot) : (s.setQueue q).refresh = s.refresh := rfl
@[simp] theorem State.setQueue_params (s : State) (q : List Slot) : (s.setQueue q).params = s.params := rfl
@[simp] theorem State.setQueue_shadow (s : State) (q : List Slot) : (s.setQueue q).shadow = s.shadow := rfl
@[simp] theorem State.setQueue_sequencer (s : State) (q : List Slot) : (s.setQueue q).sequencer = s.sequencer := rfl
@[simp] theorem State.setQueue_command (s : State) (q : List Slot) : (s.setQueue q).command = s.command := rfl
@[simp] theorem State.setQueue_events (s : State) (q : List Slot) : (s.setQueue q).events = s.events := rfl
@[simp] theorem State.setQueue_counters (s : State) (q : List Slot) : (s.setQueue q).counters = s.counters := rfl
@[simp] theorem State.setQueue_port (s : State) (q : List Slot) : (s.setQueue q).port = s.port := rfl
@[simp] theorem State.setQueue_response (s : State) (q : List Slot) : (s.setQueue q).response = s.response := rfl
@[simp] theorem State.setQueue_freeIndex (s : State) (q : List Slot) : (s.setQueue q).freeIndex = s.freeIndex := rfl

/-! ### State.respond -/

@[simp] theorem State.respond_pending (s : State) (r : Response) : (s.respond r).pending = s.pending := rfl
@[simp] theorem State.respond_now (s : State) (r : Response) : (s.respond r).now = s.now := rfl
@[simp] theorem State.respond_resetAsserted (s : State) (r : Response) : (s.respond r).resetAsserted = s.resetAsserted := rfl
@[simp] theorem State.respond_control (s : State) (r : Response) : (s.respond r).control = s.control := rfl
@[simp] theorem State.respond_entries (s : State) (r : Response) : (s.respond r).entries = s.entries := rfl
@[simp] theorem State.respond_commitQueue (s : State) (r : Response) : (s.respond r).commitQueue = s.commitQueue := rfl
@[simp] theorem State.respond_engine (s : State) (r : Response) : (s.respond r).engine = s.engine := rfl
@[simp] theorem State.respond_link (s : State) (r : Response) : (s.respond r).link = s.link := rfl
@[simp] theorem State.respond_array (s : State) (r : Response) : (s.respond r).array = s.array := rfl
@[simp] theorem State.respond_dtt (s : State) (r : Response) : (s.respond r).dtt = s.dtt := rfl
@[simp] theorem State.respond_syncRecord (s : State) (r : Response) : (s.respond r).syncRecord = s.syncRecord := rfl
@[simp] theorem State.respond_regions (s : State) (r : Response) : (s.respond r).regions = s.regions := rfl
@[simp] theorem State.respond_refresh (s : State) (r : Response) : (s.respond r).refresh = s.refresh := rfl
@[simp] theorem State.respond_params (s : State) (r : Response) : (s.respond r).params = s.params := rfl
@[simp] theorem State.respond_shadow (s : State) (r : Response) : (s.respond r).shadow = s.shadow := rfl
@[simp] theorem State.respond_sequencer (s : State) (r : Response) : (s.respond r).sequencer = s.sequencer := rfl
@[simp] theorem State.respond_command (s : State) (r : Response) : (s.respond r).command = s.command := rfl
@[simp] theorem State.respond_events (s : State) (r : Response) : (s.respond r).events = s.events := rfl
@[simp] theorem State.respond_counters (s : State) (r : Response) : (s.respond r).counters = s.counters := rfl
@[simp] theorem State.respond_port (s : State) (r : Response) : (s.respond r).port = s.port := rfl
@[simp] theorem State.respond_response (s : State) (r : Response) : (s.respond r).response = some r := rfl
@[simp] theorem State.respond_freeIndex (s : State) (r : Response) : (s.respond r).freeIndex = s.freeIndex := rfl

/-! ### State.appendEvent -/

@[simp] theorem State.appendEvent_pending (s : State) (ev : Event) (p : Option Nat) (sl : Option Slot) (rq : Option Requester) : (s.appendEvent ev p sl rq).pending = s.pending := rfl
@[simp] theorem State.appendEvent_now (s : State) (ev : Event) (p : Option Nat) (sl : Option Slot) (rq : Option Requester) : (s.appendEvent ev p sl rq).now = s.now := rfl
@[simp] theorem State.appendEvent_resetAsserted (s : State) (ev : Event) (p : Option Nat) (sl : Option Slot) (rq : Option Requester) : (s.appendEvent ev p sl rq).resetAsserted = s.resetAsserted := rfl
@[simp] theorem State.appendEvent_control (s : State) (ev : Event) (p : Option Nat) (sl : Option Slot) (rq : Option Requester) : (s.appendEvent ev p sl rq).control = s.control := rfl
@[simp] theorem State.appendEvent_entries (s : State) (ev : Event) (p : Option Nat) (sl : Option Slot) (rq : Option Requester) : (s.appendEvent ev p sl rq).entries = s.entries := rfl
@[simp] theorem State.appendEvent_commitQueue (s : State) (ev : Event) (p : Option Nat) (sl : Option Slot) (rq : Option Requester) : (s.appendEvent ev p sl rq).commitQueue = s.commitQueue := rfl
@[simp] theorem State.appendEvent_engine (s : State) (ev : Event) (p : Option Nat) (sl : Option Slot) (rq : Option Requester) : (s.appendEvent ev p sl rq).engine = s.engine := rfl
@[simp] theorem State.appendEvent_link (s : State) (ev : Event) (p : Option Nat) (sl : Option Slot) (rq : Option Requester) : (s.appendEvent ev p sl rq).link = s.link := rfl
@[simp] theorem State.appendEvent_array (s : State) (ev : Event) (p : Option Nat) (sl : Option Slot) (rq : Option Requester) : (s.appendEvent ev p sl rq).array = s.array := rfl
@[simp] theorem State.appendEvent_dtt (s : State) (ev : Event) (p : Option Nat) (sl : Option Slot) (rq : Option Requester) : (s.appendEvent ev p sl rq).dtt = s.dtt := rfl
@[simp] theorem State.appendEvent_syncRecord (s : State) (ev : Event) (p : Option Nat) (sl : Option Slot) (rq : Option Requester) : (s.appendEvent ev p sl rq).syncRecord = s.syncRecord := rfl
@[simp] theorem State.appendEvent_regions (s : State) (ev : Event) (p : Option Nat) (sl : Option Slot) (rq : Option Requester) : (s.appendEvent ev p sl rq).regions = s.regions := rfl
@[simp] theorem State.appendEvent_refresh (s : State) (ev : Event) (p : Option Nat) (sl : Option Slot) (rq : Option Requester) : (s.appendEvent ev p sl rq).refresh = s.refresh := rfl
@[simp] theorem State.appendEvent_params (s : State) (ev : Event) (p : Option Nat) (sl : Option Slot) (rq : Option Requester) : (s.appendEvent ev p sl rq).params = s.params := rfl
@[simp] theorem State.appendEvent_shadow (s : State) (ev : Event) (p : Option Nat) (sl : Option Slot) (rq : Option Requester) : (s.appendEvent ev p sl rq).shadow = s.shadow := rfl
@[simp] theorem State.appendEvent_sequencer (s : State) (ev : Event) (p : Option Nat) (sl : Option Slot) (rq : Option Requester) : (s.appendEvent ev p sl rq).sequencer = s.sequencer := rfl
@[simp] theorem State.appendEvent_command (s : State) (ev : Event) (p : Option Nat) (sl : Option Slot) (rq : Option Requester) : (s.appendEvent ev p sl rq).command = s.command := rfl
@[simp] theorem State.appendEvent_events (s : State) (ev : Event) (p : Option Nat) (sl : Option Slot) (rq : Option Requester) : (s.appendEvent ev p sl rq).events = s.events.append ev p sl rq := rfl
@[simp] theorem State.appendEvent_counters (s : State) (ev : Event) (p : Option Nat) (sl : Option Slot) (rq : Option Requester) : (s.appendEvent ev p sl rq).counters = s.counters := rfl
@[simp] theorem State.appendEvent_port (s : State) (ev : Event) (p : Option Nat) (sl : Option Slot) (rq : Option Requester) : (s.appendEvent ev p sl rq).port = s.port := rfl
@[simp] theorem State.appendEvent_response (s : State) (ev : Event) (p : Option Nat) (sl : Option Slot) (rq : Option Requester) : (s.appendEvent ev p sl rq).response = s.response := rfl
@[simp] theorem State.appendEvent_freeIndex (s : State) (ev : Event) (p : Option Nat) (sl : Option Slot) (rq : Option Requester) : (s.appendEvent ev p sl rq).freeIndex = s.freeIndex := rfl

/-! ### State.setPage -/

@[simp] theorem State.setPage_pending (s : State) (p : Nat) (c : PageContent) : (s.setPage p c).pending = s.pending := rfl
@[simp] theorem State.setPage_now (s : State) (p : Nat) (c : PageContent) : (s.setPage p c).now = s.now := rfl
@[simp] theorem State.setPage_resetAsserted (s : State) (p : Nat) (c : PageContent) : (s.setPage p c).resetAsserted = s.resetAsserted := rfl
@[simp] theorem State.setPage_control (s : State) (p : Nat) (c : PageContent) : (s.setPage p c).control = s.control := rfl
@[simp] theorem State.setPage_entries (s : State) (p : Nat) (c : PageContent) : (s.setPage p c).entries = s.entries := rfl
@[simp] theorem State.setPage_commitQueue (s : State) (p : Nat) (c : PageContent) : (s.setPage p c).commitQueue = s.commitQueue := rfl
@[simp] theorem State.setPage_engine (s : State) (p : Nat) (c : PageContent) : (s.setPage p c).engine = s.engine := rfl
@[simp] theorem State.setPage_link (s : State) (p : Nat) (c : PageContent) : (s.setPage p c).link = s.link := rfl
@[simp] theorem State.setPage_array (s : State) (p : Nat) (c : PageContent) : (s.setPage p c).array = insertPage p c s.array := rfl
@[simp] theorem State.setPage_dtt (s : State) (p : Nat) (c : PageContent) : (s.setPage p c).dtt = s.dtt := rfl
@[simp] theorem State.setPage_syncRecord (s : State) (p : Nat) (c : PageContent) : (s.setPage p c).syncRecord = s.syncRecord := rfl
@[simp] theorem State.setPage_regions (s : State) (p : Nat) (c : PageContent) : (s.setPage p c).regions = s.regions := rfl
@[simp] theorem State.setPage_refresh (s : State) (p : Nat) (c : PageContent) : (s.setPage p c).refresh = s.refresh := rfl
@[simp] theorem State.setPage_params (s : State) (p : Nat) (c : PageContent) : (s.setPage p c).params = s.params := rfl
@[simp] theorem State.setPage_shadow (s : State) (p : Nat) (c : PageContent) : (s.setPage p c).shadow = s.shadow := rfl
@[simp] theorem State.setPage_sequencer (s : State) (p : Nat) (c : PageContent) : (s.setPage p c).sequencer = s.sequencer := rfl
@[simp] theorem State.setPage_command (s : State) (p : Nat) (c : PageContent) : (s.setPage p c).command = s.command := rfl
@[simp] theorem State.setPage_events (s : State) (p : Nat) (c : PageContent) : (s.setPage p c).events = s.events := rfl
@[simp] theorem State.setPage_counters (s : State) (p : Nat) (c : PageContent) : (s.setPage p c).counters = s.counters := rfl
@[simp] theorem State.setPage_port (s : State) (p : Nat) (c : PageContent) : (s.setPage p c).port = s.port := rfl
@[simp] theorem State.setPage_response (s : State) (p : Nat) (c : PageContent) : (s.setPage p c).response = s.response := rfl
@[simp] theorem State.setPage_freeIndex (s : State) (p : Nat) (c : PageContent) : (s.setPage p c).freeIndex = s.freeIndex := rfl

/-! ### State.spendFree -/

@[simp] theorem State.spendFree_pending (s : State) : (s.spendFree).pending = s.pending := rfl
@[simp] theorem State.spendFree_now (s : State) : (s.spendFree).now = s.now := rfl
@[simp] theorem State.spendFree_resetAsserted (s : State) : (s.spendFree).resetAsserted = s.resetAsserted := rfl
@[simp] theorem State.spendFree_control (s : State) : (s.spendFree).control = s.control := rfl
@[simp] theorem State.spendFree_entries (s : State) : (s.spendFree).entries = s.entries := rfl
@[simp] theorem State.spendFree_commitQueue (s : State) : (s.spendFree).commitQueue = s.commitQueue := rfl
@[simp] theorem State.spendFree_engine (s : State) : (s.spendFree).engine = s.engine := rfl
@[simp] theorem State.spendFree_link (s : State) : (s.spendFree).link = s.link := rfl
@[simp] theorem State.spendFree_array (s : State) : (s.spendFree).array = s.array := rfl
@[simp] theorem State.spendFree_dtt (s : State) : (s.spendFree).dtt = s.dtt := rfl
@[simp] theorem State.spendFree_syncRecord (s : State) : (s.spendFree).syncRecord = s.syncRecord := rfl
@[simp] theorem State.spendFree_regions (s : State) : (s.spendFree).regions = s.regions := rfl
@[simp] theorem State.spendFree_refresh (s : State) : (s.spendFree).refresh = s.refresh := rfl
@[simp] theorem State.spendFree_params (s : State) : (s.spendFree).params = s.params := rfl
@[simp] theorem State.spendFree_shadow (s : State) : (s.spendFree).shadow = s.shadow := rfl
@[simp] theorem State.spendFree_sequencer (s : State) : (s.spendFree).sequencer = s.sequencer := rfl
@[simp] theorem State.spendFree_command (s : State) : (s.spendFree).command = s.command := rfl
@[simp] theorem State.spendFree_events (s : State) : (s.spendFree).events = s.events := rfl
@[simp] theorem State.spendFree_counters (s : State) : (s.spendFree).counters = s.counters := rfl
@[simp] theorem State.spendFree_port (s : State) : (s.spendFree).port = s.port := rfl
@[simp] theorem State.spendFree_response (s : State) : (s.spendFree).response = s.response := rfl
@[simp] theorem State.spendFree_freeIndex (s : State) : (s.spendFree).freeIndex = s.freeIndex + 1 := rfl

/-! ### State.setParams -/

@[simp] theorem State.setParams_pending (s : State) (p : Params) : (s.setParams p).pending = s.pending := rfl
@[simp] theorem State.setParams_now (s : State) (p : Params) : (s.setParams p).now = s.now := rfl
@[simp] theorem State.setParams_resetAsserted (s : State) (p : Params) : (s.setParams p).resetAsserted = s.resetAsserted := rfl
@[simp] theorem State.setParams_control (s : State) (p : Params) : (s.setParams p).control = s.control := rfl
@[simp] theorem State.setParams_entries (s : State) (p : Params) : (s.setParams p).entries = s.entries := rfl
@[simp] theorem State.setParams_commitQueue (s : State) (p : Params) : (s.setParams p).commitQueue = s.commitQueue := rfl
@[simp] theorem State.setParams_engine (s : State) (p : Params) : (s.setParams p).engine = s.engine := rfl
@[simp] theorem State.setParams_link (s : State) (p : Params) : (s.setParams p).link = s.link := rfl
@[simp] theorem State.setParams_array (s : State) (p : Params) : (s.setParams p).array = s.array := rfl
@[simp] theorem State.setParams_dtt (s : State) (p : Params) : (s.setParams p).dtt = s.dtt := rfl
@[simp] theorem State.setParams_syncRecord (s : State) (p : Params) : (s.setParams p).syncRecord = s.syncRecord := rfl
@[simp] theorem State.setParams_regions (s : State) (p : Params) : (s.setParams p).regions = s.regions := rfl
@[simp] theorem State.setParams_refresh (s : State) (p : Params) : (s.setParams p).refresh = s.refresh := rfl
@[simp] theorem State.setParams_params (s : State) (p : Params) : (s.setParams p).params = p := rfl
@[simp] theorem State.setParams_shadow (s : State) (p : Params) : (s.setParams p).shadow = s.shadow := rfl
@[simp] theorem State.setParams_sequencer (s : State) (p : Params) : (s.setParams p).sequencer = s.sequencer := rfl
@[simp] theorem State.setParams_command (s : State) (p : Params) : (s.setParams p).command = s.command := rfl
@[simp] theorem State.setParams_events (s : State) (p : Params) : (s.setParams p).events = s.events := rfl
@[simp] theorem State.setParams_counters (s : State) (p : Params) : (s.setParams p).counters = s.counters := rfl
@[simp] theorem State.setParams_port (s : State) (p : Params) : (s.setParams p).port = s.port := rfl
@[simp] theorem State.setParams_response (s : State) (p : Params) : (s.setParams p).response = s.response := rfl
@[simp] theorem State.setParams_freeIndex (s : State) (p : Params) : (s.setParams p).freeIndex = s.freeIndex := rfl

/-! ### State.setShadow -/

@[simp] theorem State.setShadow_pending (s : State) (sh : Shadow) : (s.setShadow sh).pending = s.pending := rfl
@[simp] theorem State.setShadow_now (s : State) (sh : Shadow) : (s.setShadow sh).now = s.now := rfl
@[simp] theorem State.setShadow_resetAsserted (s : State) (sh : Shadow) : (s.setShadow sh).resetAsserted = s.resetAsserted := rfl
@[simp] theorem State.setShadow_control (s : State) (sh : Shadow) : (s.setShadow sh).control = s.control := rfl
@[simp] theorem State.setShadow_entries (s : State) (sh : Shadow) : (s.setShadow sh).entries = s.entries := rfl
@[simp] theorem State.setShadow_commitQueue (s : State) (sh : Shadow) : (s.setShadow sh).commitQueue = s.commitQueue := rfl
@[simp] theorem State.setShadow_engine (s : State) (sh : Shadow) : (s.setShadow sh).engine = s.engine := rfl
@[simp] theorem State.setShadow_link (s : State) (sh : Shadow) : (s.setShadow sh).link = s.link := rfl
@[simp] theorem State.setShadow_array (s : State) (sh : Shadow) : (s.setShadow sh).array = s.array := rfl
@[simp] theorem State.setShadow_dtt (s : State) (sh : Shadow) : (s.setShadow sh).dtt = s.dtt := rfl
@[simp] theorem State.setShadow_syncRecord (s : State) (sh : Shadow) : (s.setShadow sh).syncRecord = s.syncRecord := rfl
@[simp] theorem State.setShadow_regions (s : State) (sh : Shadow) : (s.setShadow sh).regions = s.regions := rfl
@[simp] theorem State.setShadow_refresh (s : State) (sh : Shadow) : (s.setShadow sh).refresh = s.refresh := rfl
@[simp] theorem State.setShadow_params (s : State) (sh : Shadow) : (s.setShadow sh).params = s.params := rfl
@[simp] theorem State.setShadow_shadow (s : State) (sh : Shadow) : (s.setShadow sh).shadow = sh := rfl
@[simp] theorem State.setShadow_sequencer (s : State) (sh : Shadow) : (s.setShadow sh).sequencer = s.sequencer := rfl
@[simp] theorem State.setShadow_command (s : State) (sh : Shadow) : (s.setShadow sh).command = s.command := rfl
@[simp] theorem State.setShadow_events (s : State) (sh : Shadow) : (s.setShadow sh).events = s.events := rfl
@[simp] theorem State.setShadow_counters (s : State) (sh : Shadow) : (s.setShadow sh).counters = s.counters := rfl
@[simp] theorem State.setShadow_port (s : State) (sh : Shadow) : (s.setShadow sh).port = s.port := rfl
@[simp] theorem State.setShadow_response (s : State) (sh : Shadow) : (s.setShadow sh).response = s.response := rfl
@[simp] theorem State.setShadow_freeIndex (s : State) (sh : Shadow) : (s.setShadow sh).freeIndex = s.freeIndex := rfl

end Sys2Proof.Machine
end

