-- ==== Sys2Proof/Laws/Frames.lean ====
section
/-! SUPPORT. For each operation of the blocks, the fields of the state that it leaves as they are, in one lemma each. As a simp lemma it gives
one rewriting for each of those fields. -/

namespace Sys2Proof.Machine

/-! ### The staging table -/

@[simp] theorem State.sealSlot_frame (s : State) (i : Slot) :
    (s.sealSlot i).pending = s.pending ∧ (s.sealSlot i).now = s.now ∧ (s.sealSlot i).resetAsserted = s.resetAsserted ∧
    (s.sealSlot i).control = s.control ∧ (s.sealSlot i).engine = s.engine ∧ (s.sealSlot i).link = s.link ∧
    (s.sealSlot i).array = s.array ∧ (s.sealSlot i).dtt = s.dtt ∧ (s.sealSlot i).syncRecord = s.syncRecord ∧
    (s.sealSlot i).regions = s.regions ∧ (s.sealSlot i).refresh = s.refresh ∧ (s.sealSlot i).params = s.params ∧
    (s.sealSlot i).shadow = s.shadow ∧ (s.sealSlot i).sequencer = s.sequencer ∧ (s.sealSlot i).command = s.command ∧
    (s.sealSlot i).events = s.events ∧ (s.sealSlot i).counters = s.counters ∧ (s.sealSlot i).port = s.port ∧
    (s.sealSlot i).response = s.response ∧ (s.sealSlot i).freeIndex = s.freeIndex := by unfold State.sealSlot; split <;> simp

@[simp] theorem State.sealSlots_frame (s : State) (l : List Slot) :
    (s.sealSlots l).pending = s.pending ∧ (s.sealSlots l).now = s.now ∧ (s.sealSlots l).resetAsserted = s.resetAsserted ∧
    (s.sealSlots l).control = s.control ∧ (s.sealSlots l).engine = s.engine ∧ (s.sealSlots l).link = s.link ∧
    (s.sealSlots l).array = s.array ∧ (s.sealSlots l).dtt = s.dtt ∧ (s.sealSlots l).syncRecord = s.syncRecord ∧
    (s.sealSlots l).regions = s.regions ∧ (s.sealSlots l).refresh = s.refresh ∧ (s.sealSlots l).params = s.params ∧
    (s.sealSlots l).shadow = s.shadow ∧ (s.sealSlots l).sequencer = s.sequencer ∧ (s.sealSlots l).command = s.command ∧
    (s.sealSlots l).events = s.events ∧ (s.sealSlots l).counters = s.counters ∧ (s.sealSlots l).port = s.port ∧
    (s.sealSlots l).response = s.response ∧ (s.sealSlots l).freeIndex = s.freeIndex := by
  unfold State.sealSlots
  generalize sortSlots _ l = m
  induction m generalizing s with
  | nil => simp
  | cons i m ih => simpa using ih (s.sealSlot i)

@[simp] theorem State.freeEntry_frame (s : State) (i : Slot) :
    (s.freeEntry i).pending = s.pending ∧ (s.freeEntry i).now = s.now ∧ (s.freeEntry i).resetAsserted = s.resetAsserted ∧
    (s.freeEntry i).control = s.control ∧ (s.freeEntry i).commitQueue = s.commitQueue ∧ (s.freeEntry i).engine = s.engine ∧
    (s.freeEntry i).link = s.link ∧ (s.freeEntry i).array = s.array ∧ (s.freeEntry i).dtt = s.dtt ∧
    (s.freeEntry i).syncRecord = s.syncRecord ∧ (s.freeEntry i).regions = s.regions ∧ (s.freeEntry i).refresh = s.refresh ∧
    (s.freeEntry i).params = s.params ∧ (s.freeEntry i).shadow = s.shadow ∧ (s.freeEntry i).sequencer = s.sequencer ∧
    (s.freeEntry i).command = s.command ∧ (s.freeEntry i).events = s.events ∧ (s.freeEntry i).counters = s.counters ∧
    (s.freeEntry i).port = s.port ∧ (s.freeEntry i).response = s.response ∧ (s.freeEntry i).freeIndex = s.freeIndex := by simp [State.freeEntry]

@[simp] theorem State.allocRefresh_frame (s : State) (i : Slot) (page : Nat) :
    (s.allocRefresh i page).pending = s.pending ∧ (s.allocRefresh i page).now = s.now ∧
    (s.allocRefresh i page).resetAsserted = s.resetAsserted ∧ (s.allocRefresh i page).control = s.control ∧
    (s.allocRefresh i page).engine = s.engine ∧ (s.allocRefresh i page).link = s.link ∧
    (s.allocRefresh i page).array = s.array ∧ (s.allocRefresh i page).dtt = s.dtt ∧
    (s.allocRefresh i page).syncRecord = s.syncRecord ∧ (s.allocRefresh i page).regions = s.regions ∧
    (s.allocRefresh i page).refresh = s.refresh ∧ (s.allocRefresh i page).params = s.params ∧
    (s.allocRefresh i page).shadow = s.shadow ∧ (s.allocRefresh i page).sequencer = s.sequencer ∧
    (s.allocRefresh i page).command = s.command ∧ (s.allocRefresh i page).events = s.events ∧
    (s.allocRefresh i page).counters = s.counters ∧ (s.allocRefresh i page).port = s.port ∧
    (s.allocRefresh i page).response = s.response ∧ (s.allocRefresh i page).freeIndex = s.freeIndex := by simp [State.allocRefresh]

@[simp] theorem State.allocConfig_frame (s : State) (i : Slot) (page : Nat) (image : PageImage) :
    (s.allocConfig i page image).pending = s.pending ∧ (s.allocConfig i page image).now = s.now ∧
    (s.allocConfig i page image).resetAsserted = s.resetAsserted ∧ (s.allocConfig i page image).control = s.control ∧
    (s.allocConfig i page image).engine = s.engine ∧ (s.allocConfig i page image).link = s.link ∧
    (s.allocConfig i page image).array = s.array ∧ (s.allocConfig i page image).dtt = s.dtt ∧
    (s.allocConfig i page image).syncRecord = s.syncRecord ∧ (s.allocConfig i page image).regions = s.regions ∧
    (s.allocConfig i page image).refresh = s.refresh ∧ (s.allocConfig i page image).params = s.params ∧
    (s.allocConfig i page image).shadow = s.shadow ∧ (s.allocConfig i page image).sequencer = s.sequencer ∧
    (s.allocConfig i page image).command = s.command ∧ (s.allocConfig i page image).events = s.events ∧
    (s.allocConfig i page image).counters = s.counters ∧ (s.allocConfig i page image).port = s.port ∧
    (s.allocConfig i page image).response = s.response ∧ (s.allocConfig i page image).freeIndex = s.freeIndex := by simp [State.allocConfig]

@[simp] theorem State.absorbOpen_frame (s : State) (i : Slot) (off : Nat) (data : List Byte) (req : Requester) :
    (s.absorbOpen i off data req).pending = s.pending ∧ (s.absorbOpen i off data req).now = s.now ∧
    (s.absorbOpen i off data req).resetAsserted = s.resetAsserted ∧ (s.absorbOpen i off data req).control = s.control ∧
    (s.absorbOpen i off data req).engine = s.engine ∧ (s.absorbOpen i off data req).link = s.link ∧
    (s.absorbOpen i off data req).array = s.array ∧ (s.absorbOpen i off data req).dtt = s.dtt ∧
    (s.absorbOpen i off data req).syncRecord = s.syncRecord ∧ (s.absorbOpen i off data req).regions = s.regions ∧
    (s.absorbOpen i off data req).refresh = s.refresh ∧ (s.absorbOpen i off data req).params = s.params ∧
    (s.absorbOpen i off data req).shadow = s.shadow ∧ (s.absorbOpen i off data req).sequencer = s.sequencer ∧
    (s.absorbOpen i off data req).command = s.command ∧ (s.absorbOpen i off data req).events = s.events ∧
    (s.absorbOpen i off data req).counters = s.counters ∧ (s.absorbOpen i off data req).port = s.port ∧
    (s.absorbOpen i off data req).response = s.response ∧ (s.absorbOpen i off data req).freeIndex = s.freeIndex := by simp only [State.absorbOpen]; (repeat' split) <;> simp

@[simp] theorem State.absorbSealed_frame (s : State) (i : Slot) (off : Nat) (data : List Byte) (req : Requester) :
    (s.absorbSealed i off data req).pending = s.pending ∧ (s.absorbSealed i off data req).now = s.now ∧
    (s.absorbSealed i off data req).resetAsserted = s.resetAsserted ∧ (s.absorbSealed i off data req).control = s.control ∧
    (s.absorbSealed i off data req).commitQueue = s.commitQueue ∧ (s.absorbSealed i off data req).engine = s.engine ∧
    (s.absorbSealed i off data req).link = s.link ∧ (s.absorbSealed i off data req).array = s.array ∧
    (s.absorbSealed i off data req).dtt = s.dtt ∧ (s.absorbSealed i off data req).syncRecord = s.syncRecord ∧
    (s.absorbSealed i off data req).regions = s.regions ∧ (s.absorbSealed i off data req).refresh = s.refresh ∧
    (s.absorbSealed i off data req).params = s.params ∧ (s.absorbSealed i off data req).shadow = s.shadow ∧
    (s.absorbSealed i off data req).sequencer = s.sequencer ∧ (s.absorbSealed i off data req).command = s.command ∧
    (s.absorbSealed i off data req).events = s.events ∧ (s.absorbSealed i off data req).counters = s.counters ∧
    (s.absorbSealed i off data req).port = s.port ∧ (s.absorbSealed i off data req).response = s.response ∧
    (s.absorbSealed i off data req).freeIndex = s.freeIndex := by simp [State.absorbSealed]

@[simp] theorem State.allocHost_frame (s : State) (i : Slot) (page off : Nat) (data : List Byte) (req : Requester) :
    (s.allocHost i page off data req).pending = s.pending ∧ (s.allocHost i page off data req).now = s.now ∧
    (s.allocHost i page off data req).resetAsserted = s.resetAsserted ∧
    (s.allocHost i page off data req).control = s.control ∧ (s.allocHost i page off data req).engine = s.engine ∧
    (s.allocHost i page off data req).link = s.link ∧ (s.allocHost i page off data req).array = s.array ∧
    (s.allocHost i page off data req).dtt = s.dtt ∧ (s.allocHost i page off data req).syncRecord = s.syncRecord ∧
    (s.allocHost i page off data req).regions = s.regions ∧ (s.allocHost i page off data req).refresh = s.refresh ∧
    (s.allocHost i page off data req).params = s.params ∧ (s.allocHost i page off data req).shadow = s.shadow ∧
    (s.allocHost i page off data req).sequencer = s.sequencer ∧ (s.allocHost i page off data req).command = s.command ∧
    (s.allocHost i page off data req).events = s.events ∧ (s.allocHost i page off data req).counters = s.counters ∧
    (s.allocHost i page off data req).port = s.port ∧ (s.allocHost i page off data req).response = s.response ∧
    (s.allocHost i page off data req).freeIndex = s.freeIndex := by simp [State.allocHost]

@[simp] theorem State.stageWrite_frame (s : State) (page off : Nat) (data : List Byte) (req : Requester) :
    (s.stageWrite page off data req).2.pending = s.pending ∧ (s.stageWrite page off data req).2.now = s.now ∧
    (s.stageWrite page off data req).2.resetAsserted = s.resetAsserted ∧
    (s.stageWrite page off data req).2.control = s.control ∧ (s.stageWrite page off data req).2.engine = s.engine ∧
    (s.stageWrite page off data req).2.link = s.link ∧ (s.stageWrite page off data req).2.array = s.array ∧
    (s.stageWrite page off data req).2.dtt = s.dtt ∧ (s.stageWrite page off data req).2.syncRecord = s.syncRecord ∧
    (s.stageWrite page off data req).2.regions = s.regions ∧ (s.stageWrite page off data req).2.refresh = s.refresh ∧
    (s.stageWrite page off data req).2.params = s.params ∧ (s.stageWrite page off data req).2.shadow = s.shadow ∧
    (s.stageWrite page off data req).2.sequencer = s.sequencer ∧ (s.stageWrite page off data req).2.command = s.command ∧
    (s.stageWrite page off data req).2.events = s.events ∧ (s.stageWrite page off data req).2.counters = s.counters ∧
    (s.stageWrite page off data req).2.port = s.port ∧ (s.stageWrite page off data req).2.response = s.response ∧
    (s.stageWrite page off data req).2.freeIndex = s.freeIndex := by unfold State.stageWrite; (repeat' split) <;> simp

@[simp] theorem State.takeSlot_frame (s : State) (i : Slot) :
    (s.takeSlot i).pending = s.pending ∧ (s.takeSlot i).now = s.now ∧ (s.takeSlot i).resetAsserted = s.resetAsserted ∧
    (s.takeSlot i).control = s.control ∧ (s.takeSlot i).engine = s.engine ∧ (s.takeSlot i).link = s.link ∧
    (s.takeSlot i).array = s.array ∧ (s.takeSlot i).dtt = s.dtt ∧ (s.takeSlot i).syncRecord = s.syncRecord ∧
    (s.takeSlot i).regions = s.regions ∧ (s.takeSlot i).refresh = s.refresh ∧ (s.takeSlot i).params = s.params ∧
    (s.takeSlot i).shadow = s.shadow ∧ (s.takeSlot i).sequencer = s.sequencer ∧ (s.takeSlot i).command = s.command ∧
    (s.takeSlot i).events = s.events ∧ (s.takeSlot i).counters = s.counters ∧ (s.takeSlot i).port = s.port ∧
    (s.takeSlot i).response = s.response ∧ (s.takeSlot i).freeIndex = s.freeIndex := by simp [State.takeSlot]

@[simp] theorem State.absorbFailed_frame (s : State) (i j : Slot) :
    (s.absorbFailed i j).pending = s.pending ∧ (s.absorbFailed i j).now = s.now ∧
    (s.absorbFailed i j).resetAsserted = s.resetAsserted ∧ (s.absorbFailed i j).control = s.control ∧
    (s.absorbFailed i j).commitQueue = s.commitQueue ∧ (s.absorbFailed i j).engine = s.engine ∧
    (s.absorbFailed i j).link = s.link ∧ (s.absorbFailed i j).array = s.array ∧ (s.absorbFailed i j).dtt = s.dtt ∧
    (s.absorbFailed i j).syncRecord = s.syncRecord ∧ (s.absorbFailed i j).regions = s.regions ∧
    (s.absorbFailed i j).refresh = s.refresh ∧ (s.absorbFailed i j).params = s.params ∧
    (s.absorbFailed i j).shadow = s.shadow ∧ (s.absorbFailed i j).sequencer = s.sequencer ∧
    (s.absorbFailed i j).command = s.command ∧ (s.absorbFailed i j).events = s.events ∧
    (s.absorbFailed i j).counters = s.counters ∧ (s.absorbFailed i j).port = s.port ∧
    (s.absorbFailed i j).response = s.response ∧ (s.absorbFailed i j).freeIndex = s.freeIndex := by simp [State.absorbFailed]

@[simp] theorem State.failEntry_frame (s : State) (i : Slot) :
    (s.failEntry i).pending = s.pending ∧ (s.failEntry i).now = s.now ∧ (s.failEntry i).resetAsserted = s.resetAsserted ∧
    (s.failEntry i).control = s.control ∧ (s.failEntry i).commitQueue = s.commitQueue ∧ (s.failEntry i).engine = s.engine ∧
    (s.failEntry i).link = s.link ∧ (s.failEntry i).array = s.array ∧ (s.failEntry i).dtt = s.dtt ∧
    (s.failEntry i).syncRecord = s.syncRecord ∧ (s.failEntry i).regions = s.regions ∧ (s.failEntry i).refresh = s.refresh ∧
    (s.failEntry i).params = s.params ∧ (s.failEntry i).shadow = s.shadow ∧ (s.failEntry i).sequencer = s.sequencer ∧
    (s.failEntry i).command = s.command ∧ (s.failEntry i).events = s.events ∧ (s.failEntry i).counters = s.counters ∧
    (s.failEntry i).port = s.port ∧ (s.failEntry i).response = s.response ∧ (s.failEntry i).freeIndex = s.freeIndex := by simp [State.failEntry]

@[simp] theorem State.stopOpenTimers_frame (s : State) :
    (s.stopOpenTimers).pending = s.pending ∧ (s.stopOpenTimers).now = s.now ∧
    (s.stopOpenTimers).resetAsserted = s.resetAsserted ∧ (s.stopOpenTimers).control = s.control ∧
    (s.stopOpenTimers).commitQueue = s.commitQueue ∧ (s.stopOpenTimers).engine = s.engine ∧
    (s.stopOpenTimers).link = s.link ∧ (s.stopOpenTimers).array = s.array ∧ (s.stopOpenTimers).dtt = s.dtt ∧
    (s.stopOpenTimers).syncRecord = s.syncRecord ∧ (s.stopOpenTimers).regions = s.regions ∧
    (s.stopOpenTimers).refresh = s.refresh ∧ (s.stopOpenTimers).params = s.params ∧ (s.stopOpenTimers).shadow = s.shadow ∧
    (s.stopOpenTimers).sequencer = s.sequencer ∧ (s.stopOpenTimers).command = s.command ∧
    (s.stopOpenTimers).events = s.events ∧ (s.stopOpenTimers).counters = s.counters ∧ (s.stopOpenTimers).port = s.port ∧
    (s.stopOpenTimers).response = s.response ∧ (s.stopOpenTimers).freeIndex = s.freeIndex := by simp [State.stopOpenTimers]

/-! ### The delayed transaction table -/

@[simp] theorem State.freeDtt_frame (s : State) (i : DttIndex) :
    (s.freeDtt i).pending = s.pending ∧ (s.freeDtt i).now = s.now ∧ (s.freeDtt i).resetAsserted = s.resetAsserted ∧
    (s.freeDtt i).control = s.control ∧ (s.freeDtt i).entries = s.entries ∧ (s.freeDtt i).commitQueue = s.commitQueue ∧
    (s.freeDtt i).engine = s.engine ∧ (s.freeDtt i).link = s.link ∧ (s.freeDtt i).array = s.array ∧
    (s.freeDtt i).syncRecord = s.syncRecord ∧ (s.freeDtt i).regions = s.regions ∧ (s.freeDtt i).refresh = s.refresh ∧
    (s.freeDtt i).params = s.params ∧ (s.freeDtt i).shadow = s.shadow ∧ (s.freeDtt i).sequencer = s.sequencer ∧
    (s.freeDtt i).command = s.command ∧ (s.freeDtt i).events = s.events ∧ (s.freeDtt i).counters = s.counters ∧
    (s.freeDtt i).port = s.port ∧ (s.freeDtt i).response = s.response ∧ (s.freeDtt i).freeIndex = s.freeIndex := by simp [State.freeDtt]

@[simp] theorem State.answerMatch_frame (s : State) (i : DttIndex) :
    (s.answerMatch i).pending = s.pending ∧ (s.answerMatch i).now = s.now ∧
    (s.answerMatch i).resetAsserted = s.resetAsserted ∧ (s.answerMatch i).control = s.control ∧
    (s.answerMatch i).entries = s.entries ∧ (s.answerMatch i).commitQueue = s.commitQueue ∧
    (s.answerMatch i).engine = s.engine ∧ (s.answerMatch i).link = s.link ∧ (s.answerMatch i).array = s.array ∧
    (s.answerMatch i).syncRecord = s.syncRecord ∧ (s.answerMatch i).regions = s.regions ∧
    (s.answerMatch i).refresh = s.refresh ∧ (s.answerMatch i).params = s.params ∧ (s.answerMatch i).shadow = s.shadow ∧
    (s.answerMatch i).sequencer = s.sequencer ∧ (s.answerMatch i).command = s.command ∧
    (s.answerMatch i).events = s.events ∧ (s.answerMatch i).counters = s.counters ∧ (s.answerMatch i).port = s.port ∧
    (s.answerMatch i).freeIndex = s.freeIndex := by unfold State.answerMatch; split <;> simp

@[simp] theorem State.refuseReissue_frame (s : State) (req : Requester) (addr len : Nat) :
    (s.refuseReissue req addr len).pending = s.pending ∧ (s.refuseReissue req addr len).now = s.now ∧
    (s.refuseReissue req addr len).resetAsserted = s.resetAsserted ∧ (s.refuseReissue req addr len).control = s.control ∧
    (s.refuseReissue req addr len).entries = s.entries ∧ (s.refuseReissue req addr len).commitQueue = s.commitQueue ∧
    (s.refuseReissue req addr len).engine = s.engine ∧ (s.refuseReissue req addr len).link = s.link ∧
    (s.refuseReissue req addr len).array = s.array ∧ (s.refuseReissue req addr len).syncRecord = s.syncRecord ∧
    (s.refuseReissue req addr len).regions = s.regions ∧ (s.refuseReissue req addr len).refresh = s.refresh ∧
    (s.refuseReissue req addr len).params = s.params ∧ (s.refuseReissue req addr len).shadow = s.shadow ∧
    (s.refuseReissue req addr len).sequencer = s.sequencer ∧ (s.refuseReissue req addr len).command = s.command ∧
    (s.refuseReissue req addr len).events = s.events ∧ (s.refuseReissue req addr len).counters = s.counters ∧
    (s.refuseReissue req addr len).port = s.port ∧ (s.refuseReissue req addr len).response = s.response ∧
    (s.refuseReissue req addr len).freeIndex = s.freeIndex := by simp only [State.refuseReissue]; (repeat' split) <;> simp

@[simp] theorem State.countUnrecorded_frame (s : State) :
    (s.countUnrecorded).pending = s.pending ∧ (s.countUnrecorded).now = s.now ∧
    (s.countUnrecorded).resetAsserted = s.resetAsserted ∧ (s.countUnrecorded).control = s.control ∧
    (s.countUnrecorded).entries = s.entries ∧ (s.countUnrecorded).commitQueue = s.commitQueue ∧
    (s.countUnrecorded).engine = s.engine ∧ (s.countUnrecorded).link = s.link ∧ (s.countUnrecorded).array = s.array ∧
    (s.countUnrecorded).dtt = s.dtt ∧ (s.countUnrecorded).syncRecord = s.syncRecord ∧
    (s.countUnrecorded).regions = s.regions ∧ (s.countUnrecorded).refresh = s.refresh ∧
    (s.countUnrecorded).params = s.params ∧ (s.countUnrecorded).shadow = s.shadow ∧
    (s.countUnrecorded).sequencer = s.sequencer ∧ (s.countUnrecorded).command = s.command ∧
    (s.countUnrecorded).events = s.events ∧ (s.countUnrecorded).port = s.port ∧ (s.countUnrecorded).response = s.response ∧
    (s.countUnrecorded).freeIndex = s.freeIndex := by simp [State.countUnrecorded]

@[simp] theorem State.countStagingRetry_frame (s : State) :
    (s.countStagingRetry).pending = s.pending ∧ (s.countStagingRetry).now = s.now ∧
    (s.countStagingRetry).resetAsserted = s.resetAsserted ∧ (s.countStagingRetry).control = s.control ∧
    (s.countStagingRetry).entries = s.entries ∧ (s.countStagingRetry).commitQueue = s.commitQueue ∧
    (s.countStagingRetry).engine = s.engine ∧ (s.countStagingRetry).link = s.link ∧ (s.countStagingRetry).array = s.array ∧
    (s.countStagingRetry).dtt = s.dtt ∧ (s.countStagingRetry).syncRecord = s.syncRecord ∧
    (s.countStagingRetry).regions = s.regions ∧ (s.countStagingRetry).refresh = s.refresh ∧
    (s.countStagingRetry).params = s.params ∧ (s.countStagingRetry).shadow = s.shadow ∧
    (s.countStagingRetry).sequencer = s.sequencer ∧ (s.countStagingRetry).command = s.command ∧
    (s.countStagingRetry).events = s.events ∧ (s.countStagingRetry).port = s.port ∧
    (s.countStagingRetry).response = s.response ∧ (s.countStagingRetry).freeIndex = s.freeIndex := by simp [State.countStagingRetry]

@[simp] theorem State.countElided_frame (s : State) :
    (s.countElided).pending = s.pending ∧ (s.countElided).now = s.now ∧ (s.countElided).resetAsserted = s.resetAsserted ∧
    (s.countElided).control = s.control ∧ (s.countElided).entries = s.entries ∧
    (s.countElided).commitQueue = s.commitQueue ∧ (s.countElided).engine = s.engine ∧ (s.countElided).link = s.link ∧
    (s.countElided).array = s.array ∧ (s.countElided).dtt = s.dtt ∧ (s.countElided).syncRecord = s.syncRecord ∧
    (s.countElided).regions = s.regions ∧ (s.countElided).refresh = s.refresh ∧ (s.countElided).params = s.params ∧
    (s.countElided).shadow = s.shadow ∧ (s.countElided).sequencer = s.sequencer ∧ (s.countElided).command = s.command ∧
    (s.countElided).events = s.events ∧ (s.countElided).port = s.port ∧ (s.countElided).response = s.response ∧
    (s.countElided).freeIndex = s.freeIndex := by simp [State.countElided]

@[simp] theorem State.countSuspension_frame (s : State) :
    (s.countSuspension).pending = s.pending ∧ (s.countSuspension).now = s.now ∧
    (s.countSuspension).resetAsserted = s.resetAsserted ∧ (s.countSuspension).control = s.control ∧
    (s.countSuspension).entries = s.entries ∧ (s.countSuspension).commitQueue = s.commitQueue ∧
    (s.countSuspension).engine = s.engine ∧ (s.countSuspension).link = s.link ∧ (s.countSuspension).array = s.array ∧
    (s.countSuspension).dtt = s.dtt ∧ (s.countSuspension).syncRecord = s.syncRecord ∧
    (s.countSuspension).regions = s.regions ∧ (s.countSuspension).refresh = s.refresh ∧
    (s.countSuspension).params = s.params ∧ (s.countSuspension).shadow = s.shadow ∧
    (s.countSuspension).sequencer = s.sequencer ∧ (s.countSuspension).command = s.command ∧
    (s.countSuspension).events = s.events ∧ (s.countSuspension).port = s.port ∧ (s.countSuspension).response = s.response ∧
    (s.countSuspension).freeIndex = s.freeIndex := by simp [State.countSuspension]

@[simp] theorem State.recordRead_frame (s : State) (req : Requester) (addr len : Nat) :
    (s.recordRead req addr len).pending = s.pending ∧ (s.recordRead req addr len).now = s.now ∧
    (s.recordRead req addr len).resetAsserted = s.resetAsserted ∧ (s.recordRead req addr len).control = s.control ∧
    (s.recordRead req addr len).entries = s.entries ∧ (s.recordRead req addr len).commitQueue = s.commitQueue ∧
    (s.recordRead req addr len).engine = s.engine ∧ (s.recordRead req addr len).link = s.link ∧
    (s.recordRead req addr len).array = s.array ∧ (s.recordRead req addr len).syncRecord = s.syncRecord ∧
    (s.recordRead req addr len).regions = s.regions ∧ (s.recordRead req addr len).refresh = s.refresh ∧
    (s.recordRead req addr len).params = s.params ∧ (s.recordRead req addr len).shadow = s.shadow ∧
    (s.recordRead req addr len).sequencer = s.sequencer ∧ (s.recordRead req addr len).command = s.command ∧
    (s.recordRead req addr len).events = s.events ∧ (s.recordRead req addr len).port = s.port ∧
    (s.recordRead req addr len).freeIndex = s.freeIndex := by unfold State.recordRead; split <;> simp

@[simp] theorem State.readyData_frame (s : State) (i : DttIndex) (bytes : List Byte) :
    (s.readyData i bytes).pending = s.pending ∧ (s.readyData i bytes).now = s.now ∧
    (s.readyData i bytes).resetAsserted = s.resetAsserted ∧ (s.readyData i bytes).control = s.control ∧
    (s.readyData i bytes).entries = s.entries ∧ (s.readyData i bytes).commitQueue = s.commitQueue ∧
    (s.readyData i bytes).engine = s.engine ∧ (s.readyData i bytes).link = s.link ∧ (s.readyData i bytes).array = s.array ∧
    (s.readyData i bytes).syncRecord = s.syncRecord ∧ (s.readyData i bytes).regions = s.regions ∧
    (s.readyData i bytes).refresh = s.refresh ∧ (s.readyData i bytes).params = s.params ∧
    (s.readyData i bytes).shadow = s.shadow ∧ (s.readyData i bytes).sequencer = s.sequencer ∧
    (s.readyData i bytes).command = s.command ∧ (s.readyData i bytes).events = s.events ∧
    (s.readyData i bytes).counters = s.counters ∧ (s.readyData i bytes).port = s.port ∧
    (s.readyData i bytes).response = s.response ∧ (s.readyData i bytes).freeIndex = s.freeIndex := by simp [State.readyData]

@[simp] theorem State.completeFromStaging_frame (s : State) (i : DttIndex) :
    (s.completeFromStaging i).pending = s.pending ∧ (s.completeFromStaging i).now = s.now ∧
    (s.completeFromStaging i).resetAsserted = s.resetAsserted ∧ (s.completeFromStaging i).control = s.control ∧
    (s.completeFromStaging i).entries = s.entries ∧ (s.completeFromStaging i).commitQueue = s.commitQueue ∧
    (s.completeFromStaging i).engine = s.engine ∧ (s.completeFromStaging i).link = s.link ∧
    (s.completeFromStaging i).array = s.array ∧ (s.completeFromStaging i).syncRecord = s.syncRecord ∧
    (s.completeFromStaging i).regions = s.regions ∧ (s.completeFromStaging i).refresh = s.refresh ∧
    (s.completeFromStaging i).params = s.params ∧ (s.completeFromStaging i).shadow = s.shadow ∧
    (s.completeFromStaging i).sequencer = s.sequencer ∧ (s.completeFromStaging i).command = s.command ∧
    (s.completeFromStaging i).events = s.events ∧ (s.completeFromStaging i).counters = s.counters ∧
    (s.completeFromStaging i).port = s.port ∧ (s.completeFromStaging i).response = s.response ∧
    (s.completeFromStaging i).freeIndex = s.freeIndex := by simp [State.completeFromStaging]

@[simp] theorem State.setFetching_frame (s : State) (i : DttIndex) :
    (s.setFetching i).pending = s.pending ∧ (s.setFetching i).now = s.now ∧
    (s.setFetching i).resetAsserted = s.resetAsserted ∧ (s.setFetching i).control = s.control ∧
    (s.setFetching i).entries = s.entries ∧ (s.setFetching i).commitQueue = s.commitQueue ∧
    (s.setFetching i).engine = s.engine ∧ (s.setFetching i).link = s.link ∧ (s.setFetching i).array = s.array ∧
    (s.setFetching i).syncRecord = s.syncRecord ∧ (s.setFetching i).regions = s.regions ∧
    (s.setFetching i).refresh = s.refresh ∧ (s.setFetching i).params = s.params ∧ (s.setFetching i).shadow = s.shadow ∧
    (s.setFetching i).sequencer = s.sequencer ∧ (s.setFetching i).command = s.command ∧
    (s.setFetching i).events = s.events ∧ (s.setFetching i).counters = s.counters ∧ (s.setFetching i).port = s.port ∧
    (s.setFetching i).response = s.response ∧ (s.setFetching i).freeIndex = s.freeIndex := by simp [State.setFetching]

@[simp] theorem State.completeFetch_frame (s : State) (i : DttIndex) (bytes : List Byte) :
    (s.completeFetch i bytes).pending = s.pending ∧ (s.completeFetch i bytes).now = s.now ∧
    (s.completeFetch i bytes).resetAsserted = s.resetAsserted ∧ (s.completeFetch i bytes).control = s.control ∧
    (s.completeFetch i bytes).entries = s.entries ∧ (s.completeFetch i bytes).commitQueue = s.commitQueue ∧
    (s.completeFetch i bytes).engine = s.engine ∧ (s.completeFetch i bytes).link = s.link ∧
    (s.completeFetch i bytes).array = s.array ∧ (s.completeFetch i bytes).syncRecord = s.syncRecord ∧
    (s.completeFetch i bytes).regions = s.regions ∧ (s.completeFetch i bytes).refresh = s.refresh ∧
    (s.completeFetch i bytes).params = s.params ∧ (s.completeFetch i bytes).shadow = s.shadow ∧
    (s.completeFetch i bytes).sequencer = s.sequencer ∧ (s.completeFetch i bytes).command = s.command ∧
    (s.completeFetch i bytes).events = s.events ∧ (s.completeFetch i bytes).counters = s.counters ∧
    (s.completeFetch i bytes).port = s.port ∧ (s.completeFetch i bytes).response = s.response ∧
    (s.completeFetch i bytes).freeIndex = s.freeIndex := by unfold State.completeFetch; split <;> simp

@[simp] theorem State.patchReady_frame (s : State) (page off : Nat) (data : List Byte) :
    (s.patchReady page off data).pending = s.pending ∧ (s.patchReady page off data).now = s.now ∧
    (s.patchReady page off data).resetAsserted = s.resetAsserted ∧ (s.patchReady page off data).control = s.control ∧
    (s.patchReady page off data).entries = s.entries ∧ (s.patchReady page off data).commitQueue = s.commitQueue ∧
    (s.patchReady page off data).engine = s.engine ∧ (s.patchReady page off data).link = s.link ∧
    (s.patchReady page off data).array = s.array ∧ (s.patchReady page off data).syncRecord = s.syncRecord ∧
    (s.patchReady page off data).regions = s.regions ∧ (s.patchReady page off data).refresh = s.refresh ∧
    (s.patchReady page off data).params = s.params ∧ (s.patchReady page off data).shadow = s.shadow ∧
    (s.patchReady page off data).sequencer = s.sequencer ∧ (s.patchReady page off data).command = s.command ∧
    (s.patchReady page off data).events = s.events ∧ (s.patchReady page off data).counters = s.counters ∧
    (s.patchReady page off data).port = s.port ∧ (s.patchReady page off data).response = s.response ∧
    (s.patchReady page off data).freeIndex = s.freeIndex := by simp [State.patchReady]

@[simp] theorem State.dttHaltNotice_frame (s : State) :
    (s.dttHaltNotice).pending = s.pending ∧ (s.dttHaltNotice).now = s.now ∧
    (s.dttHaltNotice).resetAsserted = s.resetAsserted ∧ (s.dttHaltNotice).control = s.control ∧
    (s.dttHaltNotice).entries = s.entries ∧ (s.dttHaltNotice).commitQueue = s.commitQueue ∧
    (s.dttHaltNotice).engine = s.engine ∧ (s.dttHaltNotice).link = s.link ∧ (s.dttHaltNotice).array = s.array ∧
    (s.dttHaltNotice).syncRecord = s.syncRecord ∧ (s.dttHaltNotice).regions = s.regions ∧
    (s.dttHaltNotice).refresh = s.refresh ∧ (s.dttHaltNotice).params = s.params ∧ (s.dttHaltNotice).shadow = s.shadow ∧
    (s.dttHaltNotice).sequencer = s.sequencer ∧ (s.dttHaltNotice).command = s.command ∧
    (s.dttHaltNotice).events = s.events ∧ (s.dttHaltNotice).counters = s.counters ∧ (s.dttHaltNotice).port = s.port ∧
    (s.dttHaltNotice).response = s.response ∧ (s.dttHaltNotice).freeIndex = s.freeIndex := by simp [State.dttHaltNotice]

/-! ### Fences and SYNC -/

@[simp] theorem State.recordFence_frame (s : State) (req : Requester) :
    (s.recordFence req).pending = s.pending ∧ (s.recordFence req).now = s.now ∧
    (s.recordFence req).resetAsserted = s.resetAsserted ∧ (s.recordFence req).control = s.control ∧
    (s.recordFence req).engine = s.engine ∧ (s.recordFence req).link = s.link ∧ (s.recordFence req).array = s.array ∧
    (s.recordFence req).syncRecord = s.syncRecord ∧ (s.recordFence req).regions = s.regions ∧
    (s.recordFence req).refresh = s.refresh ∧ (s.recordFence req).params = s.params ∧
    (s.recordFence req).shadow = s.shadow ∧ (s.recordFence req).sequencer = s.sequencer ∧
    (s.recordFence req).command = s.command ∧ (s.recordFence req).events = s.events ∧ (s.recordFence req).port = s.port ∧
    (s.recordFence req).freeIndex = s.freeIndex := by unfold State.recordFence; split <;> simp

@[simp] theorem State.decideFence_frame (s : State) (req : Requester) :
    (s.decideFence req).pending = s.pending ∧ (s.decideFence req).now = s.now ∧
    (s.decideFence req).resetAsserted = s.resetAsserted ∧ (s.decideFence req).control = s.control ∧
    (s.decideFence req).engine = s.engine ∧ (s.decideFence req).link = s.link ∧ (s.decideFence req).array = s.array ∧
    (s.decideFence req).syncRecord = s.syncRecord ∧ (s.decideFence req).regions = s.regions ∧
    (s.decideFence req).refresh = s.refresh ∧ (s.decideFence req).params = s.params ∧
    (s.decideFence req).shadow = s.shadow ∧ (s.decideFence req).sequencer = s.sequencer ∧
    (s.decideFence req).command = s.command ∧ (s.decideFence req).port = s.port ∧
    (s.decideFence req).freeIndex = s.freeIndex := by simp only [State.decideFence]; (repeat' split) <;> simp

@[simp] theorem State.fenceCommitted_frame (s : State) (p : WaitPair) :
    (s.fenceCommitted p).pending = s.pending ∧ (s.fenceCommitted p).now = s.now ∧
    (s.fenceCommitted p).resetAsserted = s.resetAsserted ∧ (s.fenceCommitted p).control = s.control ∧
    (s.fenceCommitted p).entries = s.entries ∧ (s.fenceCommitted p).commitQueue = s.commitQueue ∧
    (s.fenceCommitted p).engine = s.engine ∧ (s.fenceCommitted p).link = s.link ∧ (s.fenceCommitted p).array = s.array ∧
    (s.fenceCommitted p).syncRecord = s.syncRecord ∧ (s.fenceCommitted p).regions = s.regions ∧
    (s.fenceCommitted p).refresh = s.refresh ∧ (s.fenceCommitted p).params = s.params ∧
    (s.fenceCommitted p).shadow = s.shadow ∧ (s.fenceCommitted p).sequencer = s.sequencer ∧
    (s.fenceCommitted p).command = s.command ∧ (s.fenceCommitted p).events = s.events ∧
    (s.fenceCommitted p).counters = s.counters ∧ (s.fenceCommitted p).port = s.port ∧
    (s.fenceCommitted p).response = s.response ∧ (s.fenceCommitted p).freeIndex = s.freeIndex := by simp [State.fenceCommitted]

@[simp] theorem State.fenceFailedAt_frame (s : State) (p : WaitPair) (page : Option Nat) (i : DttIndex) :
    (State.fenceFailedAt p page s i).pending = s.pending ∧ (State.fenceFailedAt p page s i).now = s.now ∧
    (State.fenceFailedAt p page s i).resetAsserted = s.resetAsserted ∧
    (State.fenceFailedAt p page s i).control = s.control ∧ (State.fenceFailedAt p page s i).entries = s.entries ∧
    (State.fenceFailedAt p page s i).commitQueue = s.commitQueue ∧ (State.fenceFailedAt p page s i).engine = s.engine ∧
    (State.fenceFailedAt p page s i).link = s.link ∧ (State.fenceFailedAt p page s i).array = s.array ∧
    (State.fenceFailedAt p page s i).syncRecord = s.syncRecord ∧ (State.fenceFailedAt p page s i).regions = s.regions ∧
    (State.fenceFailedAt p page s i).refresh = s.refresh ∧ (State.fenceFailedAt p page s i).params = s.params ∧
    (State.fenceFailedAt p page s i).shadow = s.shadow ∧ (State.fenceFailedAt p page s i).sequencer = s.sequencer ∧
    (State.fenceFailedAt p page s i).command = s.command ∧ (State.fenceFailedAt p page s i).counters = s.counters ∧
    (State.fenceFailedAt p page s i).port = s.port ∧ (State.fenceFailedAt p page s i).response = s.response ∧
    (State.fenceFailedAt p page s i).freeIndex = s.freeIndex := by unfold State.fenceFailedAt; split <;> simp

@[simp] theorem State.fenceFailed_frame (s : State) (p : WaitPair) (page : Option Nat) :
    (s.fenceFailed p page).pending = s.pending ∧ (s.fenceFailed p page).now = s.now ∧
    (s.fenceFailed p page).resetAsserted = s.resetAsserted ∧ (s.fenceFailed p page).control = s.control ∧
    (s.fenceFailed p page).entries = s.entries ∧ (s.fenceFailed p page).commitQueue = s.commitQueue ∧
    (s.fenceFailed p page).engine = s.engine ∧ (s.fenceFailed p page).link = s.link ∧
    (s.fenceFailed p page).array = s.array ∧ (s.fenceFailed p page).syncRecord = s.syncRecord ∧
    (s.fenceFailed p page).regions = s.regions ∧ (s.fenceFailed p page).refresh = s.refresh ∧
    (s.fenceFailed p page).params = s.params ∧ (s.fenceFailed p page).shadow = s.shadow ∧
    (s.fenceFailed p page).sequencer = s.sequencer ∧ (s.fenceFailed p page).command = s.command ∧
    (s.fenceFailed p page).counters = s.counters ∧ (s.fenceFailed p page).port = s.port ∧
    (s.fenceFailed p page).response = s.response := by
  have h : ∀ (m : List DttIndex) (s : State), (m.foldl (State.fenceFailedAt p page) s).pending = s.pending ∧ (m.foldl (State.fenceFailedAt p page) s).now = s.now ∧
      (m.foldl (State.fenceFailedAt p page) s).resetAsserted = s.resetAsserted ∧
      (m.foldl (State.fenceFailedAt p page) s).control = s.control ∧
      (m.foldl (State.fenceFailedAt p page) s).entries = s.entries ∧
      (m.foldl (State.fenceFailedAt p page) s).commitQueue = s.commitQueue ∧
      (m.foldl (State.fenceFailedAt p page) s).engine = s.engine ∧ (m.foldl (State.fenceFailedAt p page) s).link = s.link ∧
      (m.foldl (State.fenceFailedAt p page) s).array = s.array ∧
      (m.foldl (State.fenceFailedAt p page) s).syncRecord = s.syncRecord ∧
      (m.foldl (State.fenceFailedAt p page) s).regions = s.regions ∧
      (m.foldl (State.fenceFailedAt p page) s).refresh = s.refresh ∧
      (m.foldl (State.fenceFailedAt p page) s).params = s.params ∧
      (m.foldl (State.fenceFailedAt p page) s).shadow = s.shadow ∧
      (m.foldl (State.fenceFailedAt p page) s).sequencer = s.sequencer ∧
      (m.foldl (State.fenceFailedAt p page) s).command = s.command ∧
      (m.foldl (State.fenceFailedAt p page) s).counters = s.counters ∧
      (m.foldl (State.fenceFailedAt p page) s).port = s.port ∧
      (m.foldl (State.fenceFailedAt p page) s).response = s.response ∧
      (m.foldl (State.fenceFailedAt p page) s).freeIndex = s.freeIndex := by
    intro m
    induction m with
    | nil => simp
    | cons i m ih => intro s; simpa using ih (State.fenceFailedAt p page s i)
  simp [State.fenceFailed, h]

@[simp] theorem State.endCommand_frame (s : State) (r : CmdResult) (detail : Nat) :
    (s.endCommand r detail).pending = s.pending ∧ (s.endCommand r detail).now = s.now ∧
    (s.endCommand r detail).resetAsserted = s.resetAsserted ∧ (s.endCommand r detail).control = s.control ∧
    (s.endCommand r detail).entries = s.entries ∧ (s.endCommand r detail).commitQueue = s.commitQueue ∧
    (s.endCommand r detail).engine = s.engine ∧ (s.endCommand r detail).link = s.link ∧
    (s.endCommand r detail).array = s.array ∧ (s.endCommand r detail).dtt = s.dtt ∧
    (s.endCommand r detail).syncRecord = s.syncRecord ∧ (s.endCommand r detail).regions = s.regions ∧
    (s.endCommand r detail).refresh = s.refresh ∧ (s.endCommand r detail).params = s.params ∧
    (s.endCommand r detail).shadow = s.shadow ∧ (s.endCommand r detail).sequencer = s.sequencer ∧
    (s.endCommand r detail).events = s.events ∧ (s.endCommand r detail).counters = s.counters ∧
    (s.endCommand r detail).port = s.port ∧ (s.endCommand r detail).response = s.response ∧
    (s.endCommand r detail).freeIndex = s.freeIndex := by simp [State.endCommand]

@[simp] theorem State.endSync_frame (s : State) (n : Nat) :
    (s.endSync n).pending = s.pending ∧ (s.endSync n).now = s.now ∧ (s.endSync n).resetAsserted = s.resetAsserted ∧
    (s.endSync n).control = s.control ∧ (s.endSync n).entries = s.entries ∧ (s.endSync n).commitQueue = s.commitQueue ∧
    (s.endSync n).engine = s.engine ∧ (s.endSync n).link = s.link ∧ (s.endSync n).array = s.array ∧
    (s.endSync n).dtt = s.dtt ∧ (s.endSync n).regions = s.regions ∧ (s.endSync n).refresh = s.refresh ∧
    (s.endSync n).params = s.params ∧ (s.endSync n).shadow = s.shadow ∧ (s.endSync n).sequencer = s.sequencer ∧
    (s.endSync n).events = s.events ∧ (s.endSync n).counters = s.counters ∧ (s.endSync n).port = s.port ∧
    (s.endSync n).response = s.response ∧ (s.endSync n).freeIndex = s.freeIndex := by simp [State.endSync]

@[simp] theorem State.syncReport_frame (s : State) (p : WaitPair) (failed : Bool) :
    (s.syncReport p failed).pending = s.pending ∧ (s.syncReport p failed).now = s.now ∧
    (s.syncReport p failed).resetAsserted = s.resetAsserted ∧ (s.syncReport p failed).control = s.control ∧
    (s.syncReport p failed).entries = s.entries ∧ (s.syncReport p failed).commitQueue = s.commitQueue ∧
    (s.syncReport p failed).engine = s.engine ∧ (s.syncReport p failed).link = s.link ∧
    (s.syncReport p failed).array = s.array ∧ (s.syncReport p failed).dtt = s.dtt ∧
    (s.syncReport p failed).regions = s.regions ∧ (s.syncReport p failed).refresh = s.refresh ∧
    (s.syncReport p failed).params = s.params ∧ (s.syncReport p failed).shadow = s.shadow ∧
    (s.syncReport p failed).sequencer = s.sequencer ∧ (s.syncReport p failed).events = s.events ∧
    (s.syncReport p failed).counters = s.counters ∧ (s.syncReport p failed).port = s.port ∧
    (s.syncReport p failed).response = s.response ∧ (s.syncReport p failed).freeIndex = s.freeIndex := by unfold State.syncReport; (repeat' split) <;> simp

@[simp] theorem State.syncHaltNotice_frame (s : State) :
    (s.syncHaltNotice).pending = s.pending ∧ (s.syncHaltNotice).now = s.now ∧
    (s.syncHaltNotice).resetAsserted = s.resetAsserted ∧ (s.syncHaltNotice).control = s.control ∧
    (s.syncHaltNotice).entries = s.entries ∧ (s.syncHaltNotice).commitQueue = s.commitQueue ∧
    (s.syncHaltNotice).engine = s.engine ∧ (s.syncHaltNotice).link = s.link ∧ (s.syncHaltNotice).array = s.array ∧
    (s.syncHaltNotice).dtt = s.dtt ∧ (s.syncHaltNotice).regions = s.regions ∧ (s.syncHaltNotice).refresh = s.refresh ∧
    (s.syncHaltNotice).params = s.params ∧ (s.syncHaltNotice).shadow = s.shadow ∧
    (s.syncHaltNotice).sequencer = s.sequencer ∧ (s.syncHaltNotice).events = s.events ∧
    (s.syncHaltNotice).counters = s.counters ∧ (s.syncHaltNotice).port = s.port ∧ (s.syncHaltNotice).response = s.response ∧
    (s.syncHaltNotice).freeIndex = s.freeIndex := by unfold State.syncHaltNotice; split <;> simp

/-! ### Protection -/

@[simp] theorem State.replaceRegion_frame (s : State) (n : RegionIndex) (r : Region) :
    (s.replaceRegion n r).pending = s.pending ∧ (s.replaceRegion n r).now = s.now ∧
    (s.replaceRegion n r).resetAsserted = s.resetAsserted ∧ (s.replaceRegion n r).control = s.control ∧
    (s.replaceRegion n r).entries = s.entries ∧ (s.replaceRegion n r).commitQueue = s.commitQueue ∧
    (s.replaceRegion n r).engine = s.engine ∧ (s.replaceRegion n r).link = s.link ∧ (s.replaceRegion n r).array = s.array ∧
    (s.replaceRegion n r).dtt = s.dtt ∧ (s.replaceRegion n r).syncRecord = s.syncRecord ∧
    (s.replaceRegion n r).refresh = s.refresh ∧ (s.replaceRegion n r).params = s.params ∧
    (s.replaceRegion n r).shadow = s.shadow ∧ (s.replaceRegion n r).sequencer = s.sequencer ∧
    (s.replaceRegion n r).command = s.command ∧ (s.replaceRegion n r).counters = s.counters ∧
    (s.replaceRegion n r).port = s.port ∧ (s.replaceRegion n r).response = s.response ∧
    (s.replaceRegion n r).freeIndex = s.freeIndex := by simp [State.replaceRegion]

@[simp] theorem State.applyRegion_frame (s : State) (loaded : Vector Region 8) (n : RegionIndex) :
    (State.applyRegion loaded s n).pending = s.pending ∧ (State.applyRegion loaded s n).now = s.now ∧
    (State.applyRegion loaded s n).resetAsserted = s.resetAsserted ∧ (State.applyRegion loaded s n).control = s.control ∧
    (State.applyRegion loaded s n).entries = s.entries ∧ (State.applyRegion loaded s n).commitQueue = s.commitQueue ∧
    (State.applyRegion loaded s n).engine = s.engine ∧ (State.applyRegion loaded s n).link = s.link ∧
    (State.applyRegion loaded s n).array = s.array ∧ (State.applyRegion loaded s n).dtt = s.dtt ∧
    (State.applyRegion loaded s n).syncRecord = s.syncRecord ∧ (State.applyRegion loaded s n).refresh = s.refresh ∧
    (State.applyRegion loaded s n).params = s.params ∧ (State.applyRegion loaded s n).shadow = s.shadow ∧
    (State.applyRegion loaded s n).sequencer = s.sequencer ∧ (State.applyRegion loaded s n).command = s.command ∧
    (State.applyRegion loaded s n).counters = s.counters ∧ (State.applyRegion loaded s n).port = s.port ∧
    (State.applyRegion loaded s n).response = s.response ∧ (State.applyRegion loaded s n).freeIndex = s.freeIndex := by unfold State.applyRegion; (repeat' split) <;> simp

@[simp] theorem State.clipRegion_frame (s : State) (n : RegionIndex) :
    (s.clipRegion n).pending = s.pending ∧ (s.clipRegion n).now = s.now ∧ (s.clipRegion n).resetAsserted = s.resetAsserted ∧
    (s.clipRegion n).control = s.control ∧ (s.clipRegion n).entries = s.entries ∧
    (s.clipRegion n).commitQueue = s.commitQueue ∧ (s.clipRegion n).engine = s.engine ∧ (s.clipRegion n).link = s.link ∧
    (s.clipRegion n).array = s.array ∧ (s.clipRegion n).dtt = s.dtt ∧ (s.clipRegion n).syncRecord = s.syncRecord ∧
    (s.clipRegion n).refresh = s.refresh ∧ (s.clipRegion n).params = s.params ∧ (s.clipRegion n).shadow = s.shadow ∧
    (s.clipRegion n).sequencer = s.sequencer ∧ (s.clipRegion n).command = s.command ∧
    (s.clipRegion n).counters = s.counters ∧ (s.clipRegion n).port = s.port ∧ (s.clipRegion n).response = s.response ∧
    (s.clipRegion n).freeIndex = s.freeIndex := by unfold State.clipRegion; split <;> simp

@[simp] theorem State.applyRegions_frame (s : State) (loaded : Vector Region 8) :
    (s.applyRegions loaded).pending = s.pending ∧ (s.applyRegions loaded).now = s.now ∧
    (s.applyRegions loaded).resetAsserted = s.resetAsserted ∧ (s.applyRegions loaded).control = s.control ∧
    (s.applyRegions loaded).entries = s.entries ∧ (s.applyRegions loaded).commitQueue = s.commitQueue ∧
    (s.applyRegions loaded).engine = s.engine ∧ (s.applyRegions loaded).link = s.link ∧
    (s.applyRegions loaded).array = s.array ∧ (s.applyRegions loaded).dtt = s.dtt ∧
    (s.applyRegions loaded).syncRecord = s.syncRecord ∧ (s.applyRegions loaded).refresh = s.refresh ∧
    (s.applyRegions loaded).params = s.params ∧ (s.applyRegions loaded).shadow = s.shadow ∧
    (s.applyRegions loaded).sequencer = s.sequencer ∧ (s.applyRegions loaded).command = s.command ∧
    (s.applyRegions loaded).counters = s.counters ∧ (s.applyRegions loaded).port = s.port ∧
    (s.applyRegions loaded).response = s.response := by
  have h1 : ∀ (m : List RegionIndex) (s : State), (m.foldl (State.applyRegion loaded) s).pending = s.pending ∧ (m.foldl (State.applyRegion loaded) s).now = s.now ∧
      (m.foldl (State.applyRegion loaded) s).resetAsserted = s.resetAsserted ∧
      (m.foldl (State.applyRegion loaded) s).control = s.control ∧
      (m.foldl (State.applyRegion loaded) s).entries = s.entries ∧
      (m.foldl (State.applyRegion loaded) s).commitQueue = s.commitQueue ∧
      (m.foldl (State.applyRegion loaded) s).engine = s.engine ∧ (m.foldl (State.applyRegion loaded) s).link = s.link ∧
      (m.foldl (State.applyRegion loaded) s).array = s.array ∧ (m.foldl (State.applyRegion loaded) s).dtt = s.dtt ∧
      (m.foldl (State.applyRegion loaded) s).syncRecord = s.syncRecord ∧
      (m.foldl (State.applyRegion loaded) s).refresh = s.refresh ∧ (m.foldl (State.applyRegion loaded) s).params = s.params ∧
      (m.foldl (State.applyRegion loaded) s).shadow = s.shadow ∧
      (m.foldl (State.applyRegion loaded) s).sequencer = s.sequencer ∧
      (m.foldl (State.applyRegion loaded) s).command = s.command ∧
      (m.foldl (State.applyRegion loaded) s).counters = s.counters ∧ (m.foldl (State.applyRegion loaded) s).port = s.port ∧
      (m.foldl (State.applyRegion loaded) s).response = s.response := by
    intro m
    induction m with
    | nil => simp
    | cons n m ih => intro s; simpa using ih (State.applyRegion loaded s n)
  have h2 : ∀ (m : List RegionIndex) (s : State), (m.foldl State.clipRegion s).pending = s.pending ∧ (m.foldl State.clipRegion s).now = s.now ∧
      (m.foldl State.clipRegion s).resetAsserted = s.resetAsserted ∧ (m.foldl State.clipRegion s).control = s.control ∧
      (m.foldl State.clipRegion s).entries = s.entries ∧ (m.foldl State.clipRegion s).commitQueue = s.commitQueue ∧
      (m.foldl State.clipRegion s).engine = s.engine ∧ (m.foldl State.clipRegion s).link = s.link ∧
      (m.foldl State.clipRegion s).array = s.array ∧ (m.foldl State.clipRegion s).dtt = s.dtt ∧
      (m.foldl State.clipRegion s).syncRecord = s.syncRecord ∧ (m.foldl State.clipRegion s).refresh = s.refresh ∧
      (m.foldl State.clipRegion s).params = s.params ∧ (m.foldl State.clipRegion s).shadow = s.shadow ∧
      (m.foldl State.clipRegion s).sequencer = s.sequencer ∧ (m.foldl State.clipRegion s).command = s.command ∧
      (m.foldl State.clipRegion s).counters = s.counters ∧ (m.foldl State.clipRegion s).port = s.port ∧
      (m.foldl State.clipRegion s).response = s.response := by
    intro m
    induction m with
    | nil => simp
    | cons n m ih => intro s; simpa using ih (s.clipRegion n)
  unfold State.applyRegions
  simp [h1, h2]

/-! ### Refresh -/

@[simp] theorem State.modifyRecord_frame (s : State) (sector : Nat) (f : RefreshRecord → RefreshRecord) :
    (s.modifyRecord sector f).pending = s.pending ∧ (s.modifyRecord sector f).now = s.now ∧
    (s.modifyRecord sector f).resetAsserted = s.resetAsserted ∧ (s.modifyRecord sector f).control = s.control ∧
    (s.modifyRecord sector f).entries = s.entries ∧ (s.modifyRecord sector f).commitQueue = s.commitQueue ∧
    (s.modifyRecord sector f).engine = s.engine ∧ (s.modifyRecord sector f).link = s.link ∧
    (s.modifyRecord sector f).array = s.array ∧ (s.modifyRecord sector f).dtt = s.dtt ∧
    (s.modifyRecord sector f).syncRecord = s.syncRecord ∧ (s.modifyRecord sector f).regions = s.regions ∧
    (s.modifyRecord sector f).params = s.params ∧ (s.modifyRecord sector f).shadow = s.shadow ∧
    (s.modifyRecord sector f).sequencer = s.sequencer ∧ (s.modifyRecord sector f).command = s.command ∧
    (s.modifyRecord sector f).events = s.events ∧ (s.modifyRecord sector f).counters = s.counters ∧
    (s.modifyRecord sector f).port = s.port ∧ (s.modifyRecord sector f).response = s.response ∧
    (s.modifyRecord sector f).freeIndex = s.freeIndex := by simp [State.modifyRecord]

@[simp] theorem State.countCommit_frame (s : State) (page : Nat) :
    (s.countCommit page).pending = s.pending ∧ (s.countCommit page).now = s.now ∧
    (s.countCommit page).resetAsserted = s.resetAsserted ∧ (s.countCommit page).control = s.control ∧
    (s.countCommit page).entries = s.entries ∧ (s.countCommit page).commitQueue = s.commitQueue ∧
    (s.countCommit page).engine = s.engine ∧ (s.countCommit page).link = s.link ∧ (s.countCommit page).array = s.array ∧
    (s.countCommit page).dtt = s.dtt ∧ (s.countCommit page).syncRecord = s.syncRecord ∧
    (s.countCommit page).regions = s.regions ∧ (s.countCommit page).params = s.params ∧
    (s.countCommit page).shadow = s.shadow ∧ (s.countCommit page).sequencer = s.sequencer ∧
    (s.countCommit page).command = s.command ∧ (s.countCommit page).events = s.events ∧
    (s.countCommit page).counters = s.counters ∧ (s.countCommit page).port = s.port ∧
    (s.countCommit page).response = s.response ∧ (s.countCommit page).freeIndex = s.freeIndex := by unfold State.countCommit; split <;> simp

@[simp] theorem State.advanceRefresh_frame (s : State) (sector : Nat) :
    (s.advanceRefresh sector).pending = s.pending ∧ (s.advanceRefresh sector).now = s.now ∧
    (s.advanceRefresh sector).resetAsserted = s.resetAsserted ∧ (s.advanceRefresh sector).control = s.control ∧
    (s.advanceRefresh sector).entries = s.entries ∧ (s.advanceRefresh sector).commitQueue = s.commitQueue ∧
    (s.advanceRefresh sector).engine = s.engine ∧ (s.advanceRefresh sector).link = s.link ∧
    (s.advanceRefresh sector).array = s.array ∧ (s.advanceRefresh sector).dtt = s.dtt ∧
    (s.advanceRefresh sector).syncRecord = s.syncRecord ∧ (s.advanceRefresh sector).regions = s.regions ∧
    (s.advanceRefresh sector).params = s.params ∧ (s.advanceRefresh sector).shadow = s.shadow ∧
    (s.advanceRefresh sector).sequencer = s.sequencer ∧ (s.advanceRefresh sector).command = s.command ∧
    (s.advanceRefresh sector).events = s.events ∧ (s.advanceRefresh sector).counters = s.counters ∧
    (s.advanceRefresh sector).port = s.port ∧ (s.advanceRefresh sector).response = s.response ∧
    (s.advanceRefresh sector).freeIndex = s.freeIndex := by simp [State.advanceRefresh]

@[simp] theorem State.refreshSector_frame (s : State) (sector : Nat) :
    (s.refreshSector sector).pending = s.pending ∧ (s.refreshSector sector).now = s.now ∧
    (s.refreshSector sector).resetAsserted = s.resetAsserted ∧ (s.refreshSector sector).control = s.control ∧
    (s.refreshSector sector).engine = s.engine ∧ (s.refreshSector sector).link = s.link ∧
    (s.refreshSector sector).array = s.array ∧ (s.refreshSector sector).dtt = s.dtt ∧
    (s.refreshSector sector).syncRecord = s.syncRecord ∧ (s.refreshSector sector).regions = s.regions ∧
    (s.refreshSector sector).params = s.params ∧ (s.refreshSector sector).shadow = s.shadow ∧
    (s.refreshSector sector).sequencer = s.sequencer ∧ (s.refreshSector sector).command = s.command ∧
    (s.refreshSector sector).events = s.events ∧ (s.refreshSector sector).counters = s.counters ∧
    (s.refreshSector sector).port = s.port ∧ (s.refreshSector sector).response = s.response ∧
    (s.refreshSector sector).freeIndex = s.freeIndex := by unfold State.refreshSector; (repeat' split) <;> simp

@[simp] theorem State.dropEntry_frame (s : State) (i : Slot) :
    (s.dropEntry i).pending = s.pending ∧ (s.dropEntry i).now = s.now ∧ (s.dropEntry i).resetAsserted = s.resetAsserted ∧
    (s.dropEntry i).control = s.control ∧ (s.dropEntry i).engine = s.engine ∧ (s.dropEntry i).link = s.link ∧
    (s.dropEntry i).array = s.array ∧ (s.dropEntry i).dtt = s.dtt ∧ (s.dropEntry i).regions = s.regions ∧
    (s.dropEntry i).params = s.params ∧ (s.dropEntry i).shadow = s.shadow ∧ (s.dropEntry i).sequencer = s.sequencer ∧
    (s.dropEntry i).events = s.events ∧ (s.dropEntry i).counters = s.counters ∧ (s.dropEntry i).port = s.port ∧
    (s.dropEntry i).response = s.response ∧ (s.dropEntry i).freeIndex = s.freeIndex := by simp [State.dropEntry]

@[simp] theorem State.dropRefresh_frame (s : State) :
    (s.dropRefresh).pending = s.pending ∧ (s.dropRefresh).now = s.now ∧ (s.dropRefresh).resetAsserted = s.resetAsserted ∧
    (s.dropRefresh).control = s.control ∧ (s.dropRefresh).engine = s.engine ∧ (s.dropRefresh).link = s.link ∧
    (s.dropRefresh).array = s.array ∧ (s.dropRefresh).dtt = s.dtt ∧ (s.dropRefresh).regions = s.regions ∧
    (s.dropRefresh).params = s.params ∧ (s.dropRefresh).shadow = s.shadow ∧ (s.dropRefresh).sequencer = s.sequencer ∧
    (s.dropRefresh).counters = s.counters ∧ (s.dropRefresh).port = s.port ∧ (s.dropRefresh).response = s.response ∧
    (s.dropRefresh).freeIndex = s.freeIndex := by
  have h : ∀ (m : List Slot) (s : State), (m.foldl State.dropEntry s).pending = s.pending ∧ (m.foldl State.dropEntry s).now = s.now ∧
      (m.foldl State.dropEntry s).resetAsserted = s.resetAsserted ∧ (m.foldl State.dropEntry s).control = s.control ∧
      (m.foldl State.dropEntry s).engine = s.engine ∧ (m.foldl State.dropEntry s).link = s.link ∧
      (m.foldl State.dropEntry s).array = s.array ∧ (m.foldl State.dropEntry s).dtt = s.dtt ∧
      (m.foldl State.dropEntry s).regions = s.regions ∧ (m.foldl State.dropEntry s).params = s.params ∧
      (m.foldl State.dropEntry s).shadow = s.shadow ∧ (m.foldl State.dropEntry s).sequencer = s.sequencer ∧
      (m.foldl State.dropEntry s).events = s.events ∧ (m.foldl State.dropEntry s).counters = s.counters ∧
      (m.foldl State.dropEntry s).port = s.port ∧ (m.foldl State.dropEntry s).response = s.response ∧
      (m.foldl State.dropEntry s).freeIndex = s.freeIndex := by
    intro m
    induction m with
    | nil => simp
    | cons i m ih => intro s; simpa using ih (s.dropEntry i)
  simp only [State.dropRefresh]
  split <;> simp [h]

/-! ### The mode controller -/

@[simp] theorem State.setMode_frame (s : State) (m : Mode) :
    (s.setMode m).pending = s.pending ∧ (s.setMode m).now = s.now ∧ (s.setMode m).resetAsserted = s.resetAsserted ∧
    (s.setMode m).entries = s.entries ∧ (s.setMode m).commitQueue = s.commitQueue ∧ (s.setMode m).engine = s.engine ∧
    (s.setMode m).link = s.link ∧ (s.setMode m).array = s.array ∧ (s.setMode m).dtt = s.dtt ∧
    (s.setMode m).syncRecord = s.syncRecord ∧ (s.setMode m).regions = s.regions ∧ (s.setMode m).refresh = s.refresh ∧
    (s.setMode m).params = s.params ∧ (s.setMode m).shadow = s.shadow ∧ (s.setMode m).sequencer = s.sequencer ∧
    (s.setMode m).command = s.command ∧ (s.setMode m).events = s.events ∧ (s.setMode m).counters = s.counters ∧
    (s.setMode m).port = s.port ∧ (s.setMode m).response = s.response ∧ (s.setMode m).freeIndex = s.freeIndex := by simp [State.setMode]

@[simp] theorem State.endReinit_frame (s : State) (r : CmdResult) :
    (s.endReinit r).pending = s.pending ∧ (s.endReinit r).now = s.now ∧ (s.endReinit r).resetAsserted = s.resetAsserted ∧
    (s.endReinit r).control = s.control ∧ (s.endReinit r).entries = s.entries ∧
    (s.endReinit r).commitQueue = s.commitQueue ∧ (s.endReinit r).engine = s.engine ∧ (s.endReinit r).link = s.link ∧
    (s.endReinit r).array = s.array ∧ (s.endReinit r).dtt = s.dtt ∧ (s.endReinit r).syncRecord = s.syncRecord ∧
    (s.endReinit r).regions = s.regions ∧ (s.endReinit r).refresh = s.refresh ∧ (s.endReinit r).params = s.params ∧
    (s.endReinit r).shadow = s.shadow ∧ (s.endReinit r).sequencer = s.sequencer ∧ (s.endReinit r).events = s.events ∧
    (s.endReinit r).counters = s.counters ∧ (s.endReinit r).port = s.port ∧ (s.endReinit r).response = s.response ∧
    (s.endReinit r).freeIndex = s.freeIndex := by unfold State.endReinit; split <;> simp

@[simp] theorem State.drainStart_frame (s : State) (cause : DrainCause) :
    (s.drainStart cause).pending = s.pending ∧ (s.drainStart cause).now = s.now ∧
    (s.drainStart cause).resetAsserted = s.resetAsserted ∧ (s.drainStart cause).engine = s.engine ∧
    (s.drainStart cause).array = s.array ∧ (s.drainStart cause).dtt = s.dtt ∧ (s.drainStart cause).regions = s.regions ∧
    (s.drainStart cause).params = s.params ∧ (s.drainStart cause).shadow = s.shadow ∧
    (s.drainStart cause).sequencer = s.sequencer ∧ (s.drainStart cause).counters = s.counters ∧
    (s.drainStart cause).port = s.port ∧ (s.drainStart cause).response = s.response ∧
    (s.drainStart cause).freeIndex = s.freeIndex := by simp [State.drainStart]

@[simp] theorem State.beginReinitStart_frame (s : State) :
    (s.beginReinitStart).pending = s.pending ∧ (s.beginReinitStart).now = s.now ∧
    (s.beginReinitStart).resetAsserted = s.resetAsserted ∧ (s.beginReinitStart).entries = s.entries ∧
    (s.beginReinitStart).commitQueue = s.commitQueue ∧ (s.beginReinitStart).engine = s.engine ∧
    (s.beginReinitStart).link = s.link ∧ (s.beginReinitStart).array = s.array ∧ (s.beginReinitStart).dtt = s.dtt ∧
    (s.beginReinitStart).syncRecord = s.syncRecord ∧ (s.beginReinitStart).regions = s.regions ∧
    (s.beginReinitStart).refresh = s.refresh ∧ (s.beginReinitStart).params = s.params ∧
    (s.beginReinitStart).shadow = s.shadow ∧ (s.beginReinitStart).command = s.command ∧
    (s.beginReinitStart).events = s.events ∧ (s.beginReinitStart).counters = s.counters ∧
    (s.beginReinitStart).port = s.port ∧ (s.beginReinitStart).response = s.response ∧
    (s.beginReinitStart).freeIndex = s.freeIndex := by simp [State.beginReinitStart]

@[simp] theorem State.backToRunning_frame (s : State) :
    (s.backToRunning).pending = s.pending ∧ (s.backToRunning).now = s.now ∧
    (s.backToRunning).resetAsserted = s.resetAsserted ∧ (s.backToRunning).entries = s.entries ∧
    (s.backToRunning).commitQueue = s.commitQueue ∧ (s.backToRunning).engine = s.engine ∧ (s.backToRunning).link = s.link ∧
    (s.backToRunning).array = s.array ∧ (s.backToRunning).dtt = s.dtt ∧ (s.backToRunning).syncRecord = s.syncRecord ∧
    (s.backToRunning).regions = s.regions ∧ (s.backToRunning).refresh = s.refresh ∧ (s.backToRunning).params = s.params ∧
    (s.backToRunning).shadow = s.shadow ∧ (s.backToRunning).sequencer = s.sequencer ∧
    (s.backToRunning).command = s.command ∧ (s.backToRunning).events = s.events ∧ (s.backToRunning).counters = s.counters ∧
    (s.backToRunning).port = s.port ∧ (s.backToRunning).response = s.response ∧ (s.backToRunning).freeIndex = s.freeIndex := by simp [State.backToRunning]

@[simp] theorem State.leaveDrain_frame (s : State) :
    (s.leaveDrain).pending = s.pending ∧ (s.leaveDrain).now = s.now ∧ (s.leaveDrain).resetAsserted = s.resetAsserted ∧
    (s.leaveDrain).entries = s.entries ∧ (s.leaveDrain).commitQueue = s.commitQueue ∧ (s.leaveDrain).engine = s.engine ∧
    (s.leaveDrain).link = s.link ∧ (s.leaveDrain).array = s.array ∧ (s.leaveDrain).dtt = s.dtt ∧
    (s.leaveDrain).syncRecord = s.syncRecord ∧ (s.leaveDrain).regions = s.regions ∧ (s.leaveDrain).refresh = s.refresh ∧
    (s.leaveDrain).params = s.params ∧ (s.leaveDrain).shadow = s.shadow ∧ (s.leaveDrain).command = s.command ∧
    (s.leaveDrain).events = s.events ∧ (s.leaveDrain).counters = s.counters ∧ (s.leaveDrain).port = s.port ∧
    (s.leaveDrain).response = s.response ∧ (s.leaveDrain).freeIndex = s.freeIndex := by unfold State.leaveDrain; split <;> simp

@[simp] theorem State.completeDrain_frame (s : State) :
    (s.completeDrain).pending = s.pending ∧ (s.completeDrain).now = s.now ∧
    (s.completeDrain).resetAsserted = s.resetAsserted ∧ (s.completeDrain).entries = s.entries ∧
    (s.completeDrain).commitQueue = s.commitQueue ∧ (s.completeDrain).engine = s.engine ∧ (s.completeDrain).link = s.link ∧
    (s.completeDrain).array = s.array ∧ (s.completeDrain).dtt = s.dtt ∧ (s.completeDrain).syncRecord = s.syncRecord ∧
    (s.completeDrain).regions = s.regions ∧ (s.completeDrain).refresh = s.refresh ∧ (s.completeDrain).params = s.params ∧
    (s.completeDrain).shadow = s.shadow ∧ (s.completeDrain).command = s.command ∧ (s.completeDrain).counters = s.counters ∧
    (s.completeDrain).port = s.port ∧ (s.completeDrain).response = s.response ∧ (s.completeDrain).freeIndex = s.freeIndex := by simp only [State.completeDrain]; split <;> simp

@[simp] theorem State.haltMode_frame (s : State) (cause : HaltCause) :
    (s.haltMode cause).pending = s.pending ∧ (s.haltMode cause).now = s.now ∧
    (s.haltMode cause).resetAsserted = s.resetAsserted ∧ (s.haltMode cause).commitQueue = s.commitQueue ∧
    (s.haltMode cause).engine = s.engine ∧ (s.haltMode cause).link = s.link ∧ (s.haltMode cause).array = s.array ∧
    (s.haltMode cause).dtt = s.dtt ∧ (s.haltMode cause).syncRecord = s.syncRecord ∧ (s.haltMode cause).regions = s.regions ∧
    (s.haltMode cause).refresh = s.refresh ∧ (s.haltMode cause).params = s.params ∧ (s.haltMode cause).shadow = s.shadow ∧
    (s.haltMode cause).counters = s.counters ∧ (s.haltMode cause).port = s.port ∧ (s.haltMode cause).response = s.response ∧
    (s.haltMode cause).freeIndex = s.freeIndex := by simp only [State.haltMode]; split <;> simp

@[simp] theorem State.haltNotice_frame (s : State) :
    (s.haltNotice).pending = s.pending ∧ (s.haltNotice).now = s.now ∧ (s.haltNotice).resetAsserted = s.resetAsserted ∧
    (s.haltNotice).control = s.control ∧ (s.haltNotice).entries = s.entries ∧ (s.haltNotice).commitQueue = s.commitQueue ∧
    (s.haltNotice).engine = s.engine ∧ (s.haltNotice).link = s.link ∧ (s.haltNotice).array = s.array ∧
    (s.haltNotice).regions = s.regions ∧ (s.haltNotice).refresh = s.refresh ∧ (s.haltNotice).params = s.params ∧
    (s.haltNotice).shadow = s.shadow ∧ (s.haltNotice).sequencer = s.sequencer ∧ (s.haltNotice).events = s.events ∧
    (s.haltNotice).counters = s.counters ∧ (s.haltNotice).port = s.port ∧ (s.haltNotice).response = s.response ∧
    (s.haltNotice).freeIndex = s.freeIndex := by simp [State.haltNotice]

@[simp] theorem State.enterHalted_frame (s : State) (cause : HaltCause) :
    (s.enterHalted cause).pending = s.pending ∧ (s.enterHalted cause).now = s.now ∧
    (s.enterHalted cause).resetAsserted = s.resetAsserted ∧ (s.enterHalted cause).commitQueue = s.commitQueue ∧
    (s.enterHalted cause).engine = s.engine ∧ (s.enterHalted cause).link = s.link ∧ (s.enterHalted cause).array = s.array ∧
    (s.enterHalted cause).regions = s.regions ∧ (s.enterHalted cause).refresh = s.refresh ∧
    (s.enterHalted cause).params = s.params ∧ (s.enterHalted cause).shadow = s.shadow ∧
    (s.enterHalted cause).counters = s.counters ∧ (s.enterHalted cause).port = s.port ∧
    (s.enterHalted cause).response = s.response ∧ (s.enterHalted cause).freeIndex = s.freeIndex := by simp [State.enterHalted]

/-! ### The commit engine -/

@[simp] theorem State.holdCommit_frame (s : State) (i : Slot) (stage : Stage) :
    (s.holdCommit i stage).pending = s.pending ∧ (s.holdCommit i stage).now = s.now ∧
    (s.holdCommit i stage).resetAsserted = s.resetAsserted ∧ (s.holdCommit i stage).control = s.control ∧
    (s.holdCommit i stage).entries = s.entries ∧ (s.holdCommit i stage).commitQueue = s.commitQueue ∧
    (s.holdCommit i stage).link = s.link ∧ (s.holdCommit i stage).array = s.array ∧ (s.holdCommit i stage).dtt = s.dtt ∧
    (s.holdCommit i stage).syncRecord = s.syncRecord ∧ (s.holdCommit i stage).regions = s.regions ∧
    (s.holdCommit i stage).refresh = s.refresh ∧ (s.holdCommit i stage).params = s.params ∧
    (s.holdCommit i stage).shadow = s.shadow ∧ (s.holdCommit i stage).sequencer = s.sequencer ∧
    (s.holdCommit i stage).command = s.command ∧ (s.holdCommit i stage).events = s.events ∧
    (s.holdCommit i stage).counters = s.counters ∧ (s.holdCommit i stage).port = s.port ∧
    (s.holdCommit i stage).response = s.response ∧ (s.holdCommit i stage).freeIndex = s.freeIndex := by simp [State.holdCommit]

@[simp] theorem State.takeHead_frame (s : State) (i : Slot) :
    (s.takeHead i).pending = s.pending ∧ (s.takeHead i).now = s.now ∧ (s.takeHead i).resetAsserted = s.resetAsserted ∧
    (s.takeHead i).control = s.control ∧ (s.takeHead i).link = s.link ∧ (s.takeHead i).array = s.array ∧
    (s.takeHead i).dtt = s.dtt ∧ (s.takeHead i).syncRecord = s.syncRecord ∧ (s.takeHead i).regions = s.regions ∧
    (s.takeHead i).refresh = s.refresh ∧ (s.takeHead i).params = s.params ∧ (s.takeHead i).shadow = s.shadow ∧
    (s.takeHead i).sequencer = s.sequencer ∧ (s.takeHead i).command = s.command ∧ (s.takeHead i).events = s.events ∧
    (s.takeHead i).counters = s.counters ∧ (s.takeHead i).port = s.port ∧ (s.takeHead i).response = s.response ∧
    (s.takeHead i).freeIndex = s.freeIndex := by unfold State.takeHead; split <;> simp

@[simp] theorem State.enterStage_frame (s : State) (stage : Stage) :
    (s.enterStage stage).pending = s.pending ∧ (s.enterStage stage).now = s.now ∧
    (s.enterStage stage).resetAsserted = s.resetAsserted ∧ (s.enterStage stage).control = s.control ∧
    (s.enterStage stage).entries = s.entries ∧ (s.enterStage stage).commitQueue = s.commitQueue ∧
    (s.enterStage stage).link = s.link ∧ (s.enterStage stage).array = s.array ∧ (s.enterStage stage).dtt = s.dtt ∧
    (s.enterStage stage).syncRecord = s.syncRecord ∧ (s.enterStage stage).regions = s.regions ∧
    (s.enterStage stage).refresh = s.refresh ∧ (s.enterStage stage).params = s.params ∧
    (s.enterStage stage).shadow = s.shadow ∧ (s.enterStage stage).sequencer = s.sequencer ∧
    (s.enterStage stage).command = s.command ∧ (s.enterStage stage).events = s.events ∧
    (s.enterStage stage).counters = s.counters ∧ (s.enterStage stage).port = s.port ∧
    (s.enterStage stage).response = s.response ∧ (s.enterStage stage).freeIndex = s.freeIndex := by simp [State.enterStage]

@[simp] theorem State.engineIdle_frame (s : State) :
    (s.engineIdle).pending = s.pending ∧ (s.engineIdle).now = s.now ∧ (s.engineIdle).resetAsserted = s.resetAsserted ∧
    (s.engineIdle).control = s.control ∧ (s.engineIdle).entries = s.entries ∧ (s.engineIdle).commitQueue = s.commitQueue ∧
    (s.engineIdle).link = s.link ∧ (s.engineIdle).array = s.array ∧ (s.engineIdle).dtt = s.dtt ∧
    (s.engineIdle).syncRecord = s.syncRecord ∧ (s.engineIdle).regions = s.regions ∧ (s.engineIdle).refresh = s.refresh ∧
    (s.engineIdle).params = s.params ∧ (s.engineIdle).shadow = s.shadow ∧ (s.engineIdle).sequencer = s.sequencer ∧
    (s.engineIdle).command = s.command ∧ (s.engineIdle).events = s.events ∧ (s.engineIdle).counters = s.counters ∧
    (s.engineIdle).port = s.port ∧ (s.engineIdle).response = s.response ∧ (s.engineIdle).freeIndex = s.freeIndex := by simp [State.engineIdle]

@[simp] theorem State.issued_frame (s : State) :
    (s.issued).pending = s.pending ∧ (s.issued).now = s.now ∧ (s.issued).resetAsserted = s.resetAsserted ∧
    (s.issued).control = s.control ∧ (s.issued).entries = s.entries ∧ (s.issued).commitQueue = s.commitQueue ∧
    (s.issued).link = s.link ∧ (s.issued).array = s.array ∧ (s.issued).dtt = s.dtt ∧ (s.issued).syncRecord = s.syncRecord ∧
    (s.issued).regions = s.regions ∧ (s.issued).refresh = s.refresh ∧ (s.issued).params = s.params ∧
    (s.issued).shadow = s.shadow ∧ (s.issued).sequencer = s.sequencer ∧ (s.issued).command = s.command ∧
    (s.issued).events = s.events ∧ (s.issued).counters = s.counters ∧ (s.issued).port = s.port ∧
    (s.issued).response = s.response ∧ (s.issued).freeIndex = s.freeIndex := by simp [State.issued]

@[simp] theorem State.configLoaded_frame (s : State) (c : Copy) :
    (s.configLoaded c).pending = s.pending ∧ (s.configLoaded c).now = s.now ∧
    (s.configLoaded c).resetAsserted = s.resetAsserted ∧ (s.configLoaded c).control = s.control ∧
    (s.configLoaded c).entries = s.entries ∧ (s.configLoaded c).commitQueue = s.commitQueue ∧
    (s.configLoaded c).engine = s.engine ∧ (s.configLoaded c).link = s.link ∧ (s.configLoaded c).array = s.array ∧
    (s.configLoaded c).dtt = s.dtt ∧ (s.configLoaded c).syncRecord = s.syncRecord ∧ (s.configLoaded c).regions = s.regions ∧
    (s.configLoaded c).refresh = s.refresh ∧ (s.configLoaded c).params = s.params ∧ (s.configLoaded c).shadow = s.shadow ∧
    (s.configLoaded c).command = s.command ∧ (s.configLoaded c).events = s.events ∧
    (s.configLoaded c).counters = s.counters ∧ (s.configLoaded c).port = s.port ∧ (s.configLoaded c).response = s.response ∧
    (s.configLoaded c).freeIndex = s.freeIndex := by simp [State.configLoaded]

@[simp] theorem State.endWriteConfig_frame (s : State) (r : CmdResult) :
    (s.endWriteConfig r).pending = s.pending ∧ (s.endWriteConfig r).now = s.now ∧
    (s.endWriteConfig r).resetAsserted = s.resetAsserted ∧ (s.endWriteConfig r).control = s.control ∧
    (s.endWriteConfig r).entries = s.entries ∧ (s.endWriteConfig r).commitQueue = s.commitQueue ∧
    (s.endWriteConfig r).engine = s.engine ∧ (s.endWriteConfig r).link = s.link ∧ (s.endWriteConfig r).array = s.array ∧
    (s.endWriteConfig r).dtt = s.dtt ∧ (s.endWriteConfig r).syncRecord = s.syncRecord ∧
    (s.endWriteConfig r).regions = s.regions ∧ (s.endWriteConfig r).refresh = s.refresh ∧
    (s.endWriteConfig r).params = s.params ∧ (s.endWriteConfig r).shadow = s.shadow ∧
    (s.endWriteConfig r).sequencer = s.sequencer ∧ (s.endWriteConfig r).events = s.events ∧
    (s.endWriteConfig r).counters = s.counters ∧ (s.endWriteConfig r).port = s.port ∧
    (s.endWriteConfig r).response = s.response ∧ (s.endWriteConfig r).freeIndex = s.freeIndex := by unfold State.endWriteConfig; split <;> simp

@[simp] theorem State.configSucceeded_frame (s : State) (i : Slot) (page : Option Nat) :
    (s.configSucceeded i page).pending = s.pending ∧ (s.configSucceeded i page).now = s.now ∧
    (s.configSucceeded i page).resetAsserted = s.resetAsserted ∧ (s.configSucceeded i page).control = s.control ∧
    (s.configSucceeded i page).entries = s.entries ∧ (s.configSucceeded i page).commitQueue = s.commitQueue ∧
    (s.configSucceeded i page).engine = s.engine ∧ (s.configSucceeded i page).link = s.link ∧
    (s.configSucceeded i page).array = s.array ∧ (s.configSucceeded i page).dtt = s.dtt ∧
    (s.configSucceeded i page).syncRecord = s.syncRecord ∧ (s.configSucceeded i page).regions = s.regions ∧
    (s.configSucceeded i page).refresh = s.refresh ∧ (s.configSucceeded i page).params = s.params ∧
    (s.configSucceeded i page).shadow = s.shadow ∧ (s.configSucceeded i page).counters = s.counters ∧
    (s.configSucceeded i page).port = s.port ∧ (s.configSucceeded i page).response = s.response ∧
    (s.configSucceeded i page).freeIndex = s.freeIndex := by unfold State.configSucceeded; split <;> simp

@[simp] theorem State.configFailed_frame (s : State) (i : Slot) (page : Option Nat) (cause : CommitCause) :
    (s.configFailed i page cause).pending = s.pending ∧ (s.configFailed i page cause).now = s.now ∧
    (s.configFailed i page cause).resetAsserted = s.resetAsserted ∧ (s.configFailed i page cause).control = s.control ∧
    (s.configFailed i page cause).entries = s.entries ∧ (s.configFailed i page cause).commitQueue = s.commitQueue ∧
    (s.configFailed i page cause).engine = s.engine ∧ (s.configFailed i page cause).link = s.link ∧
    (s.configFailed i page cause).array = s.array ∧ (s.configFailed i page cause).dtt = s.dtt ∧
    (s.configFailed i page cause).syncRecord = s.syncRecord ∧ (s.configFailed i page cause).regions = s.regions ∧
    (s.configFailed i page cause).refresh = s.refresh ∧ (s.configFailed i page cause).params = s.params ∧
    (s.configFailed i page cause).shadow = s.shadow ∧ (s.configFailed i page cause).counters = s.counters ∧
    (s.configFailed i page cause).port = s.port ∧ (s.configFailed i page cause).response = s.response ∧
    (s.configFailed i page cause).freeIndex = s.freeIndex := by unfold State.configFailed; split <;> simp

@[simp] theorem State.reportCommitted_frame (s : State) (p : WaitPair) :
    (s.reportCommitted p).pending = s.pending ∧ (s.reportCommitted p).now = s.now ∧
    (s.reportCommitted p).resetAsserted = s.resetAsserted ∧ (s.reportCommitted p).control = s.control ∧
    (s.reportCommitted p).entries = s.entries ∧ (s.reportCommitted p).commitQueue = s.commitQueue ∧
    (s.reportCommitted p).engine = s.engine ∧ (s.reportCommitted p).link = s.link ∧ (s.reportCommitted p).array = s.array ∧
    (s.reportCommitted p).regions = s.regions ∧ (s.reportCommitted p).refresh = s.refresh ∧
    (s.reportCommitted p).params = s.params ∧ (s.reportCommitted p).shadow = s.shadow ∧
    (s.reportCommitted p).sequencer = s.sequencer ∧ (s.reportCommitted p).events = s.events ∧
    (s.reportCommitted p).counters = s.counters ∧ (s.reportCommitted p).port = s.port ∧
    (s.reportCommitted p).response = s.response ∧ (s.reportCommitted p).freeIndex = s.freeIndex := by simp [State.reportCommitted]

@[simp] theorem State.reportFailed_frame (s : State) (p : WaitPair) (page : Option Nat) :
    (s.reportFailed p page).pending = s.pending ∧ (s.reportFailed p page).now = s.now ∧
    (s.reportFailed p page).resetAsserted = s.resetAsserted ∧ (s.reportFailed p page).control = s.control ∧
    (s.reportFailed p page).entries = s.entries ∧ (s.reportFailed p page).commitQueue = s.commitQueue ∧
    (s.reportFailed p page).engine = s.engine ∧ (s.reportFailed p page).link = s.link ∧
    (s.reportFailed p page).array = s.array ∧ (s.reportFailed p page).regions = s.regions ∧
    (s.reportFailed p page).refresh = s.refresh ∧ (s.reportFailed p page).params = s.params ∧
    (s.reportFailed p page).shadow = s.shadow ∧ (s.reportFailed p page).sequencer = s.sequencer ∧
    (s.reportFailed p page).counters = s.counters ∧ (s.reportFailed p page).port = s.port ∧
    (s.reportFailed p page).response = s.response := by simp [State.reportFailed]

@[simp] theorem State.commitSucceeds_frame (s : State) (i : Slot) :
    (s.commitSucceeds i).pending = s.pending ∧ (s.commitSucceeds i).now = s.now ∧
    (s.commitSucceeds i).resetAsserted = s.resetAsserted ∧ (s.commitSucceeds i).control = s.control ∧
    (s.commitSucceeds i).commitQueue = s.commitQueue ∧ (s.commitSucceeds i).link = s.link ∧
    (s.commitSucceeds i).array = s.array ∧ (s.commitSucceeds i).regions = s.regions ∧
    (s.commitSucceeds i).params = s.params ∧ (s.commitSucceeds i).shadow = s.shadow ∧
    (s.commitSucceeds i).counters = s.counters ∧ (s.commitSucceeds i).port = s.port ∧
    (s.commitSucceeds i).response = s.response ∧ (s.commitSucceeds i).freeIndex = s.freeIndex := by simp only [State.commitSucceeds]; split <;> simp

@[simp] theorem State.commitElided_frame (s : State) (i : Slot) :
    (s.commitElided i).pending = s.pending ∧ (s.commitElided i).now = s.now ∧
    (s.commitElided i).resetAsserted = s.resetAsserted ∧ (s.commitElided i).control = s.control ∧
    (s.commitElided i).commitQueue = s.commitQueue ∧ (s.commitElided i).link = s.link ∧ (s.commitElided i).array = s.array ∧
    (s.commitElided i).regions = s.regions ∧ (s.commitElided i).refresh = s.refresh ∧ (s.commitElided i).params = s.params ∧
    (s.commitElided i).shadow = s.shadow ∧ (s.commitElided i).sequencer = s.sequencer ∧
    (s.commitElided i).events = s.events ∧ (s.commitElided i).port = s.port ∧ (s.commitElided i).response = s.response ∧
    (s.commitElided i).freeIndex = s.freeIndex := by simp [State.commitElided]

@[simp] theorem State.commitFails_frame (s : State) (i : Slot) (cause : CommitCause) :
    (s.commitFails i cause).pending = s.pending ∧ (s.commitFails i cause).now = s.now ∧
    (s.commitFails i cause).resetAsserted = s.resetAsserted ∧ (s.commitFails i cause).control = s.control ∧
    (s.commitFails i cause).commitQueue = s.commitQueue ∧ (s.commitFails i cause).link = s.link ∧
    (s.commitFails i cause).array = s.array ∧ (s.commitFails i cause).regions = s.regions ∧
    (s.commitFails i cause).refresh = s.refresh ∧ (s.commitFails i cause).params = s.params ∧
    (s.commitFails i cause).shadow = s.shadow ∧ (s.commitFails i cause).counters = s.counters ∧
    (s.commitFails i cause).port = s.port ∧ (s.commitFails i cause).response = s.response := by simp only [State.commitFails]; split <;> simp

@[simp] theorem State.countAttempt_frame (s : State) (i : Slot) :
    (s.countAttempt i).pending = s.pending ∧ (s.countAttempt i).now = s.now ∧
    (s.countAttempt i).resetAsserted = s.resetAsserted ∧ (s.countAttempt i).control = s.control ∧
    (s.countAttempt i).commitQueue = s.commitQueue ∧ (s.countAttempt i).engine = s.engine ∧
    (s.countAttempt i).link = s.link ∧ (s.countAttempt i).array = s.array ∧ (s.countAttempt i).dtt = s.dtt ∧
    (s.countAttempt i).syncRecord = s.syncRecord ∧ (s.countAttempt i).regions = s.regions ∧
    (s.countAttempt i).refresh = s.refresh ∧ (s.countAttempt i).params = s.params ∧ (s.countAttempt i).shadow = s.shadow ∧
    (s.countAttempt i).sequencer = s.sequencer ∧ (s.countAttempt i).command = s.command ∧
    (s.countAttempt i).events = s.events ∧ (s.countAttempt i).counters = s.counters ∧ (s.countAttempt i).port = s.port ∧
    (s.countAttempt i).response = s.response ∧ (s.countAttempt i).freeIndex = s.freeIndex := by simp [State.countAttempt]

@[simp] theorem State.retryCommit_frame (s : State) (i : Slot) (cause : CommitCause) :
    (s.retryCommit i cause).pending = s.pending ∧ (s.retryCommit i cause).now = s.now ∧
    (s.retryCommit i cause).resetAsserted = s.resetAsserted ∧ (s.retryCommit i cause).control = s.control ∧
    (s.retryCommit i cause).entries = s.entries ∧ (s.retryCommit i cause).commitQueue = s.commitQueue ∧
    (s.retryCommit i cause).link = s.link ∧ (s.retryCommit i cause).array = s.array ∧ (s.retryCommit i cause).dtt = s.dtt ∧
    (s.retryCommit i cause).syncRecord = s.syncRecord ∧ (s.retryCommit i cause).regions = s.regions ∧
    (s.retryCommit i cause).refresh = s.refresh ∧ (s.retryCommit i cause).params = s.params ∧
    (s.retryCommit i cause).shadow = s.shadow ∧ (s.retryCommit i cause).sequencer = s.sequencer ∧
    (s.retryCommit i cause).command = s.command ∧ (s.retryCommit i cause).counters = s.counters ∧
    (s.retryCommit i cause).port = s.port ∧ (s.retryCommit i cause).response = s.response ∧
    (s.retryCommit i cause).freeIndex = s.freeIndex := by simp [State.retryCommit]

@[simp] theorem State.attemptFails_frame (s : State) (cause : CommitCause) :
    (s.attemptFails cause).pending = s.pending ∧ (s.attemptFails cause).now = s.now ∧
    (s.attemptFails cause).resetAsserted = s.resetAsserted ∧ (s.attemptFails cause).control = s.control ∧
    (s.attemptFails cause).commitQueue = s.commitQueue ∧ (s.attemptFails cause).link = s.link ∧
    (s.attemptFails cause).array = s.array ∧ (s.attemptFails cause).regions = s.regions ∧
    (s.attemptFails cause).refresh = s.refresh ∧ (s.attemptFails cause).params = s.params ∧
    (s.attemptFails cause).shadow = s.shadow ∧ (s.attemptFails cause).counters = s.counters ∧
    (s.attemptFails cause).port = s.port ∧ (s.attemptFails cause).response = s.response := by unfold State.attemptFails; (repeat' split) <;> simp

@[simp] theorem State.operationResult_frame (s : State) (failFlag : Bool) :
    (s.operationResult failFlag).pending = s.pending ∧ (s.operationResult failFlag).now = s.now ∧
    (s.operationResult failFlag).resetAsserted = s.resetAsserted ∧ (s.operationResult failFlag).control = s.control ∧
    (s.operationResult failFlag).commitQueue = s.commitQueue ∧ (s.operationResult failFlag).link = s.link ∧
    (s.operationResult failFlag).array = s.array ∧ (s.operationResult failFlag).regions = s.regions ∧
    (s.operationResult failFlag).params = s.params ∧ (s.operationResult failFlag).shadow = s.shadow ∧
    (s.operationResult failFlag).counters = s.counters ∧ (s.operationResult failFlag).port = s.port ∧
    (s.operationResult failFlag).response = s.response := by unfold State.operationResult; (repeat' split) <;> simp

@[simp] theorem State.fillCompletes_frame (s : State) (i : Slot) (bytes : List Byte) :
    (s.fillCompletes i bytes).pending = s.pending ∧ (s.fillCompletes i bytes).now = s.now ∧
    (s.fillCompletes i bytes).resetAsserted = s.resetAsserted ∧ (s.fillCompletes i bytes).control = s.control ∧
    (s.fillCompletes i bytes).commitQueue = s.commitQueue ∧ (s.fillCompletes i bytes).link = s.link ∧
    (s.fillCompletes i bytes).array = s.array ∧ (s.fillCompletes i bytes).regions = s.regions ∧
    (s.fillCompletes i bytes).refresh = s.refresh ∧ (s.fillCompletes i bytes).params = s.params ∧
    (s.fillCompletes i bytes).shadow = s.shadow ∧ (s.fillCompletes i bytes).sequencer = s.sequencer ∧
    (s.fillCompletes i bytes).events = s.events ∧ (s.fillCompletes i bytes).port = s.port ∧
    (s.fillCompletes i bytes).response = s.response ∧ (s.fillCompletes i bytes).freeIndex = s.freeIndex := by simp only [State.fillCompletes]; split <;> simp

@[simp] theorem State.verifyCompletes_frame (s : State) (i : Slot) (bytes : List Byte) :
    (s.verifyCompletes i bytes).pending = s.pending ∧ (s.verifyCompletes i bytes).now = s.now ∧
    (s.verifyCompletes i bytes).resetAsserted = s.resetAsserted ∧ (s.verifyCompletes i bytes).control = s.control ∧
    (s.verifyCompletes i bytes).commitQueue = s.commitQueue ∧ (s.verifyCompletes i bytes).link = s.link ∧
    (s.verifyCompletes i bytes).regions = s.regions ∧ (s.verifyCompletes i bytes).params = s.params ∧
    (s.verifyCompletes i bytes).shadow = s.shadow ∧ (s.verifyCompletes i bytes).counters = s.counters ∧
    (s.verifyCompletes i bytes).port = s.port ∧ (s.verifyCompletes i bytes).response = s.response := by unfold State.verifyCompletes; split <;> simp

@[simp] theorem State.engineBytes_frame (s : State) (bytes : List Byte) :
    (s.engineBytes bytes).pending = s.pending ∧ (s.engineBytes bytes).now = s.now ∧
    (s.engineBytes bytes).resetAsserted = s.resetAsserted ∧ (s.engineBytes bytes).control = s.control ∧
    (s.engineBytes bytes).commitQueue = s.commitQueue ∧ (s.engineBytes bytes).link = s.link ∧
    (s.engineBytes bytes).regions = s.regions ∧ (s.engineBytes bytes).params = s.params ∧
    (s.engineBytes bytes).shadow = s.shadow ∧ (s.engineBytes bytes).port = s.port ∧
    (s.engineBytes bytes).response = s.response := by unfold State.engineBytes; (repeat' split) <;> simp

@[simp] theorem State.deviceEnds_frame (s : State) (i : Slot) :
    (s.deviceEnds i).pending = s.pending ∧ (s.deviceEnds i).now = s.now ∧ (s.deviceEnds i).resetAsserted = s.resetAsserted ∧
    (s.deviceEnds i).control = s.control ∧ (s.deviceEnds i).commitQueue = s.commitQueue ∧ (s.deviceEnds i).link = s.link ∧
    (s.deviceEnds i).array = s.array ∧ (s.deviceEnds i).dtt = s.dtt ∧ (s.deviceEnds i).syncRecord = s.syncRecord ∧
    (s.deviceEnds i).regions = s.regions ∧ (s.deviceEnds i).refresh = s.refresh ∧ (s.deviceEnds i).params = s.params ∧
    (s.deviceEnds i).shadow = s.shadow ∧ (s.deviceEnds i).sequencer = s.sequencer ∧ (s.deviceEnds i).command = s.command ∧
    (s.deviceEnds i).counters = s.counters ∧ (s.deviceEnds i).port = s.port ∧ (s.deviceEnds i).response = s.response ∧
    (s.deviceEnds i).freeIndex = s.freeIndex := by simp [State.deviceEnds]

@[simp] theorem State.deviceReport_frame (s : State) (i : Slot) :
    (s.deviceReport i).pending = s.pending ∧ (s.deviceReport i).now = s.now ∧
    (s.deviceReport i).resetAsserted = s.resetAsserted ∧ (s.deviceReport i).control = s.control ∧
    (s.deviceReport i).entries = s.entries ∧ (s.deviceReport i).commitQueue = s.commitQueue ∧
    (s.deviceReport i).engine = s.engine ∧ (s.deviceReport i).link = s.link ∧ (s.deviceReport i).array = s.array ∧
    (s.deviceReport i).regions = s.regions ∧ (s.deviceReport i).refresh = s.refresh ∧ (s.deviceReport i).params = s.params ∧
    (s.deviceReport i).shadow = s.shadow ∧ (s.deviceReport i).counters = s.counters ∧ (s.deviceReport i).port = s.port ∧
    (s.deviceReport i).response = s.response := by unfold State.deviceReport; split <;> simp

@[simp] theorem State.endQueuedConfig_frame (s : State) :
    (s.endQueuedConfig).pending = s.pending ∧ (s.endQueuedConfig).now = s.now ∧
    (s.endQueuedConfig).resetAsserted = s.resetAsserted ∧ (s.endQueuedConfig).control = s.control ∧
    (s.endQueuedConfig).entries = s.entries ∧ (s.endQueuedConfig).commitQueue = s.commitQueue ∧
    (s.endQueuedConfig).engine = s.engine ∧ (s.endQueuedConfig).link = s.link ∧ (s.endQueuedConfig).array = s.array ∧
    (s.endQueuedConfig).dtt = s.dtt ∧ (s.endQueuedConfig).syncRecord = s.syncRecord ∧
    (s.endQueuedConfig).regions = s.regions ∧ (s.endQueuedConfig).refresh = s.refresh ∧
    (s.endQueuedConfig).params = s.params ∧ (s.endQueuedConfig).shadow = s.shadow ∧
    (s.endQueuedConfig).counters = s.counters ∧ (s.endQueuedConfig).port = s.port ∧
    (s.endQueuedConfig).response = s.response ∧ (s.endQueuedConfig).freeIndex = s.freeIndex := by unfold State.endQueuedConfig; split <;> simp

@[simp] theorem State.downStep_frame (s : State) (i : Slot) (step : DownStep) :
    (s.downStep i step).pending = s.pending ∧ (s.downStep i step).now = s.now ∧
    (s.downStep i step).resetAsserted = s.resetAsserted ∧ (s.downStep i step).commitQueue = s.commitQueue ∧
    (s.downStep i step).link = s.link ∧ (s.downStep i step).array = s.array ∧ (s.downStep i step).regions = s.regions ∧
    (s.downStep i step).refresh = s.refresh ∧ (s.downStep i step).params = s.params ∧
    (s.downStep i step).shadow = s.shadow ∧ (s.downStep i step).counters = s.counters ∧ (s.downStep i step).port = s.port ∧
    (s.downStep i step).response = s.response := by cases step <;> simp [State.downStep]

@[simp] theorem State.downDuringCommit_frame (s : State) (order : DownOrder) (place : Fin 5) (i : Slot) :
    (s.downDuringCommit order place i).pending = s.pending ∧ (s.downDuringCommit order place i).now = s.now ∧
    (s.downDuringCommit order place i).resetAsserted = s.resetAsserted ∧
    (s.downDuringCommit order place i).commitQueue = s.commitQueue ∧ (s.downDuringCommit order place i).link = s.link ∧
    (s.downDuringCommit order place i).array = s.array ∧ (s.downDuringCommit order place i).regions = s.regions ∧
    (s.downDuringCommit order place i).refresh = s.refresh ∧ (s.downDuringCommit order place i).params = s.params ∧
    (s.downDuringCommit order place i).shadow = s.shadow ∧ (s.downDuringCommit order place i).counters = s.counters ∧
    (s.downDuringCommit order place i).port = s.port ∧ (s.downDuringCommit order place i).response = s.response := by
  have h : ∀ (m : List DownStep) (s : State), (m.foldl (State.downStep i) s).pending = s.pending ∧ (m.foldl (State.downStep i) s).now = s.now ∧
      (m.foldl (State.downStep i) s).resetAsserted = s.resetAsserted ∧
      (m.foldl (State.downStep i) s).commitQueue = s.commitQueue ∧ (m.foldl (State.downStep i) s).link = s.link ∧
      (m.foldl (State.downStep i) s).array = s.array ∧ (m.foldl (State.downStep i) s).regions = s.regions ∧
      (m.foldl (State.downStep i) s).refresh = s.refresh ∧ (m.foldl (State.downStep i) s).params = s.params ∧
      (m.foldl (State.downStep i) s).shadow = s.shadow ∧ (m.foldl (State.downStep i) s).counters = s.counters ∧
      (m.foldl (State.downStep i) s).port = s.port ∧ (m.foldl (State.downStep i) s).response = s.response := by
    intro m
    induction m with
    | nil => simp
    | cons x m ih => intro s; simpa using ih (s.downStep i x)
  simp [State.downDuringCommit, h]

/-! ### The array link -/

@[simp] theorem State.setOpPage_frame (s : State) (c : PageContent) :
    (s.setOpPage c).pending = s.pending ∧ (s.setOpPage c).now = s.now ∧ (s.setOpPage c).resetAsserted = s.resetAsserted ∧
    (s.setOpPage c).control = s.control ∧ (s.setOpPage c).entries = s.entries ∧
    (s.setOpPage c).commitQueue = s.commitQueue ∧ (s.setOpPage c).engine = s.engine ∧ (s.setOpPage c).link = s.link ∧
    (s.setOpPage c).dtt = s.dtt ∧ (s.setOpPage c).syncRecord = s.syncRecord ∧ (s.setOpPage c).regions = s.regions ∧
    (s.setOpPage c).refresh = s.refresh ∧ (s.setOpPage c).params = s.params ∧ (s.setOpPage c).shadow = s.shadow ∧
    (s.setOpPage c).sequencer = s.sequencer ∧ (s.setOpPage c).command = s.command ∧ (s.setOpPage c).events = s.events ∧
    (s.setOpPage c).counters = s.counters ∧ (s.setOpPage c).port = s.port ∧ (s.setOpPage c).response = s.response ∧
    (s.setOpPage c).freeIndex = s.freeIndex := by unfold State.setOpPage; split <;> simp

@[simp] theorem State.grantEngine_frame (s : State) (i : Slot) :
    (s.grantEngine i).pending = s.pending ∧ (s.grantEngine i).now = s.now ∧
    (s.grantEngine i).resetAsserted = s.resetAsserted ∧ (s.grantEngine i).control = s.control ∧
    (s.grantEngine i).entries = s.entries ∧ (s.grantEngine i).commitQueue = s.commitQueue ∧ (s.grantEngine i).dtt = s.dtt ∧
    (s.grantEngine i).syncRecord = s.syncRecord ∧ (s.grantEngine i).regions = s.regions ∧
    (s.grantEngine i).refresh = s.refresh ∧ (s.grantEngine i).params = s.params ∧ (s.grantEngine i).shadow = s.shadow ∧
    (s.grantEngine i).sequencer = s.sequencer ∧ (s.grantEngine i).command = s.command ∧
    (s.grantEngine i).events = s.events ∧ (s.grantEngine i).counters = s.counters ∧ (s.grantEngine i).port = s.port ∧
    (s.grantEngine i).response = s.response ∧ (s.grantEngine i).freeIndex = s.freeIndex := by unfold State.grantEngine; split <;> simp

@[simp] theorem State.setStreak_frame (s : State) (n : Nat) :
    (s.setStreak n).pending = s.pending ∧ (s.setStreak n).now = s.now ∧ (s.setStreak n).resetAsserted = s.resetAsserted ∧
    (s.setStreak n).control = s.control ∧ (s.setStreak n).entries = s.entries ∧
    (s.setStreak n).commitQueue = s.commitQueue ∧ (s.setStreak n).engine = s.engine ∧ (s.setStreak n).array = s.array ∧
    (s.setStreak n).dtt = s.dtt ∧ (s.setStreak n).syncRecord = s.syncRecord ∧ (s.setStreak n).regions = s.regions ∧
    (s.setStreak n).refresh = s.refresh ∧ (s.setStreak n).params = s.params ∧ (s.setStreak n).shadow = s.shadow ∧
    (s.setStreak n).sequencer = s.sequencer ∧ (s.setStreak n).command = s.command ∧ (s.setStreak n).events = s.events ∧
    (s.setStreak n).counters = s.counters ∧ (s.setStreak n).port = s.port ∧ (s.setStreak n).response = s.response ∧
    (s.setStreak n).freeIndex = s.freeIndex := by simp [State.setStreak]

@[simp] theorem State.grantFetch_frame (s : State) (i : DttIndex) :
    (s.grantFetch i).pending = s.pending ∧ (s.grantFetch i).now = s.now ∧ (s.grantFetch i).resetAsserted = s.resetAsserted ∧
    (s.grantFetch i).control = s.control ∧ (s.grantFetch i).entries = s.entries ∧
    (s.grantFetch i).commitQueue = s.commitQueue ∧ (s.grantFetch i).engine = s.engine ∧ (s.grantFetch i).array = s.array ∧
    (s.grantFetch i).syncRecord = s.syncRecord ∧ (s.grantFetch i).regions = s.regions ∧
    (s.grantFetch i).refresh = s.refresh ∧ (s.grantFetch i).params = s.params ∧ (s.grantFetch i).shadow = s.shadow ∧
    (s.grantFetch i).sequencer = s.sequencer ∧ (s.grantFetch i).command = s.command ∧ (s.grantFetch i).events = s.events ∧
    (s.grantFetch i).counters = s.counters ∧ (s.grantFetch i).port = s.port ∧ (s.grantFetch i).response = s.response ∧
    (s.grantFetch i).freeIndex = s.freeIndex := by unfold State.grantFetch; split <;> simp

@[simp] theorem State.grantOldest_frame (s : State) :
    (s.grantOldest).pending = s.pending ∧ (s.grantOldest).now = s.now ∧ (s.grantOldest).resetAsserted = s.resetAsserted ∧
    (s.grantOldest).control = s.control ∧ (s.grantOldest).entries = s.entries ∧
    (s.grantOldest).commitQueue = s.commitQueue ∧ (s.grantOldest).engine = s.engine ∧ (s.grantOldest).array = s.array ∧
    (s.grantOldest).syncRecord = s.syncRecord ∧ (s.grantOldest).regions = s.regions ∧ (s.grantOldest).refresh = s.refresh ∧
    (s.grantOldest).params = s.params ∧ (s.grantOldest).shadow = s.shadow ∧ (s.grantOldest).sequencer = s.sequencer ∧
    (s.grantOldest).command = s.command ∧ (s.grantOldest).events = s.events ∧ (s.grantOldest).counters = s.counters ∧
    (s.grantOldest).port = s.port ∧ (s.grantOldest).response = s.response ∧ (s.grantOldest).freeIndex = s.freeIndex := by unfold State.grantOldest; split <;> simp

@[simp] theorem State.grantClaim_frame (s : State) (i : Slot) :
    (s.grantClaim i).pending = s.pending ∧ (s.grantClaim i).now = s.now ∧ (s.grantClaim i).resetAsserted = s.resetAsserted ∧
    (s.grantClaim i).control = s.control ∧ (s.grantClaim i).entries = s.entries ∧
    (s.grantClaim i).commitQueue = s.commitQueue ∧ (s.grantClaim i).dtt = s.dtt ∧
    (s.grantClaim i).syncRecord = s.syncRecord ∧ (s.grantClaim i).regions = s.regions ∧
    (s.grantClaim i).refresh = s.refresh ∧ (s.grantClaim i).params = s.params ∧ (s.grantClaim i).shadow = s.shadow ∧
    (s.grantClaim i).sequencer = s.sequencer ∧ (s.grantClaim i).command = s.command ∧ (s.grantClaim i).events = s.events ∧
    (s.grantClaim i).counters = s.counters ∧ (s.grantClaim i).port = s.port ∧ (s.grantClaim i).response = s.response ∧
    (s.grantClaim i).freeIndex = s.freeIndex := by simp [State.grantClaim]

@[simp] theorem State.arbitrate_frame (s : State) :
    (s.arbitrate).pending = s.pending ∧ (s.arbitrate).now = s.now ∧ (s.arbitrate).resetAsserted = s.resetAsserted ∧
    (s.arbitrate).control = s.control ∧ (s.arbitrate).entries = s.entries ∧ (s.arbitrate).commitQueue = s.commitQueue ∧
    (s.arbitrate).syncRecord = s.syncRecord ∧ (s.arbitrate).regions = s.regions ∧ (s.arbitrate).refresh = s.refresh ∧
    (s.arbitrate).params = s.params ∧ (s.arbitrate).shadow = s.shadow ∧ (s.arbitrate).sequencer = s.sequencer ∧
    (s.arbitrate).command = s.command ∧ (s.arbitrate).events = s.events ∧ (s.arbitrate).counters = s.counters ∧
    (s.arbitrate).port = s.port ∧ (s.arbitrate).response = s.response ∧ (s.arbitrate).freeIndex = s.freeIndex := by unfold State.arbitrate; (repeat' split) <;> simp

@[simp] theorem State.arbitrateDrain_frame (s : State) :
    (s.arbitrateDrain).pending = s.pending ∧ (s.arbitrateDrain).now = s.now ∧
    (s.arbitrateDrain).resetAsserted = s.resetAsserted ∧ (s.arbitrateDrain).control = s.control ∧
    (s.arbitrateDrain).entries = s.entries ∧ (s.arbitrateDrain).commitQueue = s.commitQueue ∧
    (s.arbitrateDrain).syncRecord = s.syncRecord ∧ (s.arbitrateDrain).regions = s.regions ∧
    (s.arbitrateDrain).refresh = s.refresh ∧ (s.arbitrateDrain).params = s.params ∧ (s.arbitrateDrain).shadow = s.shadow ∧
    (s.arbitrateDrain).sequencer = s.sequencer ∧ (s.arbitrateDrain).command = s.command ∧
    (s.arbitrateDrain).events = s.events ∧ (s.arbitrateDrain).counters = s.counters ∧ (s.arbitrateDrain).port = s.port ∧
    (s.arbitrateDrain).response = s.response ∧ (s.arbitrateDrain).freeIndex = s.freeIndex := by unfold State.arbitrateDrain; (repeat' split) <;> simp

@[simp] theorem State.takePoll_frame (s : State) :
    (s.takePoll).pending = s.pending ∧ (s.takePoll).now = s.now ∧ (s.takePoll).resetAsserted = s.resetAsserted ∧
    (s.takePoll).control = s.control ∧ (s.takePoll).entries = s.entries ∧ (s.takePoll).commitQueue = s.commitQueue ∧
    (s.takePoll).engine = s.engine ∧ (s.takePoll).array = s.array ∧ (s.takePoll).dtt = s.dtt ∧
    (s.takePoll).syncRecord = s.syncRecord ∧ (s.takePoll).regions = s.regions ∧ (s.takePoll).refresh = s.refresh ∧
    (s.takePoll).params = s.params ∧ (s.takePoll).shadow = s.shadow ∧ (s.takePoll).sequencer = s.sequencer ∧
    (s.takePoll).command = s.command ∧ (s.takePoll).events = s.events ∧ (s.takePoll).counters = s.counters ∧
    (s.takePoll).port = s.port ∧ (s.takePoll).response = s.response ∧ (s.takePoll).freeIndex = s.freeIndex := by unfold State.takePoll; split <;> simp

@[simp] theorem State.takeOwedPoll_frame (s : State) :
    (s.takeOwedPoll).pending = s.pending ∧ (s.takeOwedPoll).now = s.now ∧ (s.takeOwedPoll).resetAsserted = s.resetAsserted ∧
    (s.takeOwedPoll).control = s.control ∧ (s.takeOwedPoll).entries = s.entries ∧
    (s.takeOwedPoll).commitQueue = s.commitQueue ∧ (s.takeOwedPoll).engine = s.engine ∧ (s.takeOwedPoll).array = s.array ∧
    (s.takeOwedPoll).dtt = s.dtt ∧ (s.takeOwedPoll).syncRecord = s.syncRecord ∧ (s.takeOwedPoll).regions = s.regions ∧
    (s.takeOwedPoll).refresh = s.refresh ∧ (s.takeOwedPoll).params = s.params ∧ (s.takeOwedPoll).shadow = s.shadow ∧
    (s.takeOwedPoll).sequencer = s.sequencer ∧ (s.takeOwedPoll).command = s.command ∧ (s.takeOwedPoll).events = s.events ∧
    (s.takeOwedPoll).counters = s.counters ∧ (s.takeOwedPoll).port = s.port ∧ (s.takeOwedPoll).response = s.response ∧
    (s.takeOwedPoll).freeIndex = s.freeIndex := by unfold State.takeOwedPoll; split <;> simp

@[simp] theorem State.operationCompletes_frame (s : State) (failFlag : Bool) :
    (s.operationCompletes failFlag).pending = s.pending ∧ (s.operationCompletes failFlag).now = s.now ∧
    (s.operationCompletes failFlag).resetAsserted = s.resetAsserted ∧ (s.operationCompletes failFlag).control = s.control ∧
    (s.operationCompletes failFlag).commitQueue = s.commitQueue ∧ (s.operationCompletes failFlag).regions = s.regions ∧
    (s.operationCompletes failFlag).params = s.params ∧ (s.operationCompletes failFlag).shadow = s.shadow ∧
    (s.operationCompletes failFlag).counters = s.counters ∧ (s.operationCompletes failFlag).port = s.port ∧
    (s.operationCompletes failFlag).response = s.response := by simp [State.operationCompletes]

@[simp] theorem State.operationSuspended_frame (s : State) :
    (s.operationSuspended).pending = s.pending ∧ (s.operationSuspended).now = s.now ∧
    (s.operationSuspended).resetAsserted = s.resetAsserted ∧ (s.operationSuspended).control = s.control ∧
    (s.operationSuspended).entries = s.entries ∧ (s.operationSuspended).commitQueue = s.commitQueue ∧
    (s.operationSuspended).engine = s.engine ∧ (s.operationSuspended).array = s.array ∧ (s.operationSuspended).dtt = s.dtt ∧
    (s.operationSuspended).syncRecord = s.syncRecord ∧ (s.operationSuspended).regions = s.regions ∧
    (s.operationSuspended).refresh = s.refresh ∧ (s.operationSuspended).params = s.params ∧
    (s.operationSuspended).shadow = s.shadow ∧ (s.operationSuspended).sequencer = s.sequencer ∧
    (s.operationSuspended).command = s.command ∧ (s.operationSuspended).events = s.events ∧
    (s.operationSuspended).port = s.port ∧ (s.operationSuspended).response = s.response ∧
    (s.operationSuspended).freeIndex = s.freeIndex := by simp [State.operationSuspended]

@[simp] theorem State.deviceRecovered_frame (s : State) :
    (s.deviceRecovered).pending = s.pending ∧ (s.deviceRecovered).now = s.now ∧
    (s.deviceRecovered).resetAsserted = s.resetAsserted ∧ (s.deviceRecovered).control = s.control ∧
    (s.deviceRecovered).commitQueue = s.commitQueue ∧ (s.deviceRecovered).array = s.array ∧
    (s.deviceRecovered).regions = s.regions ∧ (s.deviceRecovered).refresh = s.refresh ∧
    (s.deviceRecovered).params = s.params ∧ (s.deviceRecovered).shadow = s.shadow ∧
    (s.deviceRecovered).counters = s.counters ∧ (s.deviceRecovered).port = s.port ∧
    (s.deviceRecovered).response = s.response := by unfold State.deviceRecovered; (repeat' split) <;> simp

@[simp] theorem State.takeReply_frame (s : State) (cond : DeviceCondition) (failFlag : Bool) :
    (s.takeReply cond failFlag).pending = s.pending ∧ (s.takeReply cond failFlag).now = s.now ∧
    (s.takeReply cond failFlag).resetAsserted = s.resetAsserted ∧ (s.takeReply cond failFlag).control = s.control ∧
    (s.takeReply cond failFlag).commitQueue = s.commitQueue ∧ (s.takeReply cond failFlag).regions = s.regions ∧
    (s.takeReply cond failFlag).params = s.params ∧ (s.takeReply cond failFlag).shadow = s.shadow ∧
    (s.takeReply cond failFlag).port = s.port ∧ (s.takeReply cond failFlag).response = s.response := by unfold State.takeReply; split <;> simp

@[simp] theorem State.timeOut_frame (s : State) (phase : TimeoutPhase) :
    (s.timeOut phase).pending = s.pending ∧ (s.timeOut phase).now = s.now ∧
    (s.timeOut phase).resetAsserted = s.resetAsserted ∧ (s.timeOut phase).control = s.control ∧
    (s.timeOut phase).entries = s.entries ∧ (s.timeOut phase).commitQueue = s.commitQueue ∧
    (s.timeOut phase).engine = s.engine ∧ (s.timeOut phase).array = s.array ∧ (s.timeOut phase).dtt = s.dtt ∧
    (s.timeOut phase).syncRecord = s.syncRecord ∧ (s.timeOut phase).regions = s.regions ∧
    (s.timeOut phase).refresh = s.refresh ∧ (s.timeOut phase).params = s.params ∧ (s.timeOut phase).shadow = s.shadow ∧
    (s.timeOut phase).sequencer = s.sequencer ∧ (s.timeOut phase).command = s.command ∧
    (s.timeOut phase).counters = s.counters ∧ (s.timeOut phase).port = s.port ∧ (s.timeOut phase).response = s.response ∧
    (s.timeOut phase).freeIndex = s.freeIndex := by simp only [State.timeOut]; split <;> simp

@[simp] theorem State.resetTaken_frame (s : State) :
    (s.resetTaken).pending = s.pending ∧ (s.resetTaken).now = s.now ∧ (s.resetTaken).resetAsserted = s.resetAsserted ∧
    (s.resetTaken).control = s.control ∧ (s.resetTaken).entries = s.entries ∧ (s.resetTaken).commitQueue = s.commitQueue ∧
    (s.resetTaken).engine = s.engine ∧ (s.resetTaken).array = s.array ∧ (s.resetTaken).dtt = s.dtt ∧
    (s.resetTaken).syncRecord = s.syncRecord ∧ (s.resetTaken).regions = s.regions ∧ (s.resetTaken).refresh = s.refresh ∧
    (s.resetTaken).params = s.params ∧ (s.resetTaken).shadow = s.shadow ∧ (s.resetTaken).sequencer = s.sequencer ∧
    (s.resetTaken).command = s.command ∧ (s.resetTaken).counters = s.counters ∧ (s.resetTaken).port = s.port ∧
    (s.resetTaken).response = s.response ∧ (s.resetTaken).freeIndex = s.freeIndex := by simp only [State.resetTaken]; split <;> simp

@[simp] theorem State.linkDown_frame (s : State) :
    (s.linkDown).pending = s.pending ∧ (s.linkDown).now = s.now ∧ (s.linkDown).resetAsserted = s.resetAsserted ∧
    (s.linkDown).commitQueue = s.commitQueue ∧ (s.linkDown).array = s.array ∧ (s.linkDown).regions = s.regions ∧
    (s.linkDown).refresh = s.refresh ∧ (s.linkDown).params = s.params ∧ (s.linkDown).shadow = s.shadow ∧
    (s.linkDown).counters = s.counters ∧ (s.linkDown).port = s.port ∧ (s.linkDown).response = s.response := by simp only [State.linkDown]; split <;> simp

/-! ### Requests -/

@[simp] theorem State.refuseRead_frame (s : State) (k : FaultKind) (m : Option AccessMode) (req : Requester) (addr : Nat) :
    (s.refuseRead k m req addr).pending = s.pending ∧ (s.refuseRead k m req addr).now = s.now ∧
    (s.refuseRead k m req addr).resetAsserted = s.resetAsserted ∧ (s.refuseRead k m req addr).control = s.control ∧
    (s.refuseRead k m req addr).entries = s.entries ∧ (s.refuseRead k m req addr).commitQueue = s.commitQueue ∧
    (s.refuseRead k m req addr).engine = s.engine ∧ (s.refuseRead k m req addr).link = s.link ∧
    (s.refuseRead k m req addr).array = s.array ∧ (s.refuseRead k m req addr).dtt = s.dtt ∧
    (s.refuseRead k m req addr).syncRecord = s.syncRecord ∧ (s.refuseRead k m req addr).regions = s.regions ∧
    (s.refuseRead k m req addr).refresh = s.refresh ∧ (s.refuseRead k m req addr).params = s.params ∧
    (s.refuseRead k m req addr).shadow = s.shadow ∧ (s.refuseRead k m req addr).sequencer = s.sequencer ∧
    (s.refuseRead k m req addr).command = s.command ∧ (s.refuseRead k m req addr).counters = s.counters ∧
    (s.refuseRead k m req addr).port = s.port ∧ (s.refuseRead k m req addr).freeIndex = s.freeIndex := by simp [State.refuseRead]

@[simp] theorem State.refuseWrite_frame (s : State) (k : FaultKind) (m : Option AccessMode) (req : Requester) (addr : Nat) :
    (s.refuseWrite k m req addr).pending = s.pending ∧ (s.refuseWrite k m req addr).now = s.now ∧
    (s.refuseWrite k m req addr).resetAsserted = s.resetAsserted ∧ (s.refuseWrite k m req addr).control = s.control ∧
    (s.refuseWrite k m req addr).entries = s.entries ∧ (s.refuseWrite k m req addr).commitQueue = s.commitQueue ∧
    (s.refuseWrite k m req addr).engine = s.engine ∧ (s.refuseWrite k m req addr).link = s.link ∧
    (s.refuseWrite k m req addr).array = s.array ∧ (s.refuseWrite k m req addr).dtt = s.dtt ∧
    (s.refuseWrite k m req addr).syncRecord = s.syncRecord ∧ (s.refuseWrite k m req addr).regions = s.regions ∧
    (s.refuseWrite k m req addr).refresh = s.refresh ∧ (s.refuseWrite k m req addr).params = s.params ∧
    (s.refuseWrite k m req addr).shadow = s.shadow ∧ (s.refuseWrite k m req addr).sequencer = s.sequencer ∧
    (s.refuseWrite k m req addr).command = s.command ∧ (s.refuseWrite k m req addr).counters = s.counters ∧
    (s.refuseWrite k m req addr).port = s.port ∧ (s.refuseWrite k m req addr).freeIndex = s.freeIndex := by simp [State.refuseWrite]

@[simp] theorem State.refuseFence_frame (s : State) (req : Requester) :
    (s.refuseFence req).pending = s.pending ∧ (s.refuseFence req).now = s.now ∧
    (s.refuseFence req).resetAsserted = s.resetAsserted ∧ (s.refuseFence req).control = s.control ∧
    (s.refuseFence req).entries = s.entries ∧ (s.refuseFence req).commitQueue = s.commitQueue ∧
    (s.refuseFence req).engine = s.engine ∧ (s.refuseFence req).link = s.link ∧ (s.refuseFence req).array = s.array ∧
    (s.refuseFence req).dtt = s.dtt ∧ (s.refuseFence req).syncRecord = s.syncRecord ∧
    (s.refuseFence req).regions = s.regions ∧ (s.refuseFence req).refresh = s.refresh ∧
    (s.refuseFence req).params = s.params ∧ (s.refuseFence req).shadow = s.shadow ∧
    (s.refuseFence req).sequencer = s.sequencer ∧ (s.refuseFence req).command = s.command ∧
    (s.refuseFence req).counters = s.counters ∧ (s.refuseFence req).port = s.port ∧
    (s.refuseFence req).freeIndex = s.freeIndex := by simp [State.refuseFence]

@[simp] theorem State.answerWrite_frame (s : State) (o : WriteOutcome) (req : Requester) (addr : Nat) (data : List Byte) :
    (s.answerWrite o req addr data).pending = s.pending ∧ (s.answerWrite o req addr data).now = s.now ∧
    (s.answerWrite o req addr data).resetAsserted = s.resetAsserted ∧ (s.answerWrite o req addr data).control = s.control ∧
    (s.answerWrite o req addr data).entries = s.entries ∧ (s.answerWrite o req addr data).commitQueue = s.commitQueue ∧
    (s.answerWrite o req addr data).engine = s.engine ∧ (s.answerWrite o req addr data).link = s.link ∧
    (s.answerWrite o req addr data).array = s.array ∧ (s.answerWrite o req addr data).syncRecord = s.syncRecord ∧
    (s.answerWrite o req addr data).regions = s.regions ∧ (s.answerWrite o req addr data).refresh = s.refresh ∧
    (s.answerWrite o req addr data).params = s.params ∧ (s.answerWrite o req addr data).shadow = s.shadow ∧
    (s.answerWrite o req addr data).sequencer = s.sequencer ∧ (s.answerWrite o req addr data).command = s.command ∧
    (s.answerWrite o req addr data).port = s.port ∧ (s.answerWrite o req addr data).freeIndex = s.freeIndex := by cases o <;> simp [State.answerWrite]

@[simp] theorem State.writePath_frame (s : State) (req : Requester) (addr : Nat) (data : List Byte) :
    (s.writePath req addr data).pending = s.pending ∧ (s.writePath req addr data).now = s.now ∧
    (s.writePath req addr data).resetAsserted = s.resetAsserted ∧ (s.writePath req addr data).control = s.control ∧
    (s.writePath req addr data).engine = s.engine ∧ (s.writePath req addr data).link = s.link ∧
    (s.writePath req addr data).array = s.array ∧ (s.writePath req addr data).syncRecord = s.syncRecord ∧
    (s.writePath req addr data).regions = s.regions ∧ (s.writePath req addr data).refresh = s.refresh ∧
    (s.writePath req addr data).params = s.params ∧ (s.writePath req addr data).shadow = s.shadow ∧
    (s.writePath req addr data).sequencer = s.sequencer ∧ (s.writePath req addr data).command = s.command ∧
    (s.writePath req addr data).port = s.port ∧ (s.writePath req addr data).freeIndex = s.freeIndex := by simp [State.writePath]

@[simp] theorem State.protectWrite_frame (s : State) (req : Requester) (addr : Nat) (data : List Byte) :
    (s.protectWrite req addr data).pending = s.pending ∧ (s.protectWrite req addr data).now = s.now ∧
    (s.protectWrite req addr data).resetAsserted = s.resetAsserted ∧ (s.protectWrite req addr data).control = s.control ∧
    (s.protectWrite req addr data).engine = s.engine ∧ (s.protectWrite req addr data).link = s.link ∧
    (s.protectWrite req addr data).array = s.array ∧ (s.protectWrite req addr data).syncRecord = s.syncRecord ∧
    (s.protectWrite req addr data).regions = s.regions ∧ (s.protectWrite req addr data).refresh = s.refresh ∧
    (s.protectWrite req addr data).params = s.params ∧ (s.protectWrite req addr data).shadow = s.shadow ∧
    (s.protectWrite req addr data).sequencer = s.sequencer ∧ (s.protectWrite req addr data).command = s.command ∧
    (s.protectWrite req addr data).port = s.port ∧ (s.protectWrite req addr data).freeIndex = s.freeIndex := by unfold State.protectWrite; (repeat' split) <;> simp

@[simp] theorem State.gateWrite_frame (s : State) (req : Requester) (addr : Nat) (data : List Byte) :
    (s.gateWrite req addr data).pending = s.pending ∧ (s.gateWrite req addr data).now = s.now ∧
    (s.gateWrite req addr data).resetAsserted = s.resetAsserted ∧ (s.gateWrite req addr data).control = s.control ∧
    (s.gateWrite req addr data).engine = s.engine ∧ (s.gateWrite req addr data).link = s.link ∧
    (s.gateWrite req addr data).array = s.array ∧ (s.gateWrite req addr data).syncRecord = s.syncRecord ∧
    (s.gateWrite req addr data).regions = s.regions ∧ (s.gateWrite req addr data).refresh = s.refresh ∧
    (s.gateWrite req addr data).params = s.params ∧ (s.gateWrite req addr data).shadow = s.shadow ∧
    (s.gateWrite req addr data).sequencer = s.sequencer ∧ (s.gateWrite req addr data).command = s.command ∧
    (s.gateWrite req addr data).port = s.port ∧ (s.gateWrite req addr data).freeIndex = s.freeIndex := by unfold State.gateWrite; (repeat' split) <;> simp

@[simp] theorem State.takeWrite_frame (s : State) (req : Requester) (addr len : Nat) (data : List Byte) :
    (s.takeWrite req addr len data).pending = s.pending ∧ (s.takeWrite req addr len data).now = s.now ∧
    (s.takeWrite req addr len data).resetAsserted = s.resetAsserted ∧ (s.takeWrite req addr len data).control = s.control ∧
    (s.takeWrite req addr len data).engine = s.engine ∧ (s.takeWrite req addr len data).link = s.link ∧
    (s.takeWrite req addr len data).array = s.array ∧ (s.takeWrite req addr len data).syncRecord = s.syncRecord ∧
    (s.takeWrite req addr len data).regions = s.regions ∧ (s.takeWrite req addr len data).refresh = s.refresh ∧
    (s.takeWrite req addr len data).params = s.params ∧ (s.takeWrite req addr len data).shadow = s.shadow ∧
    (s.takeWrite req addr len data).sequencer = s.sequencer ∧ (s.takeWrite req addr len data).command = s.command ∧
    (s.takeWrite req addr len data).port = s.port ∧ (s.takeWrite req addr len data).freeIndex = s.freeIndex := by unfold State.takeWrite; (repeat' split) <;> simp

@[simp] theorem State.handOffRead_frame (s : State) (req : Requester) (addr len : Nat) :
    (s.handOffRead req addr len).pending = s.pending ∧ (s.handOffRead req addr len).now = s.now ∧
    (s.handOffRead req addr len).resetAsserted = s.resetAsserted ∧ (s.handOffRead req addr len).control = s.control ∧
    (s.handOffRead req addr len).entries = s.entries ∧ (s.handOffRead req addr len).commitQueue = s.commitQueue ∧
    (s.handOffRead req addr len).engine = s.engine ∧ (s.handOffRead req addr len).link = s.link ∧
    (s.handOffRead req addr len).array = s.array ∧ (s.handOffRead req addr len).syncRecord = s.syncRecord ∧
    (s.handOffRead req addr len).regions = s.regions ∧ (s.handOffRead req addr len).refresh = s.refresh ∧
    (s.handOffRead req addr len).params = s.params ∧ (s.handOffRead req addr len).shadow = s.shadow ∧
    (s.handOffRead req addr len).sequencer = s.sequencer ∧ (s.handOffRead req addr len).command = s.command ∧
    (s.handOffRead req addr len).port = s.port ∧ (s.handOffRead req addr len).freeIndex = s.freeIndex := by unfold State.handOffRead; (repeat' split) <;> simp

@[simp] theorem State.readPath_frame (s : State) (req : Requester) (addr len : Nat) :
    (s.readPath req addr len).pending = s.pending ∧ (s.readPath req addr len).now = s.now ∧
    (s.readPath req addr len).resetAsserted = s.resetAsserted ∧ (s.readPath req addr len).control = s.control ∧
    (s.readPath req addr len).entries = s.entries ∧ (s.readPath req addr len).commitQueue = s.commitQueue ∧
    (s.readPath req addr len).engine = s.engine ∧ (s.readPath req addr len).link = s.link ∧
    (s.readPath req addr len).array = s.array ∧ (s.readPath req addr len).syncRecord = s.syncRecord ∧
    (s.readPath req addr len).regions = s.regions ∧ (s.readPath req addr len).refresh = s.refresh ∧
    (s.readPath req addr len).params = s.params ∧ (s.readPath req addr len).shadow = s.shadow ∧
    (s.readPath req addr len).sequencer = s.sequencer ∧ (s.readPath req addr len).command = s.command ∧
    (s.readPath req addr len).port = s.port ∧ (s.readPath req addr len).freeIndex = s.freeIndex := by unfold State.readPath; (repeat' split) <;> simp

@[simp] theorem State.protectRead_frame (s : State) (req : Requester) (addr len : Nat) :
    (s.protectRead req addr len).pending = s.pending ∧ (s.protectRead req addr len).now = s.now ∧
    (s.protectRead req addr len).resetAsserted = s.resetAsserted ∧ (s.protectRead req addr len).control = s.control ∧
    (s.protectRead req addr len).entries = s.entries ∧ (s.protectRead req addr len).commitQueue = s.commitQueue ∧
    (s.protectRead req addr len).engine = s.engine ∧ (s.protectRead req addr len).link = s.link ∧
    (s.protectRead req addr len).array = s.array ∧ (s.protectRead req addr len).syncRecord = s.syncRecord ∧
    (s.protectRead req addr len).regions = s.regions ∧ (s.protectRead req addr len).refresh = s.refresh ∧
    (s.protectRead req addr len).params = s.params ∧ (s.protectRead req addr len).shadow = s.shadow ∧
    (s.protectRead req addr len).sequencer = s.sequencer ∧ (s.protectRead req addr len).command = s.command ∧
    (s.protectRead req addr len).port = s.port ∧ (s.protectRead req addr len).freeIndex = s.freeIndex := by unfold State.protectRead; (repeat' split) <;> simp

@[simp] theorem State.gateRead_frame (s : State) (req : Requester) (addr len : Nat) :
    (s.gateRead req addr len).pending = s.pending ∧ (s.gateRead req addr len).now = s.now ∧
    (s.gateRead req addr len).resetAsserted = s.resetAsserted ∧ (s.gateRead req addr len).control = s.control ∧
    (s.gateRead req addr len).entries = s.entries ∧ (s.gateRead req addr len).commitQueue = s.commitQueue ∧
    (s.gateRead req addr len).engine = s.engine ∧ (s.gateRead req addr len).link = s.link ∧
    (s.gateRead req addr len).array = s.array ∧ (s.gateRead req addr len).syncRecord = s.syncRecord ∧
    (s.gateRead req addr len).regions = s.regions ∧ (s.gateRead req addr len).refresh = s.refresh ∧
    (s.gateRead req addr len).params = s.params ∧ (s.gateRead req addr len).shadow = s.shadow ∧
    (s.gateRead req addr len).sequencer = s.sequencer ∧ (s.gateRead req addr len).command = s.command ∧
    (s.gateRead req addr len).port = s.port ∧ (s.gateRead req addr len).freeIndex = s.freeIndex := by unfold State.gateRead; (repeat' split) <;> simp

@[simp] theorem State.takeRead_frame (s : State) (req : Requester) (addr len : Nat) :
    (s.takeRead req addr len).pending = s.pending ∧ (s.takeRead req addr len).now = s.now ∧
    (s.takeRead req addr len).resetAsserted = s.resetAsserted ∧ (s.takeRead req addr len).control = s.control ∧
    (s.takeRead req addr len).entries = s.entries ∧ (s.takeRead req addr len).commitQueue = s.commitQueue ∧
    (s.takeRead req addr len).engine = s.engine ∧ (s.takeRead req addr len).link = s.link ∧
    (s.takeRead req addr len).array = s.array ∧ (s.takeRead req addr len).syncRecord = s.syncRecord ∧
    (s.takeRead req addr len).regions = s.regions ∧ (s.takeRead req addr len).refresh = s.refresh ∧
    (s.takeRead req addr len).params = s.params ∧ (s.takeRead req addr len).shadow = s.shadow ∧
    (s.takeRead req addr len).sequencer = s.sequencer ∧ (s.takeRead req addr len).command = s.command ∧
    (s.takeRead req addr len).port = s.port ∧ (s.takeRead req addr len).freeIndex = s.freeIndex := by unfold State.takeRead; (repeat' split) <;> simp

@[simp] theorem State.fencePath_frame (s : State) (req : Requester) :
    (s.fencePath req).pending = s.pending ∧ (s.fencePath req).now = s.now ∧
    (s.fencePath req).resetAsserted = s.resetAsserted ∧ (s.fencePath req).control = s.control ∧
    (s.fencePath req).engine = s.engine ∧ (s.fencePath req).link = s.link ∧ (s.fencePath req).array = s.array ∧
    (s.fencePath req).syncRecord = s.syncRecord ∧ (s.fencePath req).regions = s.regions ∧
    (s.fencePath req).refresh = s.refresh ∧ (s.fencePath req).params = s.params ∧ (s.fencePath req).shadow = s.shadow ∧
    (s.fencePath req).sequencer = s.sequencer ∧ (s.fencePath req).command = s.command ∧ (s.fencePath req).port = s.port ∧
    (s.fencePath req).freeIndex = s.freeIndex := by unfold State.fencePath; (repeat' split) <;> simp

@[simp] theorem State.takeFence_frame (s : State) (req : Requester) :
    (s.takeFence req).pending = s.pending ∧ (s.takeFence req).now = s.now ∧
    (s.takeFence req).resetAsserted = s.resetAsserted ∧ (s.takeFence req).control = s.control ∧
    (s.takeFence req).engine = s.engine ∧ (s.takeFence req).link = s.link ∧ (s.takeFence req).array = s.array ∧
    (s.takeFence req).syncRecord = s.syncRecord ∧ (s.takeFence req).regions = s.regions ∧
    (s.takeFence req).refresh = s.refresh ∧ (s.takeFence req).params = s.params ∧ (s.takeFence req).shadow = s.shadow ∧
    (s.takeFence req).sequencer = s.sequencer ∧ (s.takeFence req).command = s.command ∧ (s.takeFence req).port = s.port ∧
    (s.takeFence req).freeIndex = s.freeIndex := by unfold State.takeFence; (repeat' split) <;> simp

/-! ### Events of the link and the timers -/

@[simp] theorem State.judgeCopy_frame (s : State) (c : Copy) (v : Verdict) :
    (s.judgeCopy c v).pending = s.pending ∧ (s.judgeCopy c v).now = s.now ∧
    (s.judgeCopy c v).resetAsserted = s.resetAsserted ∧ (s.judgeCopy c v).control = s.control ∧
    (s.judgeCopy c v).entries = s.entries ∧ (s.judgeCopy c v).commitQueue = s.commitQueue ∧
    (s.judgeCopy c v).engine = s.engine ∧ (s.judgeCopy c v).link = s.link ∧ (s.judgeCopy c v).array = s.array ∧
    (s.judgeCopy c v).dtt = s.dtt ∧ (s.judgeCopy c v).syncRecord = s.syncRecord ∧ (s.judgeCopy c v).regions = s.regions ∧
    (s.judgeCopy c v).refresh = s.refresh ∧ (s.judgeCopy c v).params = s.params ∧ (s.judgeCopy c v).shadow = s.shadow ∧
    (s.judgeCopy c v).sequencer = s.sequencer ∧ (s.judgeCopy c v).command = s.command ∧
    (s.judgeCopy c v).counters = s.counters ∧ (s.judgeCopy c v).port = s.port ∧ (s.judgeCopy c v).response = s.response ∧
    (s.judgeCopy c v).freeIndex = s.freeIndex := by unfold State.judgeCopy; (repeat' split) <;> simp

@[simp] theorem State.copyRead_frame (s : State) (bytes : List Byte) :
    (s.copyRead bytes).pending = s.pending ∧ (s.copyRead bytes).now = s.now ∧
    (s.copyRead bytes).resetAsserted = s.resetAsserted ∧ (s.copyRead bytes).control = s.control ∧
    (s.copyRead bytes).entries = s.entries ∧ (s.copyRead bytes).commitQueue = s.commitQueue ∧
    (s.copyRead bytes).engine = s.engine ∧ (s.copyRead bytes).link = s.link ∧ (s.copyRead bytes).array = s.array ∧
    (s.copyRead bytes).dtt = s.dtt ∧ (s.copyRead bytes).syncRecord = s.syncRecord ∧ (s.copyRead bytes).regions = s.regions ∧
    (s.copyRead bytes).refresh = s.refresh ∧ (s.copyRead bytes).params = s.params ∧ (s.copyRead bytes).shadow = s.shadow ∧
    (s.copyRead bytes).command = s.command ∧ (s.copyRead bytes).counters = s.counters ∧ (s.copyRead bytes).port = s.port ∧
    (s.copyRead bytes).response = s.response ∧ (s.copyRead bytes).freeIndex = s.freeIndex := by simp only [State.copyRead]; split <;> simp

@[simp] theorem State.deliver_frame (s : State) (o : Option Owner) (bytes : List Byte) :
    (s.deliver o bytes).pending = s.pending ∧ (s.deliver o bytes).now = s.now ∧
    (s.deliver o bytes).resetAsserted = s.resetAsserted ∧ (s.deliver o bytes).control = s.control ∧
    (s.deliver o bytes).commitQueue = s.commitQueue ∧ (s.deliver o bytes).link = s.link ∧
    (s.deliver o bytes).regions = s.regions ∧ (s.deliver o bytes).params = s.params ∧
    (s.deliver o bytes).shadow = s.shadow ∧ (s.deliver o bytes).port = s.port ∧ (s.deliver o bytes).response = s.response := by unfold State.deliver; (repeat' split) <;> simp

@[simp] theorem State.serveSuspended_frame (s : State) (i : DttIndex) :
    (s.serveSuspended i).pending = s.pending ∧ (s.serveSuspended i).now = s.now ∧
    (s.serveSuspended i).resetAsserted = s.resetAsserted ∧ (s.serveSuspended i).control = s.control ∧
    (s.serveSuspended i).entries = s.entries ∧ (s.serveSuspended i).commitQueue = s.commitQueue ∧
    (s.serveSuspended i).engine = s.engine ∧ (s.serveSuspended i).array = s.array ∧
    (s.serveSuspended i).syncRecord = s.syncRecord ∧ (s.serveSuspended i).regions = s.regions ∧
    (s.serveSuspended i).refresh = s.refresh ∧ (s.serveSuspended i).params = s.params ∧
    (s.serveSuspended i).shadow = s.shadow ∧ (s.serveSuspended i).sequencer = s.sequencer ∧
    (s.serveSuspended i).command = s.command ∧ (s.serveSuspended i).events = s.events ∧
    (s.serveSuspended i).counters = s.counters ∧ (s.serveSuspended i).port = s.port ∧
    (s.serveSuspended i).response = s.response ∧ (s.serveSuspended i).freeIndex = s.freeIndex := by unfold State.serveSuspended; (repeat' split) <;> simp

@[simp] theorem State.discardResult_frame (s : State) (i : DttIndex) :
    (s.discardResult i).pending = s.pending ∧ (s.discardResult i).now = s.now ∧
    (s.discardResult i).resetAsserted = s.resetAsserted ∧ (s.discardResult i).control = s.control ∧
    (s.discardResult i).entries = s.entries ∧ (s.discardResult i).commitQueue = s.commitQueue ∧
    (s.discardResult i).engine = s.engine ∧ (s.discardResult i).link = s.link ∧ (s.discardResult i).array = s.array ∧
    (s.discardResult i).syncRecord = s.syncRecord ∧ (s.discardResult i).regions = s.regions ∧
    (s.discardResult i).refresh = s.refresh ∧ (s.discardResult i).params = s.params ∧
    (s.discardResult i).shadow = s.shadow ∧ (s.discardResult i).sequencer = s.sequencer ∧
    (s.discardResult i).command = s.command ∧ (s.discardResult i).counters = s.counters ∧
    (s.discardResult i).port = s.port ∧ (s.discardResult i).response = s.response ∧
    (s.discardResult i).freeIndex = s.freeIndex := by unfold State.discardResult; (repeat' split) <;> simp

/-! ### Events at the mode controller -/

@[simp] theorem State.setPfail_frame (s : State) (b : Bool) :
    (s.setPfail b).pending = s.pending ∧ (s.setPfail b).now = s.now ∧ (s.setPfail b).resetAsserted = s.resetAsserted ∧
    (s.setPfail b).entries = s.entries ∧ (s.setPfail b).commitQueue = s.commitQueue ∧ (s.setPfail b).engine = s.engine ∧
    (s.setPfail b).link = s.link ∧ (s.setPfail b).array = s.array ∧ (s.setPfail b).dtt = s.dtt ∧
    (s.setPfail b).syncRecord = s.syncRecord ∧ (s.setPfail b).regions = s.regions ∧ (s.setPfail b).refresh = s.refresh ∧
    (s.setPfail b).params = s.params ∧ (s.setPfail b).shadow = s.shadow ∧ (s.setPfail b).sequencer = s.sequencer ∧
    (s.setPfail b).command = s.command ∧ (s.setPfail b).events = s.events ∧ (s.setPfail b).counters = s.counters ∧
    (s.setPfail b).port = s.port ∧ (s.setPfail b).response = s.response ∧ (s.setPfail b).freeIndex = s.freeIndex := by simp [State.setPfail]

@[simp] theorem State.pfailAsserts_frame (s : State) :
    (s.pfailAsserts).pending = s.pending ∧ (s.pfailAsserts).now = s.now ∧ (s.pfailAsserts).resetAsserted = s.resetAsserted ∧
    (s.pfailAsserts).engine = s.engine ∧ (s.pfailAsserts).array = s.array ∧ (s.pfailAsserts).dtt = s.dtt ∧
    (s.pfailAsserts).regions = s.regions ∧ (s.pfailAsserts).params = s.params ∧ (s.pfailAsserts).shadow = s.shadow ∧
    (s.pfailAsserts).sequencer = s.sequencer ∧ (s.pfailAsserts).counters = s.counters ∧ (s.pfailAsserts).port = s.port ∧
    (s.pfailAsserts).response = s.response ∧ (s.pfailAsserts).freeIndex = s.freeIndex := by unfold State.pfailAsserts; (repeat' split) <;> simp

@[simp] theorem State.pfailDeasserts_frame (s : State) :
    (s.pfailDeasserts).pending = s.pending ∧ (s.pfailDeasserts).now = s.now ∧
    (s.pfailDeasserts).resetAsserted = s.resetAsserted ∧ (s.pfailDeasserts).entries = s.entries ∧
    (s.pfailDeasserts).commitQueue = s.commitQueue ∧ (s.pfailDeasserts).engine = s.engine ∧
    (s.pfailDeasserts).link = s.link ∧ (s.pfailDeasserts).array = s.array ∧ (s.pfailDeasserts).dtt = s.dtt ∧
    (s.pfailDeasserts).syncRecord = s.syncRecord ∧ (s.pfailDeasserts).regions = s.regions ∧
    (s.pfailDeasserts).refresh = s.refresh ∧ (s.pfailDeasserts).params = s.params ∧ (s.pfailDeasserts).shadow = s.shadow ∧
    (s.pfailDeasserts).command = s.command ∧ (s.pfailDeasserts).counters = s.counters ∧ (s.pfailDeasserts).port = s.port ∧
    (s.pfailDeasserts).response = s.response ∧ (s.pfailDeasserts).freeIndex = s.freeIndex := by unfold State.pfailDeasserts; (repeat' split) <;> simp

@[simp] theorem State.takeReinitClaim_frame (s : State) :
    (s.takeReinitClaim).pending = s.pending ∧ (s.takeReinitClaim).now = s.now ∧
    (s.takeReinitClaim).resetAsserted = s.resetAsserted ∧ (s.takeReinitClaim).engine = s.engine ∧
    (s.takeReinitClaim).array = s.array ∧ (s.takeReinitClaim).dtt = s.dtt ∧ (s.takeReinitClaim).regions = s.regions ∧
    (s.takeReinitClaim).params = s.params ∧ (s.takeReinitClaim).shadow = s.shadow ∧
    (s.takeReinitClaim).sequencer = s.sequencer ∧ (s.takeReinitClaim).counters = s.counters ∧
    (s.takeReinitClaim).port = s.port ∧ (s.takeReinitClaim).response = s.response ∧
    (s.takeReinitClaim).freeIndex = s.freeIndex := by unfold State.takeReinitClaim; (repeat' split) <;> simp

/-! ### Start-up -/

@[simp] theorem State.takeSize_frame (s : State) (a : BitVec 3) :
    (s.takeSize a).pending = s.pending ∧ (s.takeSize a).now = s.now ∧ (s.takeSize a).resetAsserted = s.resetAsserted ∧
    (s.takeSize a).commitQueue = s.commitQueue ∧ (s.takeSize a).engine = s.engine ∧ (s.takeSize a).link = s.link ∧
    (s.takeSize a).array = s.array ∧ (s.takeSize a).regions = s.regions ∧ (s.takeSize a).refresh = s.refresh ∧
    (s.takeSize a).params = s.params ∧ (s.takeSize a).shadow = s.shadow ∧ (s.takeSize a).counters = s.counters ∧
    (s.takeSize a).port = s.port ∧ (s.takeSize a).response = s.response ∧ (s.takeSize a).freeIndex = s.freeIndex := by unfold State.takeSize; (repeat' split) <;> simp

@[simp] theorem State.issueCopyRead_frame (s : State) (c : Copy) :
    (s.issueCopyRead c).pending = s.pending ∧ (s.issueCopyRead c).now = s.now ∧
    (s.issueCopyRead c).resetAsserted = s.resetAsserted ∧ (s.issueCopyRead c).control = s.control ∧
    (s.issueCopyRead c).entries = s.entries ∧ (s.issueCopyRead c).commitQueue = s.commitQueue ∧
    (s.issueCopyRead c).engine = s.engine ∧ (s.issueCopyRead c).array = s.array ∧ (s.issueCopyRead c).dtt = s.dtt ∧
    (s.issueCopyRead c).syncRecord = s.syncRecord ∧ (s.issueCopyRead c).regions = s.regions ∧
    (s.issueCopyRead c).refresh = s.refresh ∧ (s.issueCopyRead c).params = s.params ∧
    (s.issueCopyRead c).shadow = s.shadow ∧ (s.issueCopyRead c).sequencer = s.sequencer ∧
    (s.issueCopyRead c).command = s.command ∧ (s.issueCopyRead c).events = s.events ∧
    (s.issueCopyRead c).counters = s.counters ∧ (s.issueCopyRead c).port = s.port ∧
    (s.issueCopyRead c).response = s.response ∧ (s.issueCopyRead c).freeIndex = s.freeIndex := by simp [State.issueCopyRead]

@[simp] theorem State.noteDefaults_frame (s : State) :
    (s.noteDefaults).pending = s.pending ∧ (s.noteDefaults).now = s.now ∧ (s.noteDefaults).resetAsserted = s.resetAsserted ∧
    (s.noteDefaults).control = s.control ∧ (s.noteDefaults).entries = s.entries ∧
    (s.noteDefaults).commitQueue = s.commitQueue ∧ (s.noteDefaults).engine = s.engine ∧ (s.noteDefaults).link = s.link ∧
    (s.noteDefaults).array = s.array ∧ (s.noteDefaults).dtt = s.dtt ∧ (s.noteDefaults).syncRecord = s.syncRecord ∧
    (s.noteDefaults).regions = s.regions ∧ (s.noteDefaults).refresh = s.refresh ∧ (s.noteDefaults).params = s.params ∧
    (s.noteDefaults).shadow = s.shadow ∧ (s.noteDefaults).sequencer = s.sequencer ∧ (s.noteDefaults).command = s.command ∧
    (s.noteDefaults).counters = s.counters ∧ (s.noteDefaults).port = s.port ∧ (s.noteDefaults).response = s.response ∧
    (s.noteDefaults).freeIndex = s.freeIndex := by unfold State.noteDefaults; (repeat' split) <;> simp

@[simp] theorem State.refreshApplied_frame (s : State) :
    (s.refreshApplied).pending = s.pending ∧ (s.refreshApplied).now = s.now ∧
    (s.refreshApplied).resetAsserted = s.resetAsserted ∧ (s.refreshApplied).control = s.control ∧
    (s.refreshApplied).entries = s.entries ∧ (s.refreshApplied).commitQueue = s.commitQueue ∧
    (s.refreshApplied).engine = s.engine ∧ (s.refreshApplied).link = s.link ∧ (s.refreshApplied).array = s.array ∧
    (s.refreshApplied).dtt = s.dtt ∧ (s.refreshApplied).syncRecord = s.syncRecord ∧ (s.refreshApplied).regions = s.regions ∧
    (s.refreshApplied).params = s.params ∧ (s.refreshApplied).shadow = s.shadow ∧
    (s.refreshApplied).sequencer = s.sequencer ∧ (s.refreshApplied).command = s.command ∧
    (s.refreshApplied).events = s.events ∧ (s.refreshApplied).counters = s.counters ∧ (s.refreshApplied).port = s.port ∧
    (s.refreshApplied).response = s.response ∧ (s.refreshApplied).freeIndex = s.freeIndex := by unfold State.refreshApplied; (repeat' split) <;> simp

@[simp] theorem State.applyRecord_frame (s : State) (src : Source) (r : ConfigRecord) :
    (s.applyRecord src r).pending = s.pending ∧ (s.applyRecord src r).now = s.now ∧
    (s.applyRecord src r).resetAsserted = s.resetAsserted ∧ (s.applyRecord src r).control = s.control ∧
    (s.applyRecord src r).entries = s.entries ∧ (s.applyRecord src r).commitQueue = s.commitQueue ∧
    (s.applyRecord src r).engine = s.engine ∧ (s.applyRecord src r).link = s.link ∧ (s.applyRecord src r).array = s.array ∧
    (s.applyRecord src r).dtt = s.dtt ∧ (s.applyRecord src r).syncRecord = s.syncRecord ∧
    (s.applyRecord src r).command = s.command ∧ (s.applyRecord src r).counters = s.counters ∧
    (s.applyRecord src r).port = s.port ∧ (s.applyRecord src r).response = s.response := by simp [State.applyRecord]

@[simp] theorem State.applyConfiguration_frame (s : State) :
    (s.applyConfiguration).pending = s.pending ∧ (s.applyConfiguration).now = s.now ∧
    (s.applyConfiguration).resetAsserted = s.resetAsserted ∧ (s.applyConfiguration).control = s.control ∧
    (s.applyConfiguration).entries = s.entries ∧ (s.applyConfiguration).commitQueue = s.commitQueue ∧
    (s.applyConfiguration).engine = s.engine ∧ (s.applyConfiguration).link = s.link ∧
    (s.applyConfiguration).array = s.array ∧ (s.applyConfiguration).dtt = s.dtt ∧
    (s.applyConfiguration).syncRecord = s.syncRecord ∧ (s.applyConfiguration).command = s.command ∧
    (s.applyConfiguration).counters = s.counters ∧ (s.applyConfiguration).port = s.port ∧
    (s.applyConfiguration).response = s.response := by simp [State.applyConfiguration]

@[simp] theorem State.completeStart_frame (s : State) :
    (s.completeStart).pending = s.pending ∧ (s.completeStart).now = s.now ∧
    (s.completeStart).resetAsserted = s.resetAsserted ∧ (s.completeStart).entries = s.entries ∧
    (s.completeStart).commitQueue = s.commitQueue ∧ (s.completeStart).engine = s.engine ∧ (s.completeStart).link = s.link ∧
    (s.completeStart).array = s.array ∧ (s.completeStart).dtt = s.dtt ∧ (s.completeStart).syncRecord = s.syncRecord ∧
    (s.completeStart).regions = s.regions ∧ (s.completeStart).refresh = s.refresh ∧ (s.completeStart).params = s.params ∧
    (s.completeStart).shadow = s.shadow ∧ (s.completeStart).counters = s.counters ∧ (s.completeStart).port = s.port ∧
    (s.completeStart).response = s.response ∧ (s.completeStart).freeIndex = s.freeIndex := by simp [State.completeStart]

/-! ### Commands -/

@[simp] theorem State.overrun_frame (s : State) :
    (s.overrun).pending = s.pending ∧ (s.overrun).now = s.now ∧ (s.overrun).resetAsserted = s.resetAsserted ∧
    (s.overrun).control = s.control ∧ (s.overrun).entries = s.entries ∧ (s.overrun).commitQueue = s.commitQueue ∧
    (s.overrun).engine = s.engine ∧ (s.overrun).link = s.link ∧ (s.overrun).array = s.array ∧ (s.overrun).dtt = s.dtt ∧
    (s.overrun).syncRecord = s.syncRecord ∧ (s.overrun).regions = s.regions ∧ (s.overrun).refresh = s.refresh ∧
    (s.overrun).params = s.params ∧ (s.overrun).shadow = s.shadow ∧ (s.overrun).sequencer = s.sequencer ∧
    (s.overrun).events = s.events ∧ (s.overrun).counters = s.counters ∧ (s.overrun).port = s.port ∧
    (s.overrun).response = s.response ∧ (s.overrun).freeIndex = s.freeIndex := by simp [State.overrun]

@[simp] theorem State.finish_frame (s : State) :
    (s.finish).pending = s.pending ∧ (s.finish).now = s.now ∧ (s.finish).resetAsserted = s.resetAsserted ∧
    (s.finish).control = s.control ∧ (s.finish).entries = s.entries ∧ (s.finish).commitQueue = s.commitQueue ∧
    (s.finish).engine = s.engine ∧ (s.finish).link = s.link ∧ (s.finish).array = s.array ∧ (s.finish).dtt = s.dtt ∧
    (s.finish).syncRecord = s.syncRecord ∧ (s.finish).regions = s.regions ∧ (s.finish).refresh = s.refresh ∧
    (s.finish).params = s.params ∧ (s.finish).shadow = s.shadow ∧ (s.finish).sequencer = s.sequencer ∧
    (s.finish).events = s.events ∧ (s.finish).counters = s.counters ∧ (s.finish).port = s.port ∧
    (s.finish).response = s.response ∧ (s.finish).freeIndex = s.freeIndex := by simp [State.finish]

@[simp] theorem State.beginLong_frame (s : State) :
    (s.beginLong).pending = s.pending ∧ (s.beginLong).now = s.now ∧ (s.beginLong).resetAsserted = s.resetAsserted ∧
    (s.beginLong).control = s.control ∧ (s.beginLong).entries = s.entries ∧ (s.beginLong).commitQueue = s.commitQueue ∧
    (s.beginLong).engine = s.engine ∧ (s.beginLong).link = s.link ∧ (s.beginLong).array = s.array ∧
    (s.beginLong).dtt = s.dtt ∧ (s.beginLong).syncRecord = s.syncRecord ∧ (s.beginLong).regions = s.regions ∧
    (s.beginLong).refresh = s.refresh ∧ (s.beginLong).params = s.params ∧ (s.beginLong).shadow = s.shadow ∧
    (s.beginLong).sequencer = s.sequencer ∧ (s.beginLong).events = s.events ∧ (s.beginLong).counters = s.counters ∧
    (s.beginLong).port = s.port ∧ (s.beginLong).response = s.response ∧ (s.beginLong).freeIndex = s.freeIndex := by simp [State.beginLong]

@[simp] theorem State.noteCommand_frame (s : State) (c : Option MgmtCommand) :
    (s.noteCommand c).pending = s.pending ∧ (s.noteCommand c).now = s.now ∧
    (s.noteCommand c).resetAsserted = s.resetAsserted ∧ (s.noteCommand c).control = s.control ∧
    (s.noteCommand c).entries = s.entries ∧ (s.noteCommand c).commitQueue = s.commitQueue ∧
    (s.noteCommand c).engine = s.engine ∧ (s.noteCommand c).link = s.link ∧ (s.noteCommand c).array = s.array ∧
    (s.noteCommand c).dtt = s.dtt ∧ (s.noteCommand c).syncRecord = s.syncRecord ∧ (s.noteCommand c).regions = s.regions ∧
    (s.noteCommand c).refresh = s.refresh ∧ (s.noteCommand c).params = s.params ∧ (s.noteCommand c).shadow = s.shadow ∧
    (s.noteCommand c).sequencer = s.sequencer ∧ (s.noteCommand c).events = s.events ∧
    (s.noteCommand c).counters = s.counters ∧ (s.noteCommand c).port = s.port ∧ (s.noteCommand c).response = s.response ∧
    (s.noteCommand c).freeIndex = s.freeIndex := by simp [State.noteCommand]

@[simp] theorem State.refuse_frame (s : State) (r : RefusalReason) :
    (s.refuse r).pending = s.pending ∧ (s.refuse r).now = s.now ∧ (s.refuse r).resetAsserted = s.resetAsserted ∧
    (s.refuse r).control = s.control ∧ (s.refuse r).entries = s.entries ∧ (s.refuse r).commitQueue = s.commitQueue ∧
    (s.refuse r).engine = s.engine ∧ (s.refuse r).link = s.link ∧ (s.refuse r).array = s.array ∧ (s.refuse r).dtt = s.dtt ∧
    (s.refuse r).syncRecord = s.syncRecord ∧ (s.refuse r).regions = s.regions ∧ (s.refuse r).refresh = s.refresh ∧
    (s.refuse r).params = s.params ∧ (s.refuse r).shadow = s.shadow ∧ (s.refuse r).sequencer = s.sequencer ∧
    (s.refuse r).events = s.events ∧ (s.refuse r).counters = s.counters ∧ (s.refuse r).port = s.port ∧
    (s.refuse r).response = s.response ∧ (s.refuse r).freeIndex = s.freeIndex := by simp [State.refuse]

@[simp] theorem State.rejectCode_frame (s : State) :
    (s.rejectCode).pending = s.pending ∧ (s.rejectCode).now = s.now ∧ (s.rejectCode).resetAsserted = s.resetAsserted ∧
    (s.rejectCode).control = s.control ∧ (s.rejectCode).entries = s.entries ∧ (s.rejectCode).commitQueue = s.commitQueue ∧
    (s.rejectCode).engine = s.engine ∧ (s.rejectCode).link = s.link ∧ (s.rejectCode).array = s.array ∧
    (s.rejectCode).dtt = s.dtt ∧ (s.rejectCode).syncRecord = s.syncRecord ∧ (s.rejectCode).regions = s.regions ∧
    (s.rejectCode).refresh = s.refresh ∧ (s.rejectCode).params = s.params ∧ (s.rejectCode).shadow = s.shadow ∧
    (s.rejectCode).sequencer = s.sequencer ∧ (s.rejectCode).events = s.events ∧ (s.rejectCode).counters = s.counters ∧
    (s.rejectCode).port = s.port ∧ (s.rejectCode).response = s.response ∧ (s.rejectCode).freeIndex = s.freeIndex := by unfold State.rejectCode; (repeat' split) <;> simp

@[simp] theorem State.awaitSync_frame (s : State) :
    (s.awaitSync).pending = s.pending ∧ (s.awaitSync).now = s.now ∧ (s.awaitSync).resetAsserted = s.resetAsserted ∧
    (s.awaitSync).control = s.control ∧ (s.awaitSync).entries = s.entries ∧ (s.awaitSync).commitQueue = s.commitQueue ∧
    (s.awaitSync).engine = s.engine ∧ (s.awaitSync).link = s.link ∧ (s.awaitSync).array = s.array ∧
    (s.awaitSync).dtt = s.dtt ∧ (s.awaitSync).regions = s.regions ∧ (s.awaitSync).refresh = s.refresh ∧
    (s.awaitSync).params = s.params ∧ (s.awaitSync).shadow = s.shadow ∧ (s.awaitSync).sequencer = s.sequencer ∧
    (s.awaitSync).events = s.events ∧ (s.awaitSync).counters = s.counters ∧ (s.awaitSync).port = s.port ∧
    (s.awaitSync).response = s.response ∧ (s.awaitSync).freeIndex = s.freeIndex := by unfold State.awaitSync; (repeat' split) <;> simp

@[simp] theorem State.acceptSync_frame (s : State) :
    (s.acceptSync).pending = s.pending ∧ (s.acceptSync).now = s.now ∧ (s.acceptSync).resetAsserted = s.resetAsserted ∧
    (s.acceptSync).control = s.control ∧ (s.acceptSync).engine = s.engine ∧ (s.acceptSync).link = s.link ∧
    (s.acceptSync).array = s.array ∧ (s.acceptSync).dtt = s.dtt ∧ (s.acceptSync).regions = s.regions ∧
    (s.acceptSync).refresh = s.refresh ∧ (s.acceptSync).params = s.params ∧ (s.acceptSync).shadow = s.shadow ∧
    (s.acceptSync).sequencer = s.sequencer ∧ (s.acceptSync).events = s.events ∧ (s.acceptSync).counters = s.counters ∧
    (s.acceptSync).port = s.port ∧ (s.acceptSync).response = s.response ∧ (s.acceptSync).freeIndex = s.freeIndex := by simp [State.acceptSync]

@[simp] theorem State.retrySlot_frame (s : State) (i : Slot) :
    (s.retrySlot i).pending = s.pending ∧ (s.retrySlot i).now = s.now ∧ (s.retrySlot i).resetAsserted = s.resetAsserted ∧
    (s.retrySlot i).control = s.control ∧ (s.retrySlot i).engine = s.engine ∧ (s.retrySlot i).link = s.link ∧
    (s.retrySlot i).array = s.array ∧ (s.retrySlot i).dtt = s.dtt ∧ (s.retrySlot i).syncRecord = s.syncRecord ∧
    (s.retrySlot i).regions = s.regions ∧ (s.retrySlot i).refresh = s.refresh ∧ (s.retrySlot i).params = s.params ∧
    (s.retrySlot i).shadow = s.shadow ∧ (s.retrySlot i).sequencer = s.sequencer ∧ (s.retrySlot i).command = s.command ∧
    (s.retrySlot i).events = s.events ∧ (s.retrySlot i).counters = s.counters ∧ (s.retrySlot i).port = s.port ∧
    (s.retrySlot i).response = s.response ∧ (s.retrySlot i).freeIndex = s.freeIndex := by simp [State.retrySlot]

@[simp] theorem State.retryEntry_frame (s : State) :
    (s.retryEntry).pending = s.pending ∧ (s.retryEntry).now = s.now ∧ (s.retryEntry).resetAsserted = s.resetAsserted ∧
    (s.retryEntry).control = s.control ∧ (s.retryEntry).engine = s.engine ∧ (s.retryEntry).link = s.link ∧
    (s.retryEntry).array = s.array ∧ (s.retryEntry).dtt = s.dtt ∧ (s.retryEntry).syncRecord = s.syncRecord ∧
    (s.retryEntry).regions = s.regions ∧ (s.retryEntry).refresh = s.refresh ∧ (s.retryEntry).params = s.params ∧
    (s.retryEntry).shadow = s.shadow ∧ (s.retryEntry).sequencer = s.sequencer ∧ (s.retryEntry).events = s.events ∧
    (s.retryEntry).counters = s.counters ∧ (s.retryEntry).port = s.port ∧ (s.retryEntry).response = s.response ∧
    (s.retryEntry).freeIndex = s.freeIndex := by unfold State.retryEntry; (repeat' split) <;> simp

@[simp] theorem State.discardSlot_frame (s : State) (i : Slot) :
    (s.discardSlot i).pending = s.pending ∧ (s.discardSlot i).now = s.now ∧
    (s.discardSlot i).resetAsserted = s.resetAsserted ∧ (s.discardSlot i).control = s.control ∧
    (s.discardSlot i).commitQueue = s.commitQueue ∧ (s.discardSlot i).engine = s.engine ∧ (s.discardSlot i).link = s.link ∧
    (s.discardSlot i).array = s.array ∧ (s.discardSlot i).dtt = s.dtt ∧ (s.discardSlot i).syncRecord = s.syncRecord ∧
    (s.discardSlot i).regions = s.regions ∧ (s.discardSlot i).refresh = s.refresh ∧ (s.discardSlot i).params = s.params ∧
    (s.discardSlot i).shadow = s.shadow ∧ (s.discardSlot i).sequencer = s.sequencer ∧
    (s.discardSlot i).command = s.command ∧ (s.discardSlot i).counters = s.counters ∧ (s.discardSlot i).port = s.port ∧
    (s.discardSlot i).response = s.response ∧ (s.discardSlot i).freeIndex = s.freeIndex := by simp [State.discardSlot]

@[simp] theorem State.discardEntry_frame (s : State) :
    (s.discardEntry).pending = s.pending ∧ (s.discardEntry).now = s.now ∧ (s.discardEntry).resetAsserted = s.resetAsserted ∧
    (s.discardEntry).control = s.control ∧ (s.discardEntry).commitQueue = s.commitQueue ∧
    (s.discardEntry).engine = s.engine ∧ (s.discardEntry).link = s.link ∧ (s.discardEntry).array = s.array ∧
    (s.discardEntry).dtt = s.dtt ∧ (s.discardEntry).syncRecord = s.syncRecord ∧ (s.discardEntry).regions = s.regions ∧
    (s.discardEntry).refresh = s.refresh ∧ (s.discardEntry).params = s.params ∧ (s.discardEntry).shadow = s.shadow ∧
    (s.discardEntry).sequencer = s.sequencer ∧ (s.discardEntry).counters = s.counters ∧ (s.discardEntry).port = s.port ∧
    (s.discardEntry).response = s.response ∧ (s.discardEntry).freeIndex = s.freeIndex := by unfold State.discardEntry; (repeat' split) <;> simp

@[simp] theorem State.changeRegion_frame (s : State) (n : RegionIndex) (r : Region) :
    (s.changeRegion n r).pending = s.pending ∧ (s.changeRegion n r).now = s.now ∧
    (s.changeRegion n r).resetAsserted = s.resetAsserted ∧ (s.changeRegion n r).control = s.control ∧
    (s.changeRegion n r).entries = s.entries ∧ (s.changeRegion n r).commitQueue = s.commitQueue ∧
    (s.changeRegion n r).engine = s.engine ∧ (s.changeRegion n r).link = s.link ∧ (s.changeRegion n r).array = s.array ∧
    (s.changeRegion n r).dtt = s.dtt ∧ (s.changeRegion n r).syncRecord = s.syncRecord ∧
    (s.changeRegion n r).refresh = s.refresh ∧ (s.changeRegion n r).params = s.params ∧
    (s.changeRegion n r).shadow = s.shadow ∧ (s.changeRegion n r).sequencer = s.sequencer ∧
    (s.changeRegion n r).counters = s.counters ∧ (s.changeRegion n r).port = s.port ∧
    (s.changeRegion n r).response = s.response ∧ (s.changeRegion n r).freeIndex = s.freeIndex := by unfold State.changeRegion; (repeat' split) <;> simp

@[simp] theorem State.setRegionCommand_frame (s : State) :
    (s.setRegionCommand).pending = s.pending ∧ (s.setRegionCommand).now = s.now ∧
    (s.setRegionCommand).resetAsserted = s.resetAsserted ∧ (s.setRegionCommand).control = s.control ∧
    (s.setRegionCommand).entries = s.entries ∧ (s.setRegionCommand).commitQueue = s.commitQueue ∧
    (s.setRegionCommand).engine = s.engine ∧ (s.setRegionCommand).link = s.link ∧ (s.setRegionCommand).array = s.array ∧
    (s.setRegionCommand).dtt = s.dtt ∧ (s.setRegionCommand).syncRecord = s.syncRecord ∧
    (s.setRegionCommand).refresh = s.refresh ∧ (s.setRegionCommand).params = s.params ∧
    (s.setRegionCommand).shadow = s.shadow ∧ (s.setRegionCommand).sequencer = s.sequencer ∧
    (s.setRegionCommand).counters = s.counters ∧ (s.setRegionCommand).port = s.port ∧
    (s.setRegionCommand).response = s.response ∧ (s.setRegionCommand).freeIndex = s.freeIndex := by unfold State.setRegionCommand; (repeat' split) <;> simp

@[simp] theorem State.freeze_frame (s : State) (n : RegionIndex) :
    (s.freeze n).pending = s.pending ∧ (s.freeze n).now = s.now ∧ (s.freeze n).resetAsserted = s.resetAsserted ∧
    (s.freeze n).control = s.control ∧ (s.freeze n).entries = s.entries ∧ (s.freeze n).commitQueue = s.commitQueue ∧
    (s.freeze n).engine = s.engine ∧ (s.freeze n).link = s.link ∧ (s.freeze n).array = s.array ∧ (s.freeze n).dtt = s.dtt ∧
    (s.freeze n).syncRecord = s.syncRecord ∧ (s.freeze n).refresh = s.refresh ∧ (s.freeze n).params = s.params ∧
    (s.freeze n).shadow = s.shadow ∧ (s.freeze n).sequencer = s.sequencer ∧ (s.freeze n).command = s.command ∧
    (s.freeze n).counters = s.counters ∧ (s.freeze n).port = s.port ∧ (s.freeze n).response = s.response ∧
    (s.freeze n).freeIndex = s.freeIndex := by simp [State.freeze]

@[simp] theorem State.freezeRegionCommand_frame (s : State) :
    (s.freezeRegionCommand).pending = s.pending ∧ (s.freezeRegionCommand).now = s.now ∧
    (s.freezeRegionCommand).resetAsserted = s.resetAsserted ∧ (s.freezeRegionCommand).control = s.control ∧
    (s.freezeRegionCommand).entries = s.entries ∧ (s.freezeRegionCommand).commitQueue = s.commitQueue ∧
    (s.freezeRegionCommand).engine = s.engine ∧ (s.freezeRegionCommand).link = s.link ∧
    (s.freezeRegionCommand).array = s.array ∧ (s.freezeRegionCommand).dtt = s.dtt ∧
    (s.freezeRegionCommand).syncRecord = s.syncRecord ∧ (s.freezeRegionCommand).refresh = s.refresh ∧
    (s.freezeRegionCommand).params = s.params ∧ (s.freezeRegionCommand).shadow = s.shadow ∧
    (s.freezeRegionCommand).sequencer = s.sequencer ∧ (s.freezeRegionCommand).counters = s.counters ∧
    (s.freezeRegionCommand).port = s.port ∧ (s.freezeRegionCommand).response = s.response ∧
    (s.freezeRegionCommand).freeIndex = s.freeIndex := by unfold State.freezeRegionCommand; (repeat' split) <;> simp

@[simp] theorem State.stageConfig_frame (s : State) (i : Slot) :
    (s.stageConfig i).pending = s.pending ∧ (s.stageConfig i).now = s.now ∧
    (s.stageConfig i).resetAsserted = s.resetAsserted ∧ (s.stageConfig i).control = s.control ∧
    (s.stageConfig i).engine = s.engine ∧ (s.stageConfig i).link = s.link ∧ (s.stageConfig i).array = s.array ∧
    (s.stageConfig i).dtt = s.dtt ∧ (s.stageConfig i).syncRecord = s.syncRecord ∧ (s.stageConfig i).regions = s.regions ∧
    (s.stageConfig i).refresh = s.refresh ∧ (s.stageConfig i).params = s.params ∧ (s.stageConfig i).events = s.events ∧
    (s.stageConfig i).counters = s.counters ∧ (s.stageConfig i).port = s.port ∧ (s.stageConfig i).response = s.response ∧
    (s.stageConfig i).freeIndex = s.freeIndex := by simp [State.stageConfig]

@[simp] theorem State.writeConfigCommand_frame (s : State) :
    (s.writeConfigCommand).pending = s.pending ∧ (s.writeConfigCommand).now = s.now ∧
    (s.writeConfigCommand).resetAsserted = s.resetAsserted ∧ (s.writeConfigCommand).control = s.control ∧
    (s.writeConfigCommand).engine = s.engine ∧ (s.writeConfigCommand).link = s.link ∧
    (s.writeConfigCommand).array = s.array ∧ (s.writeConfigCommand).dtt = s.dtt ∧
    (s.writeConfigCommand).syncRecord = s.syncRecord ∧ (s.writeConfigCommand).regions = s.regions ∧
    (s.writeConfigCommand).refresh = s.refresh ∧ (s.writeConfigCommand).params = s.params ∧
    (s.writeConfigCommand).events = s.events ∧ (s.writeConfigCommand).counters = s.counters ∧
    (s.writeConfigCommand).port = s.port ∧ (s.writeConfigCommand).response = s.response ∧
    (s.writeConfigCommand).freeIndex = s.freeIndex := by unfold State.writeConfigCommand; (repeat' split) <;> simp

@[simp] theorem State.acceptReinit_frame (s : State) :
    (s.acceptReinit).pending = s.pending ∧ (s.acceptReinit).now = s.now ∧ (s.acceptReinit).resetAsserted = s.resetAsserted ∧
    (s.acceptReinit).entries = s.entries ∧ (s.acceptReinit).commitQueue = s.commitQueue ∧
    (s.acceptReinit).engine = s.engine ∧ (s.acceptReinit).link = s.link ∧ (s.acceptReinit).array = s.array ∧
    (s.acceptReinit).dtt = s.dtt ∧ (s.acceptReinit).syncRecord = s.syncRecord ∧ (s.acceptReinit).regions = s.regions ∧
    (s.acceptReinit).refresh = s.refresh ∧ (s.acceptReinit).params = s.params ∧ (s.acceptReinit).shadow = s.shadow ∧
    (s.acceptReinit).sequencer = s.sequencer ∧ (s.acceptReinit).events = s.events ∧ (s.acceptReinit).counters = s.counters ∧
    (s.acceptReinit).port = s.port ∧ (s.acceptReinit).response = s.response ∧ (s.acceptReinit).freeIndex = s.freeIndex := by simp [State.acceptReinit]

@[simp] theorem State.clearCounters_frame (s : State) :
    (s.clearCounters).pending = s.pending ∧ (s.clearCounters).now = s.now ∧
    (s.clearCounters).resetAsserted = s.resetAsserted ∧ (s.clearCounters).control = s.control ∧
    (s.clearCounters).entries = s.entries ∧ (s.clearCounters).commitQueue = s.commitQueue ∧
    (s.clearCounters).engine = s.engine ∧ (s.clearCounters).link = s.link ∧ (s.clearCounters).array = s.array ∧
    (s.clearCounters).dtt = s.dtt ∧ (s.clearCounters).syncRecord = s.syncRecord ∧ (s.clearCounters).regions = s.regions ∧
    (s.clearCounters).refresh = s.refresh ∧ (s.clearCounters).params = s.params ∧ (s.clearCounters).shadow = s.shadow ∧
    (s.clearCounters).sequencer = s.sequencer ∧ (s.clearCounters).events = s.events ∧ (s.clearCounters).port = s.port ∧
    (s.clearCounters).response = s.response ∧ (s.clearCounters).freeIndex = s.freeIndex := by simp [State.clearCounters]

@[simp] theorem State.inspectCommand_frame (s : State) :
    (s.inspectCommand).pending = s.pending ∧ (s.inspectCommand).now = s.now ∧
    (s.inspectCommand).resetAsserted = s.resetAsserted ∧ (s.inspectCommand).control = s.control ∧
    (s.inspectCommand).entries = s.entries ∧ (s.inspectCommand).commitQueue = s.commitQueue ∧
    (s.inspectCommand).engine = s.engine ∧ (s.inspectCommand).link = s.link ∧ (s.inspectCommand).array = s.array ∧
    (s.inspectCommand).dtt = s.dtt ∧ (s.inspectCommand).syncRecord = s.syncRecord ∧ (s.inspectCommand).regions = s.regions ∧
    (s.inspectCommand).refresh = s.refresh ∧ (s.inspectCommand).params = s.params ∧ (s.inspectCommand).shadow = s.shadow ∧
    (s.inspectCommand).sequencer = s.sequencer ∧ (s.inspectCommand).events = s.events ∧
    (s.inspectCommand).counters = s.counters ∧ (s.inspectCommand).response = s.response ∧
    (s.inspectCommand).freeIndex = s.freeIndex := by unfold State.inspectCommand; (repeat' split) <;> simp

@[simp] theorem State.commandOwner_frame (s : State) (c : MgmtCommand) :
    (commandOwner c s).pending = s.pending ∧ (commandOwner c s).now = s.now ∧
    (commandOwner c s).resetAsserted = s.resetAsserted ∧ (commandOwner c s).engine = s.engine ∧
    (commandOwner c s).link = s.link ∧ (commandOwner c s).array = s.array ∧ (commandOwner c s).dtt = s.dtt ∧
    (commandOwner c s).refresh = s.refresh ∧ (commandOwner c s).params = s.params ∧
    (commandOwner c s).response = s.response ∧ (commandOwner c s).freeIndex = s.freeIndex := by cases c <;> simp [commandOwner]

/-! ### Registers -/

@[simp] theorem State.editShadow_frame (s : State) (i : Fin 82) (v : Byte) :
    (s.editShadow i v).pending = s.pending ∧ (s.editShadow i v).now = s.now ∧
    (s.editShadow i v).resetAsserted = s.resetAsserted ∧ (s.editShadow i v).control = s.control ∧
    (s.editShadow i v).entries = s.entries ∧ (s.editShadow i v).commitQueue = s.commitQueue ∧
    (s.editShadow i v).engine = s.engine ∧ (s.editShadow i v).link = s.link ∧ (s.editShadow i v).array = s.array ∧
    (s.editShadow i v).dtt = s.dtt ∧ (s.editShadow i v).syncRecord = s.syncRecord ∧ (s.editShadow i v).regions = s.regions ∧
    (s.editShadow i v).refresh = s.refresh ∧ (s.editShadow i v).params = s.params ∧
    (s.editShadow i v).sequencer = s.sequencer ∧ (s.editShadow i v).command = s.command ∧
    (s.editShadow i v).events = s.events ∧ (s.editShadow i v).counters = s.counters ∧ (s.editShadow i v).port = s.port ∧
    (s.editShadow i v).response = s.response ∧ (s.editShadow i v).freeIndex = s.freeIndex := by unfold State.editShadow; (repeat' split) <;> simp

@[simp] theorem State.wrote_frame (s : State) (a : Byte) :
    (s.wrote a).pending = s.pending ∧ (s.wrote a).now = s.now ∧ (s.wrote a).resetAsserted = s.resetAsserted ∧
    (s.wrote a).control = s.control ∧ (s.wrote a).entries = s.entries ∧ (s.wrote a).commitQueue = s.commitQueue ∧
    (s.wrote a).engine = s.engine ∧ (s.wrote a).link = s.link ∧ (s.wrote a).array = s.array ∧ (s.wrote a).dtt = s.dtt ∧
    (s.wrote a).syncRecord = s.syncRecord ∧ (s.wrote a).regions = s.regions ∧ (s.wrote a).refresh = s.refresh ∧
    (s.wrote a).params = s.params ∧ (s.wrote a).shadow = s.shadow ∧ (s.wrote a).sequencer = s.sequencer ∧
    (s.wrote a).command = s.command ∧ (s.wrote a).events = s.events ∧ (s.wrote a).counters = s.counters ∧
    (s.wrote a).response = s.response ∧ (s.wrote a).freeIndex = s.freeIndex := by simp [State.wrote]

@[simp] theorem State.returned_frame (s : State) (a v : Byte) :
    (s.returned a v).pending = s.pending ∧ (s.returned a v).now = s.now ∧ (s.returned a v).resetAsserted = s.resetAsserted ∧
    (s.returned a v).control = s.control ∧ (s.returned a v).entries = s.entries ∧
    (s.returned a v).commitQueue = s.commitQueue ∧ (s.returned a v).engine = s.engine ∧ (s.returned a v).link = s.link ∧
    (s.returned a v).array = s.array ∧ (s.returned a v).dtt = s.dtt ∧ (s.returned a v).syncRecord = s.syncRecord ∧
    (s.returned a v).regions = s.regions ∧ (s.returned a v).refresh = s.refresh ∧ (s.returned a v).params = s.params ∧
    (s.returned a v).shadow = s.shadow ∧ (s.returned a v).sequencer = s.sequencer ∧ (s.returned a v).command = s.command ∧
    (s.returned a v).events = s.events ∧ (s.returned a v).counters = s.counters ∧ (s.returned a v).response = s.response ∧
    (s.returned a v).freeIndex = s.freeIndex := by simp [State.returned]

@[simp] theorem State.readEffect_frame (s : State) (a : Byte) :
    (s.readEffect a).pending = s.pending ∧ (s.readEffect a).now = s.now ∧ (s.readEffect a).resetAsserted = s.resetAsserted ∧
    (s.readEffect a).control = s.control ∧ (s.readEffect a).entries = s.entries ∧
    (s.readEffect a).commitQueue = s.commitQueue ∧ (s.readEffect a).engine = s.engine ∧ (s.readEffect a).link = s.link ∧
    (s.readEffect a).array = s.array ∧ (s.readEffect a).dtt = s.dtt ∧ (s.readEffect a).syncRecord = s.syncRecord ∧
    (s.readEffect a).regions = s.regions ∧ (s.readEffect a).refresh = s.refresh ∧ (s.readEffect a).params = s.params ∧
    (s.readEffect a).shadow = s.shadow ∧ (s.readEffect a).sequencer = s.sequencer ∧ (s.readEffect a).command = s.command ∧
    (s.readEffect a).response = s.response ∧ (s.readEffect a).freeIndex = s.freeIndex := by unfold State.readEffect; (repeat' split) <;> simp

@[simp] theorem State.busRead_frame (s : State) (a : Byte) :
    (s.busRead a).pending = s.pending ∧ (s.busRead a).now = s.now ∧ (s.busRead a).resetAsserted = s.resetAsserted ∧
    (s.busRead a).control = s.control ∧ (s.busRead a).entries = s.entries ∧ (s.busRead a).commitQueue = s.commitQueue ∧
    (s.busRead a).engine = s.engine ∧ (s.busRead a).link = s.link ∧ (s.busRead a).array = s.array ∧
    (s.busRead a).dtt = s.dtt ∧ (s.busRead a).syncRecord = s.syncRecord ∧ (s.busRead a).regions = s.regions ∧
    (s.busRead a).refresh = s.refresh ∧ (s.busRead a).params = s.params ∧ (s.busRead a).shadow = s.shadow ∧
    (s.busRead a).sequencer = s.sequencer ∧ (s.busRead a).command = s.command ∧ (s.busRead a).response = s.response ∧
    (s.busRead a).freeIndex = s.freeIndex := by simp [State.busRead]

@[simp] theorem State.writeCmd_frame (s : State) (v : Byte) :
    (s.writeCmd v).pending = s.pending ∧ (s.writeCmd v).now = s.now ∧ (s.writeCmd v).resetAsserted = s.resetAsserted ∧
    (s.writeCmd v).engine = s.engine ∧ (s.writeCmd v).link = s.link ∧ (s.writeCmd v).array = s.array ∧
    (s.writeCmd v).dtt = s.dtt ∧ (s.writeCmd v).refresh = s.refresh ∧ (s.writeCmd v).params = s.params ∧
    (s.writeCmd v).response = s.response ∧ (s.writeCmd v).freeIndex = s.freeIndex := by unfold State.writeCmd State.runCommand; (repeat' split) <;> simp

@[simp] theorem State.writeArg_frame (s : State) (k : Fin 8) (v : Byte) :
    (s.writeArg k v).pending = s.pending ∧ (s.writeArg k v).now = s.now ∧ (s.writeArg k v).resetAsserted = s.resetAsserted ∧
    (s.writeArg k v).control = s.control ∧ (s.writeArg k v).entries = s.entries ∧
    (s.writeArg k v).commitQueue = s.commitQueue ∧ (s.writeArg k v).engine = s.engine ∧ (s.writeArg k v).link = s.link ∧
    (s.writeArg k v).array = s.array ∧ (s.writeArg k v).dtt = s.dtt ∧ (s.writeArg k v).syncRecord = s.syncRecord ∧
    (s.writeArg k v).regions = s.regions ∧ (s.writeArg k v).refresh = s.refresh ∧ (s.writeArg k v).params = s.params ∧
    (s.writeArg k v).shadow = s.shadow ∧ (s.writeArg k v).sequencer = s.sequencer ∧ (s.writeArg k v).command = s.command ∧
    (s.writeArg k v).events = s.events ∧ (s.writeArg k v).counters = s.counters ∧ (s.writeArg k v).response = s.response ∧
    (s.writeArg k v).freeIndex = s.freeIndex := by simp [State.writeArg]

@[simp] theorem State.writeCfgIndex_frame (s : State) (v : Byte) :
    (s.writeCfgIndex v).pending = s.pending ∧ (s.writeCfgIndex v).now = s.now ∧
    (s.writeCfgIndex v).resetAsserted = s.resetAsserted ∧ (s.writeCfgIndex v).control = s.control ∧
    (s.writeCfgIndex v).entries = s.entries ∧ (s.writeCfgIndex v).commitQueue = s.commitQueue ∧
    (s.writeCfgIndex v).engine = s.engine ∧ (s.writeCfgIndex v).link = s.link ∧ (s.writeCfgIndex v).array = s.array ∧
    (s.writeCfgIndex v).dtt = s.dtt ∧ (s.writeCfgIndex v).syncRecord = s.syncRecord ∧
    (s.writeCfgIndex v).regions = s.regions ∧ (s.writeCfgIndex v).refresh = s.refresh ∧
    (s.writeCfgIndex v).params = s.params ∧ (s.writeCfgIndex v).shadow = s.shadow ∧
    (s.writeCfgIndex v).sequencer = s.sequencer ∧ (s.writeCfgIndex v).command = s.command ∧
    (s.writeCfgIndex v).events = s.events ∧ (s.writeCfgIndex v).counters = s.counters ∧
    (s.writeCfgIndex v).response = s.response ∧ (s.writeCfgIndex v).freeIndex = s.freeIndex := by simp [State.writeCfgIndex]

@[simp] theorem State.writeCfgData_frame (s : State) (v : Byte) :
    (s.writeCfgData v).pending = s.pending ∧ (s.writeCfgData v).now = s.now ∧
    (s.writeCfgData v).resetAsserted = s.resetAsserted ∧ (s.writeCfgData v).control = s.control ∧
    (s.writeCfgData v).entries = s.entries ∧ (s.writeCfgData v).commitQueue = s.commitQueue ∧
    (s.writeCfgData v).engine = s.engine ∧ (s.writeCfgData v).link = s.link ∧ (s.writeCfgData v).array = s.array ∧
    (s.writeCfgData v).dtt = s.dtt ∧ (s.writeCfgData v).syncRecord = s.syncRecord ∧ (s.writeCfgData v).regions = s.regions ∧
    (s.writeCfgData v).refresh = s.refresh ∧ (s.writeCfgData v).params = s.params ∧
    (s.writeCfgData v).sequencer = s.sequencer ∧ (s.writeCfgData v).command = s.command ∧
    (s.writeCfgData v).events = s.events ∧ (s.writeCfgData v).counters = s.counters ∧
    (s.writeCfgData v).response = s.response ∧ (s.writeCfgData v).freeIndex = s.freeIndex := by simp [State.writeCfgData]

@[simp] theorem State.writeEffect_frame (s : State) (a v : Byte) :
    (s.writeEffect a v).pending = s.pending ∧ (s.writeEffect a v).now = s.now ∧
    (s.writeEffect a v).resetAsserted = s.resetAsserted ∧ (s.writeEffect a v).engine = s.engine ∧
    (s.writeEffect a v).link = s.link ∧ (s.writeEffect a v).array = s.array ∧ (s.writeEffect a v).dtt = s.dtt ∧
    (s.writeEffect a v).refresh = s.refresh ∧ (s.writeEffect a v).params = s.params ∧
    (s.writeEffect a v).response = s.response ∧ (s.writeEffect a v).freeIndex = s.freeIndex := by unfold State.writeEffect; (repeat' split) <;> simp

@[simp] theorem State.busWrite_frame (s : State) (a v : Byte) :
    (s.busWrite a v).pending = s.pending ∧ (s.busWrite a v).now = s.now ∧ (s.busWrite a v).resetAsserted = s.resetAsserted ∧
    (s.busWrite a v).engine = s.engine ∧ (s.busWrite a v).link = s.link ∧ (s.busWrite a v).array = s.array ∧
    (s.busWrite a v).dtt = s.dtt ∧ (s.busWrite a v).refresh = s.refresh ∧ (s.busWrite a v).params = s.params ∧
    (s.busWrite a v).response = s.response ∧ (s.busWrite a v).freeIndex = s.freeIndex := by simp [State.busWrite]

end Sys2Proof.Machine
end

