-- ==== Sys2Proof/Laws/Meanings.lean ====
section
/-! SUPPORT. For each command, the fields of the state that its meaning leaves as they are, in one lemma each. -/

namespace Sys2Proof.Machine


theorem execWriteRequest_frame (req : Requester) (addr : BitVec 24) (len : BitVec 7) (data : List Byte) (s t : State) (h : execWriteRequest req addr len data s = .next t) :
    t.pending = s.pending ∧ t.now = s.now ∧ t.resetAsserted = s.resetAsserted ∧ t.control = s.control ∧
    t.engine = s.engine ∧ t.link = s.link ∧ t.array = s.array ∧ t.syncRecord = s.syncRecord ∧ t.regions = s.regions ∧
    t.refresh = s.refresh ∧ t.params = s.params ∧ t.shadow = s.shadow ∧ t.sequencer = s.sequencer ∧ t.command = s.command ∧
    t.port = s.port ∧ t.freeIndex = s.freeIndex := by
  cases h
  (repeat' split) <;> simp

theorem execReadRequest_frame (req : Requester) (addr : BitVec 24) (len : BitVec 7) (s t : State) (h : execReadRequest req addr len s = .next t) :
    t.pending = s.pending ∧ t.now = s.now ∧ t.resetAsserted = s.resetAsserted ∧ t.control = s.control ∧
    t.entries = s.entries ∧ t.commitQueue = s.commitQueue ∧ t.engine = s.engine ∧ t.link = s.link ∧ t.array = s.array ∧
    t.syncRecord = s.syncRecord ∧ t.regions = s.regions ∧ t.refresh = s.refresh ∧ t.params = s.params ∧
    t.shadow = s.shadow ∧ t.sequencer = s.sequencer ∧ t.command = s.command ∧ t.port = s.port ∧ t.freeIndex = s.freeIndex := by
  cases h
  (repeat' split) <;> simp

theorem execFenceRequest_frame (req : Requester) (s t : State) (h : execFenceRequest req s = .next t) :
    t.pending = s.pending ∧ t.now = s.now ∧ t.resetAsserted = s.resetAsserted ∧ t.control = s.control ∧
    t.engine = s.engine ∧ t.link = s.link ∧ t.array = s.array ∧ t.syncRecord = s.syncRecord ∧ t.regions = s.regions ∧
    t.refresh = s.refresh ∧ t.params = s.params ∧ t.shadow = s.shadow ∧ t.sequencer = s.sequencer ∧ t.command = s.command ∧
    t.port = s.port ∧ t.freeIndex = s.freeIndex := by
  cases h
  (repeat' split) <;> simp

theorem execInvalidKindRequest_frame (req : Requester) (addr : BitVec 24) (s t : State) (h : execInvalidKindRequest req addr s = .next t) :
    t.pending = s.pending ∧ t.now = s.now ∧ t.resetAsserted = s.resetAsserted ∧ t.control = s.control ∧
    t.entries = s.entries ∧ t.commitQueue = s.commitQueue ∧ t.engine = s.engine ∧ t.link = s.link ∧ t.array = s.array ∧
    t.dtt = s.dtt ∧ t.syncRecord = s.syncRecord ∧ t.regions = s.regions ∧ t.refresh = s.refresh ∧ t.params = s.params ∧
    t.shadow = s.shadow ∧ t.sequencer = s.sequencer ∧ t.command = s.command ∧ t.counters = s.counters ∧ t.port = s.port ∧
    t.freeIndex = s.freeIndex := by
  cases h
  (repeat' split) <;> simp

theorem execIdleTimerExpiry_frame (slot : Slot) (s t : State) (h : execIdleTimerExpiry slot s = .next t) :
    t.pending = s.pending ∧ t.now = s.now ∧ t.resetAsserted = s.resetAsserted ∧ t.control = s.control ∧
    t.engine = s.engine ∧ t.link = s.link ∧ t.array = s.array ∧ t.dtt = s.dtt ∧ t.syncRecord = s.syncRecord ∧
    t.regions = s.regions ∧ t.refresh = s.refresh ∧ t.params = s.params ∧ t.shadow = s.shadow ∧ t.sequencer = s.sequencer ∧
    t.command = s.command ∧ t.events = s.events ∧ t.counters = s.counters ∧ t.port = s.port ∧ t.response = s.response ∧
    t.freeIndex = s.freeIndex := by
  cases h
  (repeat' split) <;> simp

theorem execOpenAgeTimerExpiry_frame (slot : Slot) (s t : State) (h : execOpenAgeTimerExpiry slot s = .next t) :
    t.pending = s.pending ∧ t.now = s.now ∧ t.resetAsserted = s.resetAsserted ∧ t.control = s.control ∧
    t.engine = s.engine ∧ t.link = s.link ∧ t.array = s.array ∧ t.dtt = s.dtt ∧ t.syncRecord = s.syncRecord ∧
    t.regions = s.regions ∧ t.refresh = s.refresh ∧ t.params = s.params ∧ t.shadow = s.shadow ∧ t.sequencer = s.sequencer ∧
    t.command = s.command ∧ t.events = s.events ∧ t.counters = s.counters ∧ t.port = s.port ∧ t.response = s.response ∧
    t.freeIndex = s.freeIndex := by
  cases h
  (repeat' split) <;> simp

theorem execTakeHead_frame (s t : State) (h : execTakeHead s = .next t) :
    t.pending = s.pending ∧ t.now = s.now ∧ t.resetAsserted = s.resetAsserted ∧ t.control = s.control ∧ t.link = s.link ∧
    t.array = s.array ∧ t.dtt = s.dtt ∧ t.syncRecord = s.syncRecord ∧ t.regions = s.regions ∧ t.refresh = s.refresh ∧
    t.params = s.params ∧ t.shadow = s.shadow ∧ t.sequencer = s.sequencer ∧ t.command = s.command ∧ t.events = s.events ∧
    t.counters = s.counters ∧ t.port = s.port ∧ t.response = s.response ∧ t.freeIndex = s.freeIndex := by
  cases h
  (repeat' split) <;> simp

theorem execArbiterDecision_frame (s t : State) (h : execArbiterDecision s = .next t) :
    t.pending = s.pending ∧ t.now = s.now ∧ t.resetAsserted = s.resetAsserted ∧ t.control = s.control ∧
    t.entries = s.entries ∧ t.commitQueue = s.commitQueue ∧ t.syncRecord = s.syncRecord ∧ t.regions = s.regions ∧
    t.refresh = s.refresh ∧ t.params = s.params ∧ t.shadow = s.shadow ∧ t.sequencer = s.sequencer ∧ t.command = s.command ∧
    t.events = s.events ∧ t.counters = s.counters ∧ t.port = s.port ∧ t.response = s.response ∧ t.freeIndex = s.freeIndex := by
  cases h
  (repeat' split) <;> simp

theorem execLongOperationAccepted_frame (s t : State) (h : execLongOperationAccepted s = .next t) :
    t.pending = s.pending ∧ t.now = s.now ∧ t.resetAsserted = s.resetAsserted ∧ t.control = s.control ∧
    t.entries = s.entries ∧ t.commitQueue = s.commitQueue ∧ t.engine = s.engine ∧ t.array = s.array ∧ t.dtt = s.dtt ∧
    t.syncRecord = s.syncRecord ∧ t.regions = s.regions ∧ t.refresh = s.refresh ∧ t.params = s.params ∧
    t.shadow = s.shadow ∧ t.sequencer = s.sequencer ∧ t.command = s.command ∧ t.events = s.events ∧
    t.counters = s.counters ∧ t.port = s.port ∧ t.response = s.response ∧ t.freeIndex = s.freeIndex := by
  cases h
  (repeat' split) <;> simp

theorem execReadCompletion_frame (bytes : List Byte) (s t : State) (h : execReadCompletion bytes s = .next t) :
    t.pending = s.pending ∧ t.now = s.now ∧ t.resetAsserted = s.resetAsserted ∧ t.control = s.control ∧
    t.commitQueue = s.commitQueue ∧ t.regions = s.regions ∧ t.params = s.params ∧ t.shadow = s.shadow ∧ t.port = s.port ∧
    t.response = s.response := by
  cases h
  (repeat' split) <;> simp

theorem execPollTime_frame (s t : State) (h : execPollTime s = .next t) :
    t.pending = s.pending ∧ t.now = s.now ∧ t.resetAsserted = s.resetAsserted ∧ t.control = s.control ∧
    t.entries = s.entries ∧ t.commitQueue = s.commitQueue ∧ t.engine = s.engine ∧ t.array = s.array ∧ t.dtt = s.dtt ∧
    t.syncRecord = s.syncRecord ∧ t.regions = s.regions ∧ t.refresh = s.refresh ∧ t.params = s.params ∧
    t.shadow = s.shadow ∧ t.sequencer = s.sequencer ∧ t.command = s.command ∧ t.events = s.events ∧
    t.counters = s.counters ∧ t.port = s.port ∧ t.response = s.response ∧ t.freeIndex = s.freeIndex := by
  cases h
  (repeat' split) <;> simp

theorem execSuspendAccepted_frame (s t : State) (h : execSuspendAccepted s = .next t) :
    t.pending = s.pending ∧ t.now = s.now ∧ t.resetAsserted = s.resetAsserted ∧ t.control = s.control ∧
    t.entries = s.entries ∧ t.commitQueue = s.commitQueue ∧ t.engine = s.engine ∧ t.array = s.array ∧ t.dtt = s.dtt ∧
    t.syncRecord = s.syncRecord ∧ t.regions = s.regions ∧ t.refresh = s.refresh ∧ t.params = s.params ∧
    t.shadow = s.shadow ∧ t.sequencer = s.sequencer ∧ t.command = s.command ∧ t.events = s.events ∧
    t.counters = s.counters ∧ t.port = s.port ∧ t.response = s.response ∧ t.freeIndex = s.freeIndex := by
  cases h
  (repeat' split) <;> simp

theorem execStatusReply_frame (cond : DeviceCondition) (failFlag : Bool) (s t : State) (h : execStatusReply cond failFlag s = .next t) :
    t.pending = s.pending ∧ t.now = s.now ∧ t.resetAsserted = s.resetAsserted ∧ t.control = s.control ∧
    t.commitQueue = s.commitQueue ∧ t.regions = s.regions ∧ t.params = s.params ∧ t.shadow = s.shadow ∧ t.port = s.port ∧
    t.response = s.response := by
  cases h
  (repeat' split) <;> simp

theorem execSuspendedFetchStep_frame (s t : State) (h : execSuspendedFetchStep s = .next t) :
    t.pending = s.pending ∧ t.now = s.now ∧ t.resetAsserted = s.resetAsserted ∧ t.control = s.control ∧
    t.entries = s.entries ∧ t.commitQueue = s.commitQueue ∧ t.engine = s.engine ∧ t.array = s.array ∧
    t.syncRecord = s.syncRecord ∧ t.regions = s.regions ∧ t.refresh = s.refresh ∧ t.params = s.params ∧
    t.shadow = s.shadow ∧ t.sequencer = s.sequencer ∧ t.command = s.command ∧ t.events = s.events ∧
    t.counters = s.counters ∧ t.port = s.port ∧ t.response = s.response ∧ t.freeIndex = s.freeIndex := by
  cases h
  (repeat' split) <;> simp

theorem execEndSuspension_frame (s t : State) (h : execEndSuspension s = .next t) :
    t.pending = s.pending ∧ t.now = s.now ∧ t.resetAsserted = s.resetAsserted ∧ t.control = s.control ∧
    t.entries = s.entries ∧ t.commitQueue = s.commitQueue ∧ t.engine = s.engine ∧ t.array = s.array ∧ t.dtt = s.dtt ∧
    t.syncRecord = s.syncRecord ∧ t.regions = s.regions ∧ t.refresh = s.refresh ∧ t.params = s.params ∧
    t.shadow = s.shadow ∧ t.sequencer = s.sequencer ∧ t.command = s.command ∧ t.events = s.events ∧
    t.counters = s.counters ∧ t.port = s.port ∧ t.response = s.response ∧ t.freeIndex = s.freeIndex := by
  cases h
  (repeat' split) <;> simp

theorem execResumeAccepted_frame (s t : State) (h : execResumeAccepted s = .next t) :
    t.pending = s.pending ∧ t.now = s.now ∧ t.resetAsserted = s.resetAsserted ∧ t.control = s.control ∧
    t.entries = s.entries ∧ t.commitQueue = s.commitQueue ∧ t.engine = s.engine ∧ t.array = s.array ∧ t.dtt = s.dtt ∧
    t.syncRecord = s.syncRecord ∧ t.regions = s.regions ∧ t.refresh = s.refresh ∧ t.params = s.params ∧
    t.shadow = s.shadow ∧ t.sequencer = s.sequencer ∧ t.command = s.command ∧ t.events = s.events ∧
    t.counters = s.counters ∧ t.port = s.port ∧ t.response = s.response ∧ t.freeIndex = s.freeIndex := by
  cases h
  (repeat' split) <;> simp

theorem execOperationTimerExpiry_frame (s t : State) (h : execOperationTimerExpiry s = .next t) :
    t.pending = s.pending ∧ t.now = s.now ∧ t.resetAsserted = s.resetAsserted ∧ t.control = s.control ∧
    t.entries = s.entries ∧ t.commitQueue = s.commitQueue ∧ t.engine = s.engine ∧ t.array = s.array ∧ t.dtt = s.dtt ∧
    t.syncRecord = s.syncRecord ∧ t.regions = s.regions ∧ t.refresh = s.refresh ∧ t.params = s.params ∧
    t.shadow = s.shadow ∧ t.sequencer = s.sequencer ∧ t.command = s.command ∧ t.counters = s.counters ∧ t.port = s.port ∧
    t.response = s.response ∧ t.freeIndex = s.freeIndex := by
  cases h
  (repeat' split) <;> simp

theorem execSuspendWaitTimerExpiry_frame (s t : State) (h : execSuspendWaitTimerExpiry s = .next t) :
    t.pending = s.pending ∧ t.now = s.now ∧ t.resetAsserted = s.resetAsserted ∧ t.control = s.control ∧
    t.entries = s.entries ∧ t.commitQueue = s.commitQueue ∧ t.engine = s.engine ∧ t.array = s.array ∧ t.dtt = s.dtt ∧
    t.syncRecord = s.syncRecord ∧ t.regions = s.regions ∧ t.refresh = s.refresh ∧ t.params = s.params ∧
    t.shadow = s.shadow ∧ t.sequencer = s.sequencer ∧ t.command = s.command ∧ t.counters = s.counters ∧ t.port = s.port ∧
    t.response = s.response ∧ t.freeIndex = s.freeIndex := by
  cases h
  (repeat' split) <;> simp

theorem execResetAccepted_frame (s t : State) (h : execResetAccepted s = .next t) :
    t.pending = s.pending ∧ t.now = s.now ∧ t.resetAsserted = s.resetAsserted ∧ t.control = s.control ∧
    t.entries = s.entries ∧ t.commitQueue = s.commitQueue ∧ t.engine = s.engine ∧ t.array = s.array ∧ t.dtt = s.dtt ∧
    t.syncRecord = s.syncRecord ∧ t.regions = s.regions ∧ t.refresh = s.refresh ∧ t.params = s.params ∧
    t.shadow = s.shadow ∧ t.sequencer = s.sequencer ∧ t.command = s.command ∧ t.counters = s.counters ∧ t.port = s.port ∧
    t.response = s.response ∧ t.freeIndex = s.freeIndex := by
  cases h
  (repeat' split) <;> simp

theorem execResetWaitTimerExpiry_frame (s t : State) (h : execResetWaitTimerExpiry s = .next t) :
    t.pending = s.pending ∧ t.now = s.now ∧ t.resetAsserted = s.resetAsserted ∧ t.commitQueue = s.commitQueue ∧
    t.array = s.array ∧ t.regions = s.regions ∧ t.refresh = s.refresh ∧ t.params = s.params ∧ t.shadow = s.shadow ∧
    t.counters = s.counters ∧ t.port = s.port ∧ t.response = s.response := by
  cases h
  (repeat' split) <;> simp

theorem execDiscardTimerExpiry_frame (index : DttIndex) (s t : State) (h : execDiscardTimerExpiry index s = .next t) :
    t.pending = s.pending ∧ t.now = s.now ∧ t.resetAsserted = s.resetAsserted ∧ t.control = s.control ∧
    t.entries = s.entries ∧ t.commitQueue = s.commitQueue ∧ t.engine = s.engine ∧ t.link = s.link ∧ t.array = s.array ∧
    t.syncRecord = s.syncRecord ∧ t.regions = s.regions ∧ t.refresh = s.refresh ∧ t.params = s.params ∧
    t.shadow = s.shadow ∧ t.sequencer = s.sequencer ∧ t.command = s.command ∧ t.counters = s.counters ∧ t.port = s.port ∧
    t.response = s.response ∧ t.freeIndex = s.freeIndex := by
  cases h
  (repeat' split) <;> simp

theorem execRefreshStep_frame (s t : State) (h : execRefreshStep s = .next t) :
    t.pending = s.pending ∧ t.now = s.now ∧ t.resetAsserted = s.resetAsserted ∧ t.control = s.control ∧
    t.engine = s.engine ∧ t.link = s.link ∧ t.array = s.array ∧ t.dtt = s.dtt ∧ t.syncRecord = s.syncRecord ∧
    t.regions = s.regions ∧ t.params = s.params ∧ t.shadow = s.shadow ∧ t.sequencer = s.sequencer ∧ t.command = s.command ∧
    t.events = s.events ∧ t.counters = s.counters ∧ t.port = s.port ∧ t.response = s.response ∧ t.freeIndex = s.freeIndex := by
  cases h
  (repeat' split) <;> simp

theorem execPfailAssertion_frame (s t : State) (h : execPfailAssertion s = .next t) :
    t.pending = s.pending ∧ t.now = s.now ∧ t.resetAsserted = s.resetAsserted ∧ t.engine = s.engine ∧ t.array = s.array ∧
    t.dtt = s.dtt ∧ t.regions = s.regions ∧ t.params = s.params ∧ t.shadow = s.shadow ∧ t.sequencer = s.sequencer ∧
    t.counters = s.counters ∧ t.port = s.port ∧ t.response = s.response ∧ t.freeIndex = s.freeIndex := by
  cases h
  (repeat' split) <;> simp

theorem execPfailDeassertion_frame (s t : State) (h : execPfailDeassertion s = .next t) :
    t.pending = s.pending ∧ t.now = s.now ∧ t.resetAsserted = s.resetAsserted ∧ t.entries = s.entries ∧
    t.commitQueue = s.commitQueue ∧ t.engine = s.engine ∧ t.link = s.link ∧ t.array = s.array ∧ t.dtt = s.dtt ∧
    t.syncRecord = s.syncRecord ∧ t.regions = s.regions ∧ t.refresh = s.refresh ∧ t.params = s.params ∧
    t.shadow = s.shadow ∧ t.command = s.command ∧ t.counters = s.counters ∧ t.port = s.port ∧ t.response = s.response ∧
    t.freeIndex = s.freeIndex := by
  cases h
  (repeat' split) <;> simp

theorem execDeferredDrainStart_frame (s t : State) (h : execDeferredDrainStart s = .next t) :
    t.pending = s.pending ∧ t.now = s.now ∧ t.resetAsserted = s.resetAsserted ∧ t.engine = s.engine ∧ t.array = s.array ∧
    t.dtt = s.dtt ∧ t.regions = s.regions ∧ t.params = s.params ∧ t.shadow = s.shadow ∧ t.sequencer = s.sequencer ∧
    t.counters = s.counters ∧ t.port = s.port ∧ t.response = s.response ∧ t.freeIndex = s.freeIndex := by
  cases h
  (repeat' split) <;> simp

theorem execReinitClaim_frame (s t : State) (h : execReinitClaim s = .next t) :
    t.pending = s.pending ∧ t.now = s.now ∧ t.resetAsserted = s.resetAsserted ∧ t.engine = s.engine ∧ t.array = s.array ∧
    t.dtt = s.dtt ∧ t.regions = s.regions ∧ t.params = s.params ∧ t.shadow = s.shadow ∧ t.sequencer = s.sequencer ∧
    t.counters = s.counters ∧ t.port = s.port ∧ t.response = s.response ∧ t.freeIndex = s.freeIndex := by
  cases h
  (repeat' split) <;> simp

theorem execDrainCompletion_frame (s t : State) (h : execDrainCompletion s = .next t) :
    t.pending = s.pending ∧ t.now = s.now ∧ t.resetAsserted = s.resetAsserted ∧ t.entries = s.entries ∧
    t.commitQueue = s.commitQueue ∧ t.engine = s.engine ∧ t.link = s.link ∧ t.array = s.array ∧ t.dtt = s.dtt ∧
    t.syncRecord = s.syncRecord ∧ t.regions = s.regions ∧ t.refresh = s.refresh ∧ t.params = s.params ∧
    t.shadow = s.shadow ∧ t.command = s.command ∧ t.counters = s.counters ∧ t.port = s.port ∧ t.response = s.response ∧
    t.freeIndex = s.freeIndex := by
  cases h
  (repeat' split) <;> simp

theorem execPowerOn_frame (pfail : Bool) (maddr : BitVec 2) (s t : State) (h : execPowerOn pfail maddr s = .next t) :
    t.pending = s.pending ∧ t.array = s.array ∧ t.freeIndex = s.freeIndex := by
  cases h
  simp [State.poweredOn]

theorem execResetNAssertion_frame (s t : State) (h : execResetNAssertion s = .next t) :
    t.pending = s.pending ∧ t.now = s.now ∧ t.array = s.array ∧ t.shadow = s.shadow ∧ t.freeIndex = s.freeIndex := by
  cases h
  split <;> simp [State.resetNAsserted]

theorem execResetNDeassertion_frame (pfail : Bool) (maddr : BitVec 2) (s t : State) (h : execResetNDeassertion pfail maddr s = .next t) :
    t.pending = s.pending ∧ t.now = s.now ∧ t.entries = s.entries ∧ t.commitQueue = s.commitQueue ∧ t.engine = s.engine ∧
    t.link = s.link ∧ t.array = s.array ∧ t.dtt = s.dtt ∧ t.syncRecord = s.syncRecord ∧ t.regions = s.regions ∧
    t.refresh = s.refresh ∧ t.params = s.params ∧ t.shadow = s.shadow ∧ t.command = s.command ∧ t.events = s.events ∧
    t.counters = s.counters ∧ t.response = s.response ∧ t.freeIndex = s.freeIndex := by
  cases h
  split <;> simp [State.resetNDeasserted]

theorem execSize_frame (asize : BitVec 3) (s t : State) (h : execSize asize s = .next t) :
    t.pending = s.pending ∧ t.now = s.now ∧ t.resetAsserted = s.resetAsserted ∧ t.commitQueue = s.commitQueue ∧
    t.engine = s.engine ∧ t.link = s.link ∧ t.array = s.array ∧ t.regions = s.regions ∧ t.refresh = s.refresh ∧
    t.params = s.params ∧ t.shadow = s.shadow ∧ t.counters = s.counters ∧ t.port = s.port ∧ t.response = s.response ∧
    t.freeIndex = s.freeIndex := by
  cases h
  (repeat' split) <;> simp

theorem execDeviceReset_frame (s t : State) (h : execDeviceReset s = .next t) :
    t.pending = s.pending ∧ t.now = s.now ∧ t.resetAsserted = s.resetAsserted ∧ t.control = s.control ∧
    t.entries = s.entries ∧ t.commitQueue = s.commitQueue ∧ t.engine = s.engine ∧ t.array = s.array ∧ t.dtt = s.dtt ∧
    t.syncRecord = s.syncRecord ∧ t.regions = s.regions ∧ t.refresh = s.refresh ∧ t.params = s.params ∧
    t.shadow = s.shadow ∧ t.sequencer = s.sequencer ∧ t.command = s.command ∧ t.events = s.events ∧
    t.counters = s.counters ∧ t.port = s.port ∧ t.response = s.response ∧ t.freeIndex = s.freeIndex := by
  cases h
  (repeat' split) <;> simp

theorem execReadA_frame (s t : State) (h : execReadA s = .next t) :
    t.pending = s.pending ∧ t.now = s.now ∧ t.resetAsserted = s.resetAsserted ∧ t.control = s.control ∧
    t.entries = s.entries ∧ t.commitQueue = s.commitQueue ∧ t.engine = s.engine ∧ t.array = s.array ∧ t.dtt = s.dtt ∧
    t.syncRecord = s.syncRecord ∧ t.regions = s.regions ∧ t.refresh = s.refresh ∧ t.params = s.params ∧
    t.shadow = s.shadow ∧ t.sequencer = s.sequencer ∧ t.command = s.command ∧ t.events = s.events ∧
    t.counters = s.counters ∧ t.port = s.port ∧ t.response = s.response ∧ t.freeIndex = s.freeIndex := by
  cases h
  (repeat' split) <;> simp

theorem execReadB_frame (s t : State) (h : execReadB s = .next t) :
    t.pending = s.pending ∧ t.now = s.now ∧ t.resetAsserted = s.resetAsserted ∧ t.control = s.control ∧
    t.entries = s.entries ∧ t.commitQueue = s.commitQueue ∧ t.engine = s.engine ∧ t.array = s.array ∧ t.dtt = s.dtt ∧
    t.syncRecord = s.syncRecord ∧ t.regions = s.regions ∧ t.refresh = s.refresh ∧ t.params = s.params ∧
    t.shadow = s.shadow ∧ t.sequencer = s.sequencer ∧ t.command = s.command ∧ t.events = s.events ∧
    t.counters = s.counters ∧ t.port = s.port ∧ t.response = s.response ∧ t.freeIndex = s.freeIndex := by
  cases h
  (repeat' split) <;> simp

theorem execApply_frame (s t : State) (h : execApply s = .next t) :
    t.pending = s.pending ∧ t.now = s.now ∧ t.resetAsserted = s.resetAsserted ∧ t.control = s.control ∧
    t.entries = s.entries ∧ t.commitQueue = s.commitQueue ∧ t.engine = s.engine ∧ t.link = s.link ∧ t.array = s.array ∧
    t.dtt = s.dtt ∧ t.syncRecord = s.syncRecord ∧ t.command = s.command ∧ t.counters = s.counters ∧ t.port = s.port ∧
    t.response = s.response := by
  cases h
  (repeat' split) <;> simp

theorem execStartComplete_frame (s t : State) (h : execStartComplete s = .next t) :
    t.pending = s.pending ∧ t.now = s.now ∧ t.resetAsserted = s.resetAsserted ∧ t.entries = s.entries ∧
    t.commitQueue = s.commitQueue ∧ t.engine = s.engine ∧ t.link = s.link ∧ t.array = s.array ∧ t.dtt = s.dtt ∧
    t.syncRecord = s.syncRecord ∧ t.regions = s.regions ∧ t.refresh = s.refresh ∧ t.params = s.params ∧
    t.shadow = s.shadow ∧ t.counters = s.counters ∧ t.port = s.port ∧ t.response = s.response ∧ t.freeIndex = s.freeIndex := by
  cases h
  (repeat' split) <;> simp

theorem execSync_frame (s t : State) (h : execSync s = .next t) :
    t.pending = s.pending ∧ t.now = s.now ∧ t.resetAsserted = s.resetAsserted ∧ t.control = s.control ∧
    t.engine = s.engine ∧ t.link = s.link ∧ t.array = s.array ∧ t.dtt = s.dtt ∧ t.regions = s.regions ∧
    t.refresh = s.refresh ∧ t.params = s.params ∧ t.shadow = s.shadow ∧ t.sequencer = s.sequencer ∧ t.events = s.events ∧
    t.counters = s.counters ∧ t.response = s.response ∧ t.freeIndex = s.freeIndex := by
  cases h
  simp only [State.writeCommand, State.onPort, State.runCommand]
  (repeat' split) <;> simp

theorem execRetryEntry_frame (s t : State) (h : execRetryEntry s = .next t) :
    t.pending = s.pending ∧ t.now = s.now ∧ t.resetAsserted = s.resetAsserted ∧ t.control = s.control ∧
    t.engine = s.engine ∧ t.link = s.link ∧ t.array = s.array ∧ t.dtt = s.dtt ∧ t.syncRecord = s.syncRecord ∧
    t.regions = s.regions ∧ t.refresh = s.refresh ∧ t.params = s.params ∧ t.shadow = s.shadow ∧ t.sequencer = s.sequencer ∧
    t.events = s.events ∧ t.counters = s.counters ∧ t.response = s.response ∧ t.freeIndex = s.freeIndex := by
  cases h
  simp only [State.writeCommand, State.onPort, State.runCommand]
  (repeat' split) <;> simp

theorem execDiscardEntry_frame (s t : State) (h : execDiscardEntry s = .next t) :
    t.pending = s.pending ∧ t.now = s.now ∧ t.resetAsserted = s.resetAsserted ∧ t.control = s.control ∧
    t.commitQueue = s.commitQueue ∧ t.engine = s.engine ∧ t.link = s.link ∧ t.array = s.array ∧ t.dtt = s.dtt ∧
    t.syncRecord = s.syncRecord ∧ t.regions = s.regions ∧ t.refresh = s.refresh ∧ t.params = s.params ∧
    t.shadow = s.shadow ∧ t.sequencer = s.sequencer ∧ t.counters = s.counters ∧ t.response = s.response ∧
    t.freeIndex = s.freeIndex := by
  cases h
  simp only [State.writeCommand, State.onPort, State.runCommand]
  (repeat' split) <;> simp

theorem execSetRegion_frame (s t : State) (h : execSetRegion s = .next t) :
    t.pending = s.pending ∧ t.now = s.now ∧ t.resetAsserted = s.resetAsserted ∧ t.control = s.control ∧
    t.entries = s.entries ∧ t.commitQueue = s.commitQueue ∧ t.engine = s.engine ∧ t.link = s.link ∧ t.array = s.array ∧
    t.dtt = s.dtt ∧ t.syncRecord = s.syncRecord ∧ t.refresh = s.refresh ∧ t.params = s.params ∧ t.shadow = s.shadow ∧
    t.sequencer = s.sequencer ∧ t.counters = s.counters ∧ t.response = s.response ∧ t.freeIndex = s.freeIndex := by
  cases h
  simp only [State.writeCommand, State.onPort, State.runCommand]
  (repeat' split) <;> simp

theorem execFreezeRegion_frame (s t : State) (h : execFreezeRegion s = .next t) :
    t.pending = s.pending ∧ t.now = s.now ∧ t.resetAsserted = s.resetAsserted ∧ t.control = s.control ∧
    t.entries = s.entries ∧ t.commitQueue = s.commitQueue ∧ t.engine = s.engine ∧ t.link = s.link ∧ t.array = s.array ∧
    t.dtt = s.dtt ∧ t.syncRecord = s.syncRecord ∧ t.refresh = s.refresh ∧ t.params = s.params ∧ t.shadow = s.shadow ∧
    t.sequencer = s.sequencer ∧ t.counters = s.counters ∧ t.response = s.response ∧ t.freeIndex = s.freeIndex := by
  cases h
  simp only [State.writeCommand, State.onPort, State.runCommand]
  (repeat' split) <;> simp

theorem execWriteConfig_frame (s t : State) (h : execWriteConfig s = .next t) :
    t.pending = s.pending ∧ t.now = s.now ∧ t.resetAsserted = s.resetAsserted ∧ t.control = s.control ∧
    t.engine = s.engine ∧ t.link = s.link ∧ t.array = s.array ∧ t.dtt = s.dtt ∧ t.syncRecord = s.syncRecord ∧
    t.regions = s.regions ∧ t.refresh = s.refresh ∧ t.params = s.params ∧ t.events = s.events ∧ t.counters = s.counters ∧
    t.response = s.response ∧ t.freeIndex = s.freeIndex := by
  cases h
  simp only [State.writeCommand, State.onPort, State.runCommand]
  (repeat' split) <;> simp

theorem execReinit_frame (s t : State) (h : execReinit s = .next t) :
    t.pending = s.pending ∧ t.now = s.now ∧ t.resetAsserted = s.resetAsserted ∧ t.entries = s.entries ∧
    t.commitQueue = s.commitQueue ∧ t.engine = s.engine ∧ t.link = s.link ∧ t.array = s.array ∧ t.dtt = s.dtt ∧
    t.syncRecord = s.syncRecord ∧ t.regions = s.regions ∧ t.refresh = s.refresh ∧ t.params = s.params ∧
    t.shadow = s.shadow ∧ t.sequencer = s.sequencer ∧ t.events = s.events ∧ t.counters = s.counters ∧
    t.response = s.response ∧ t.freeIndex = s.freeIndex := by
  cases h
  simp only [State.writeCommand, State.onPort, State.runCommand]
  (repeat' split) <;> simp

theorem execClearCounters_frame (s t : State) (h : execClearCounters s = .next t) :
    t.pending = s.pending ∧ t.now = s.now ∧ t.resetAsserted = s.resetAsserted ∧ t.control = s.control ∧
    t.entries = s.entries ∧ t.commitQueue = s.commitQueue ∧ t.engine = s.engine ∧ t.link = s.link ∧ t.array = s.array ∧
    t.dtt = s.dtt ∧ t.syncRecord = s.syncRecord ∧ t.regions = s.regions ∧ t.refresh = s.refresh ∧ t.params = s.params ∧
    t.shadow = s.shadow ∧ t.sequencer = s.sequencer ∧ t.events = s.events ∧ t.response = s.response ∧
    t.freeIndex = s.freeIndex := by
  cases h
  simp only [State.writeCommand, State.onPort, State.runCommand]
  (repeat' split) <;> simp

theorem execInspectEntry_frame (s t : State) (h : execInspectEntry s = .next t) :
    t.pending = s.pending ∧ t.now = s.now ∧ t.resetAsserted = s.resetAsserted ∧ t.control = s.control ∧
    t.entries = s.entries ∧ t.commitQueue = s.commitQueue ∧ t.engine = s.engine ∧ t.link = s.link ∧ t.array = s.array ∧
    t.dtt = s.dtt ∧ t.syncRecord = s.syncRecord ∧ t.regions = s.regions ∧ t.refresh = s.refresh ∧ t.params = s.params ∧
    t.shadow = s.shadow ∧ t.sequencer = s.sequencer ∧ t.events = s.events ∧ t.counters = s.counters ∧
    t.response = s.response ∧ t.freeIndex = s.freeIndex := by
  cases h
  simp only [State.writeCommand, State.onPort, State.runCommand]
  (repeat' split) <;> simp

theorem execUnknownCommand_frame (code : Byte) (s t : State) (h : execUnknownCommand code s = .next t) :
    t.pending = s.pending ∧ t.now = s.now ∧ t.resetAsserted = s.resetAsserted ∧ t.engine = s.engine ∧ t.link = s.link ∧
    t.array = s.array ∧ t.dtt = s.dtt ∧ t.refresh = s.refresh ∧ t.params = s.params ∧ t.response = s.response ∧
    t.freeIndex = s.freeIndex := by
  cases h
  unfold State.onPort
  split <;> simp

theorem execPointerWrite_frame (value : Byte) (s t : State) (h : execPointerWrite value s = .next t) :
    t.pending = s.pending ∧ t.now = s.now ∧ t.resetAsserted = s.resetAsserted ∧ t.control = s.control ∧
    t.entries = s.entries ∧ t.commitQueue = s.commitQueue ∧ t.engine = s.engine ∧ t.link = s.link ∧ t.array = s.array ∧
    t.dtt = s.dtt ∧ t.syncRecord = s.syncRecord ∧ t.regions = s.regions ∧ t.refresh = s.refresh ∧ t.params = s.params ∧
    t.shadow = s.shadow ∧ t.sequencer = s.sequencer ∧ t.command = s.command ∧ t.events = s.events ∧
    t.counters = s.counters ∧ t.response = s.response ∧ t.freeIndex = s.freeIndex := by
  cases h
  unfold State.onPort
  split <;> simp

theorem execRegisterWrite_frame (value : Byte) (s t : State) (h : execRegisterWrite value s = .next t) :
    t.pending = s.pending ∧ t.now = s.now ∧ t.resetAsserted = s.resetAsserted ∧ t.engine = s.engine ∧ t.link = s.link ∧
    t.array = s.array ∧ t.dtt = s.dtt ∧ t.refresh = s.refresh ∧ t.params = s.params ∧ t.response = s.response ∧
    t.freeIndex = s.freeIndex := by
  cases h
  unfold State.onPort
  split <;> simp

theorem execEvdataRead_frame (s t : State) (h : execEvdataRead s = .next t) :
    t.pending = s.pending ∧ t.now = s.now ∧ t.resetAsserted = s.resetAsserted ∧ t.control = s.control ∧
    t.entries = s.entries ∧ t.commitQueue = s.commitQueue ∧ t.engine = s.engine ∧ t.link = s.link ∧ t.array = s.array ∧
    t.dtt = s.dtt ∧ t.syncRecord = s.syncRecord ∧ t.regions = s.regions ∧ t.refresh = s.refresh ∧ t.params = s.params ∧
    t.shadow = s.shadow ∧ t.sequencer = s.sequencer ∧ t.command = s.command ∧ t.counters = s.counters ∧
    t.response = s.response ∧ t.freeIndex = s.freeIndex := by
  cases h
  unfold State.onPort
  split <;> simp [State.busRead, State.readEffect]

theorem execEvlostRead_frame (s t : State) (h : execEvlostRead s = .next t) :
    t.pending = s.pending ∧ t.now = s.now ∧ t.resetAsserted = s.resetAsserted ∧ t.control = s.control ∧
    t.entries = s.entries ∧ t.commitQueue = s.commitQueue ∧ t.engine = s.engine ∧ t.link = s.link ∧ t.array = s.array ∧
    t.dtt = s.dtt ∧ t.syncRecord = s.syncRecord ∧ t.regions = s.regions ∧ t.refresh = s.refresh ∧ t.params = s.params ∧
    t.shadow = s.shadow ∧ t.sequencer = s.sequencer ∧ t.command = s.command ∧ t.counters = s.counters ∧
    t.response = s.response ∧ t.freeIndex = s.freeIndex := by
  cases h
  unfold State.onPort
  split <;> simp [State.busRead, State.readEffect]

theorem execCounterLowByteRead_frame (place : ReadPlace) (s t : State) (h : execCounterLowByteRead place s = .next t) :
    t.pending = s.pending ∧ t.now = s.now ∧ t.resetAsserted = s.resetAsserted ∧ t.control = s.control ∧
    t.entries = s.entries ∧ t.commitQueue = s.commitQueue ∧ t.engine = s.engine ∧ t.link = s.link ∧ t.array = s.array ∧
    t.dtt = s.dtt ∧ t.syncRecord = s.syncRecord ∧ t.regions = s.regions ∧ t.refresh = s.refresh ∧ t.params = s.params ∧
    t.shadow = s.shadow ∧ t.sequencer = s.sequencer ∧ t.command = s.command ∧ t.response = s.response ∧
    t.freeIndex = s.freeIndex := by
  cases h
  unfold State.onPort
  split <;> simp

theorem execCfgIndexWrite_frame (value : Byte) (s t : State) (h : execCfgIndexWrite value s = .next t) :
    t.pending = s.pending ∧ t.now = s.now ∧ t.resetAsserted = s.resetAsserted ∧ t.control = s.control ∧
    t.entries = s.entries ∧ t.commitQueue = s.commitQueue ∧ t.engine = s.engine ∧ t.link = s.link ∧ t.array = s.array ∧
    t.dtt = s.dtt ∧ t.syncRecord = s.syncRecord ∧ t.regions = s.regions ∧ t.refresh = s.refresh ∧ t.params = s.params ∧
    t.shadow = s.shadow ∧ t.sequencer = s.sequencer ∧ t.command = s.command ∧ t.events = s.events ∧
    t.counters = s.counters ∧ t.response = s.response ∧ t.freeIndex = s.freeIndex := by
  cases h
  unfold State.onPort
  split <;> simp [State.busWrite, State.writeEffect]

theorem execCfgDataRead_frame (s t : State) (h : execCfgDataRead s = .next t) :
    t.pending = s.pending ∧ t.now = s.now ∧ t.resetAsserted = s.resetAsserted ∧ t.control = s.control ∧
    t.entries = s.entries ∧ t.commitQueue = s.commitQueue ∧ t.engine = s.engine ∧ t.link = s.link ∧ t.array = s.array ∧
    t.dtt = s.dtt ∧ t.syncRecord = s.syncRecord ∧ t.regions = s.regions ∧ t.refresh = s.refresh ∧ t.params = s.params ∧
    t.shadow = s.shadow ∧ t.sequencer = s.sequencer ∧ t.command = s.command ∧ t.events = s.events ∧
    t.counters = s.counters ∧ t.response = s.response ∧ t.freeIndex = s.freeIndex := by
  cases h
  unfold State.onPort
  split <;> simp [State.busRead, State.readEffect]

theorem execCfgDataWrite_frame (value : Byte) (s t : State) (h : execCfgDataWrite value s = .next t) :
    t.pending = s.pending ∧ t.now = s.now ∧ t.resetAsserted = s.resetAsserted ∧ t.control = s.control ∧
    t.entries = s.entries ∧ t.commitQueue = s.commitQueue ∧ t.engine = s.engine ∧ t.link = s.link ∧ t.array = s.array ∧
    t.dtt = s.dtt ∧ t.syncRecord = s.syncRecord ∧ t.regions = s.regions ∧ t.refresh = s.refresh ∧ t.params = s.params ∧
    t.sequencer = s.sequencer ∧ t.command = s.command ∧ t.events = s.events ∧ t.counters = s.counters ∧
    t.response = s.response ∧ t.freeIndex = s.freeIndex := by
  cases h
  unfold State.onPort
  split <;> simp [State.busWrite, State.writeEffect]

theorem execTransferEnd_frame (s t : State) (h : execTransferEnd s = .next t) :
    t.pending = s.pending ∧ t.now = s.now ∧ t.resetAsserted = s.resetAsserted ∧ t.control = s.control ∧
    t.entries = s.entries ∧ t.commitQueue = s.commitQueue ∧ t.engine = s.engine ∧ t.link = s.link ∧ t.array = s.array ∧
    t.dtt = s.dtt ∧ t.syncRecord = s.syncRecord ∧ t.regions = s.regions ∧ t.refresh = s.refresh ∧ t.params = s.params ∧
    t.shadow = s.shadow ∧ t.sequencer = s.sequencer ∧ t.command = s.command ∧ t.counters = s.counters ∧
    t.response = s.response ∧ t.freeIndex = s.freeIndex := by
  cases h
  unfold State.onPort
  split <;> simp

end Sys2Proof.Machine
end

