-- ==== Sys2Proof/WellFormed.lean ====
section
/-! DEFINITION. Which commands the outside world can present. -/

namespace Sys2Proof

/-- A command is well formed when its operands are ones that the port, the device or the management bus can carry:
a WRITE carries as many data bytes as its length field says (R76, R80), a READ returns 1 to 512 bytes (R52), and an
unknown command is a code that names none of the nine commands (12.4). -/
def Instr.wellFormed : Instr → Bool
  | .writeRequest _ _ len data => data.length == len.toNat
  | .readCompletion bytes => 1 ≤ bytes.length && bytes.length ≤ 512
  | .unknownCommand code => code.toNat == 0 || 9 < code.toNat
  | .readRequest _ _ _ | .fenceRequest _ | .invalidKindRequest _ _ | .idleTimerExpiry _ | .openAgeTimerExpiry _
  | .takeHead | .arbiterDecision | .longOperationAccepted | .pollTime | .suspendAccepted | .statusReply _ _
  | .suspendedFetchStep | .endSuspension | .resumeAccepted | .operationTimerExpiry | .suspendWaitTimerExpiry
  | .resetAccepted | .resetWaitTimerExpiry | .discardTimerExpiry _ | .refreshStep | .pfailAssertion | .pfailDeassertion
  | .deferredDrainStart | .reinitClaim | .drainCompletion | .powerOn _ _ | .resetNAssertion | .resetNDeassertion _ _
  | .size _ | .deviceReset | .readA | .readB | .apply | .startComplete | .sync | .retryEntry | .discardEntry | .setRegion
  | .freezeRegion | .writeConfig | .reinit | .clearCounters | .inspectEntry | .pointerWrite _ | .registerWrite _
  | .evdataRead | .evlostRead | .counterLowByteRead _ | .cfgIndexWrite _ | .cfgDataRead | .cfgDataWrite _ | .transferEnd => true

end Sys2Proof
end

