-- ==== Sys2Proof/Tests/Slice0.lean ====
section
/-! SUPPORT. The tests: the smoke of WellFormed, a few single steps with results taken from the spec's text, and for each statement with
hypotheses the states and operands that meet them (`witness_<statement>`). -/

namespace Sys2Proof.Tests

-- One theorem at a time: each kernel evaluation waits for the ones before it, and a waiting thread holds a whole stack.
set_option Elab.async false

open Sys2Proof Sys2Proof.Machine

/-! ### The states of the tests -/

/-- A bridge in RUNNING on the smallest device, as a start-up with the default configuration leaves it. -/
def run : State := { State.reset with
  control := { State.reset.control with mode := .running }
  params := Params.default 2048
  shadow := { fields := RecordFields.default 2048, crc := 0#32 }
  refresh := { records := List.replicate 31 RefreshRecord.initial, scan := 0 }
  sequencer := { Sequencer.initial with deviceSize := some 2048, loadedCopy := some .default, loadedSequence := some 0#32 } }

/-- The same state in another mode. -/
def inMode (m : Mode) : State := { run with control := { run.control with mode := m } }

/-- DRAIN for PFAIL, PFAIL asserted. -/
def draining : State := { run with control := { run.control with mode := .drain, drainCause := some .pfail, pfail := true } }

/-- DRAINED for PFAIL, PFAIL asserted. -/
def drainedDown : State := { run with control := { run.control with mode := .drained, drainCause := some .pfail, pfail := true } }

/-- RESET_N asserted. -/
def held : State := { run with resetAsserted := true }

/-- A HOST entry with offset 0 written by requester 0. -/
def hostEntry (st : EntryState) (page : Nat) : Entry := { Entry.initial with
  state := st, page := some page, origin := some .host, written := 1#512, valid := 1#512, writers := 1#8
  idleTimer := if st = .opened then some 20000 else none, ageTimer := if st = .opened then some 500000 else none
  allocTime := some 0, lastWrite := some page }

/-- Slot 0 alone in use. -/
def one (e : Entry) : State := run.setEntry 0 e

/-- Every slot in use, slot n with page n. -/
def full (st : EntryState) : State := { run with entries := Vector.ofFn fun i => hostEntry st i.val }

/-- A delayed READ of requester 0. -/
def delayedRead (st : DttState) (addr len arrival : Nat) : DttEntry := { DttEntry.initial with
  state := st, kind := some .read, requester := some 0, address := some addr, length := some len, arrival := some arrival }

/-- A READ that is READY. -/
def readyRead (addr arrival : Nat) (result : DttResult) : DttEntry := { delayedRead .ready addr 1 arrival with
  data := some [7#8], result := some result, discard := some 2000 }

/-- A FENCE of requester 0 that is READY. -/
def readyFence (result : DttResult) : DttEntry := { DttEntry.initial with
  state := .ready, kind := some .fence, requester := some 0, result := some result, discard := some 2000 }

/-- A WAITING FENCE of requester 0. -/
def waitingFence (ws : List WaitPair) : DttEntry := { DttEntry.initial with
  state := .waiting, kind := some .fence, requester := some 0, waitSet := some ws }

/-- The engine at a stage with slot 0 in hand, in its first attempt. -/
def engineAt (stage : Stage) (step : EngineStep) : Engine :=
  { stage := stage, slot := some 0, generation := some 0#8, attempt := some 1, step := some step }

/-- The link in the middle of an erase or program of page 0. -/
def busyLink (kind : OpKind) (st : LinkState) (flight : Option LinkCommand) : Link := { Link.initial with
  state := st, opKind := some kind, opPage := some 0, suspensionCount := some 0, opTimer := some 0, inFlight := flight }

/-- Slot 0 being committed: the engine's stage and step, and the link. -/
def committing (e : Entry) (stage : Stage) (step : EngineStep) (link : Link) : State :=
  { one e with engine := engineAt stage step, link := link }

/-- A whole page that is being committed. -/
def wholeEntry : Entry := { hostEntry .committing 0 with valid := wholePage }

/-- The link with the engine's READ of page 0 in flight. -/
def engineRead : Link := { Link.initial with state := .reading, owner := some .commit, inFlight := some (.read 0 512) }

/-- 512 bytes of one value. -/
def bytes512 (b : Byte) : List Byte := List.replicate 512 b

/-- The command arguments. -/
def args (s : State) (a0 a1 a2 a3 : BitVec 16) : State := { s with port := { s.port with args := #v[a0, a1, a2, a3] } }

/-! ### The smoke of WellFormed -/

/-- A WRITE whose data does not have the length of its length field (R76). -/
theorem test_illFormed_write : (Instr.writeRequest 0 0#24 2#7 [1#8]).wellFormed = false := by decide

/-- A READ completion with no byte (R52). -/
theorem test_illFormed_readCompletion_empty : (Instr.readCompletion []).wellFormed = false := by decide

/-- A READ completion with 513 bytes (R52). -/
theorem test_illFormed_readCompletion_long : (Instr.readCompletion (List.replicate 513 0#8)).wellFormed = false := by decide +kernel

/-- The code of SYNC as an unknown command (12.4). -/
theorem test_illFormed_unknownCommand : (Instr.unknownCommand 1#8).wellFormed = false := by decide

/-- Well-formed ones at the edges: 512 bytes, the codes 0 and 10. -/
theorem test_wellFormed_edges : (Instr.readCompletion (bytes512 0#8)).wellFormed = true ∧
    (Instr.unknownCommand 0#8).wellFormed = true ∧ (Instr.unknownCommand 10#8).wellFormed = true := by decide +kernel

/-! ### Single steps -/

/-- The table gives no bits: no word spells a command, and withFetchWord changes nothing. -/
theorem test_no_word_spells_a_command : decodeTableWord 8 1 = none ∧ (run.withFetchWord 8 1).pending = [] := by decide +kernel

/-- The example of chapter 7: region 1 is READ_ONLY over 100 to 199, region 4 NO_ACCESS over 150 to 159, region 6 disabled over 0 to 999 as
NO_ACCESS. Pages 100 to 149 and 160 to 199 are READ_ONLY, 150 to 159 NO_ACCESS, every other READ_WRITE. -/
def chapter7 : State :=
  ((run.setRegion 1 ⟨true, 100, 199, .readOnly, false⟩).setRegion 4 ⟨true, 150, 159, .noAccess, false⟩).setRegion 6
    ⟨false, 0, 999, .noAccess, false⟩

theorem test_effectiveMode_example : [99, 100, 149, 150, 159, 160, 199, 200].map chapter7.effectiveMode =
    [.readWrite, .readOnly, .readOnly, .noAccess, .noAccess, .readOnly, .readOnly, .readWrite] := by decide +kernel

/-- A record of WRITE_FAULT PROTECT by requester 3 on page 150 found NO_ACCESS, byte by byte (12.1, 12.3): sequence 1234h, code 1 with
the requester bit, requester 3, page 0096h, fault kind 3 with mode 2 in bits 5:4. -/
theorem test_event_record_bytes :
    [0, 1, 2, 4, 5, 6, 7].map (EventRecord.byte ⟨0x1234#16, .writeFault .protect (some .noAccess), some 150, none, some 3⟩) =
      [0x34#8, 0x12#8, 0x41#8, 0x96#8, 0x00#8, 0x23#8, 0x00#8] := by decide +kernel

/-- A record of COMMIT_FAILED TIMEOUT after 2 attempts on slot 9, page 300 (12.3): the slot bit, cause 4 in bits 2:0, attempts in bits 6:4. -/
theorem test_commitFailed_record_bytes :
    [0, 1, 2, 4, 5, 6, 7].map (EventRecord.byte ⟨7#16, .commitFailed .timeout 2, some 300, some 9, none⟩) =
      [0x07#8, 0x00#8, 0x84#8, 0x2C#8, 0x01#8, 0x24#8, 0x00#8] := by decide +kernel

/-- A record of FENCE_FAULT DURABILITY at arrival by requester 3, on slot 9 (12.3): both presence bits, and byte 3 with the slot in its
low half and the requester above it. -/
theorem test_fenceFault_record_bytes :
    [2, 3, 6].map (EventRecord.byte ⟨1#16, .fenceFault .durability .arrival, some 5, some 9, some 3⟩) = [0xC5#8, 0x39#8, 0x05#8] := by
  decide +kernel

/-- The next state of a step that has one. -/
def after (c : Instr) (s : State) : State :=
  match step { s with pending := [c] } with
  | .next t => t
  | _ => s

/-- A WRITE of one byte opens slot 0 and is answered DONE (R4, R7); the byte is covered from then on (R24). -/
theorem test_write_opens_slot0 :
    (after (.writeRequest 2 0x3F#24 1#7 [0xAB#8]) run).response = some .done ∧
    (after (.writeRequest 2 0x3F#24 1#7 [0xAB#8]) run).entries[0].state = .opened ∧
    (after (.writeRequest 2 0x3F#24 1#7 [0xAB#8]) run).coveredByte 0 0x3F = some 0xAB#8 := by decide +kernel

/-- A WRITE across the end of a 64-byte line is a FORMAT fault (R80). -/
theorem test_write_across_line_faults :
    (after (.writeRequest 2 0x3F#24 2#7 [0xAB#8, 0#8]) run).response = some (.fault .format) := by decide +kernel

/-- The device size codes 0 and 4 (R173). -/
theorem test_size_codes : (after (.size 0#3) State.reset).sequencer.deviceSize = some 2048 ∧
    (after (.size 4#3) State.reset).sequencer.deviceSize = some 32768 ∧
    (after (.size 5#3) State.reset).control.mode = .halted := by decide +kernel

/-- MODE reads CBh in DRAINED for PFAIL with PFAIL asserted and PSAFE: mode 3, cause 1 in bits 4:3, bits 6 and 7 (12.4). -/
theorem test_mode_register : drainedDown.readRegister 0x02#8 = 0xCB#8 := by decide +kernel

/-- An empty EVDATA reads 00h (R191), and EVLOST leaves the pointer on 0Ch. -/
theorem test_evdata_empty : (after .evdataRead run).port.reply = .byte 0#8 ∧ (after .evlostRead run).port.pointer = 0x0C#8 := by
  decide +kernel

/-- A write that comes before the expiry of the idle timer, in the event order, restarts it: the expiry does not take place (R10). -/
theorem test_write_first_the_expiry_lapses :
    let s := one { hostEntry .opened 0 with idleTimer := some 0 }
    (after (.idleTimerExpiry 0) (after (.writeRequest 0 0x08#24 1#7 [0xAB#8]) s)).entries[0].state = .opened ∧
    (after (.idleTimerExpiry 0) s).entries[0].state = .sealed := by decide +kernel

/-- A drain start that finds the link in SUSPENDED issues RESUME at once (R66, R161). -/
theorem test_drain_start_ends_the_suspension :
    (after .pfailAssertion { run with link := busyLink .erase .suspended none }).link.inFlight = some .resume := by decide +kernel

/-- A DOWN ends a WRITE_CONFIG whose entry waits behind the commit in hand (R169). -/
theorem test_down_ends_a_queued_writeConfig :
    let s := { (one { hostEntry .sealed 1 with origin := some .config }) with
      commitQueue := [0], sequencer := { run.sequencer with writeTarget := some .b }
      command := { CommandUnit.initial with busy := true, last := some .writeConfig, result := .busy } }
    s.endQueuedConfig.command.busy = false ∧ s.endQueuedConfig.command.result = .failed := by decide +kernel

/-- A byte read at the pointer: FREE_COUNT is 16 in a fresh bridge, and the pointer moves on (R185, 12.4). -/
theorem test_ordinary_read :
    let s := { run with port := { run.port with pointer := 0x03#8 } }
    (after (.counterLowByteRead .pointer) s).port.reply = .byte 16#8 ∧ (after (.counterLowByteRead .pointer) s).port.pointer = 0x04#8 := by
  decide +kernel

/-! ### Witnesses: the machine and the resets -/

/-- Timers on their last µs, in RUNNING, with an erase in progress. -/
def lastTick : State := { (one { hostEntry .opened 0 with idleTimer := some 1, ageTimer := some 1 }) with
  dtt := run.dtt.set 0 { readyRead 0 0 .data with discard := some 1 }
  link := { busyLink .erase .opBusy none with
    opTimer := some 50000, suspendWait := some 99, resetWait := some 999, pollTimer := some 1 } }

/-- The same with 1 µs of running time left within the limit. -/
def nearLimit : State := { lastTick with link := { lastTick.link with opTimer := some 49999 } }

/-- R68: a running time equal to the limit does not time out; the tick that exceeds it posts the expiry, which does. -/
theorem test_operation_timer_exceeds : (after .operationTimerExpiry lastTick).link = lastTick.link ∧ lastTick.tick.link.opTimer = some 50000 ∧
    (after .operationTimerExpiry lastTick.tick).link.inFlight = some .reset ∧
    (after .operationTimerExpiry lastTick.tick).link.opTimer = none := by decide +kernel

theorem witness_EmptyQueueTicks :
    lastTick.pending = [] ∧ lastTick.control.mode = .running ∧ lastTick.entries[0].idleTimer = some (0 + 1) ∧
    lastTick.entries[0].ageTimer = some (0 + 1) ∧ lastTick.dtt[0].discard = some (0 + 1) ∧
    lastTick.link.state = .opBusy ∧ lastTick.link.opTimer = some lastTick.operationLimit ∧
    nearLimit.link.opTimer = some 49999 ∧ 49999 < nearLimit.operationLimit ∧ nearLimit.link.state = .opBusy ∧ nearLimit.pending = [] ∧
    lastTick.link.suspendWait = some 99 ∧ 99 < 100 ∧ lastTick.link.resetWait = some 999 ∧ 999 < 1000 ∧
    lastTick.link.pollTimer = some (0 + 1) ∧
    State.reset.pending = [] ∧ State.reset.control.mode ≠ .running ∧ State.reset.control.mode ≠ .drain ∧
    State.reset.link.state ≠ .opBusy ∧ State.reset.link.state ≠ .suspending := by decide +kernel

/-- RESET_N before its assertion and before its deassertion. -/
theorem witness_ResetsLeaveTheListedValues : run.resetAsserted = false ∧ held.resetAsserted = true := by decide +kernel

/-! ### Witnesses: requests -/

/-- The last page of the window, the last line of the page: one byte at its end. -/
def lastAddr : BitVec 24 := 0x0F7FFF#24

theorem witness_WriteIsAbsorbed_new :
    run.AdmitsWrite lastAddr 1#7 ∧ [0xAA#8].length = (1#7).toNat ∧
    (∀ j : Slot, run.entries[j].page = some (lastAddr.toNat / 512) → run.entries[j].state ≠ .opened ∧ run.entries[j].state ≠ .sealed) ∧
    run.entries[0].state = .free ∧ (∀ j : Slot, j < 0 → run.entries[j].state ≠ .free) := by
  unfold State.AdmitsWrite; decide +kernel

/-- An OPEN entry that lacks the byte at offset 0 alone. -/
def almostWhole : Entry := { hostEntry .opened 0 with written := wholePage - 1#512, valid := wholePage - 1#512 }

/-- The READY reads that a WRITE of the byte 0 meets: one of the byte, one of another page; and a read that is not READY. -/
theorem witness_WriteIsAbsorbed_patched :
    let s := { (one (hostEntry .opened 0)) with
      dtt := ((run.dtt.set 0 (readyRead 0 0 .data)).set 1 (readyRead 512 1 .data)).set 2 (delayedRead .waiting 1024 1 2) }
    s.AdmitsWrite 0#24 1#7 ∧ s.absorbingSlot 0 = some 0 ∧
    (∀ x ∈ [((0 : DttIndex), 0), (1, 512)], s.dtt[x.1].state = .ready ∧ s.dtt[x.1].kind = some .read ∧ s.dtt[x.1].result = some .data ∧
      s.dtt[x.1].address = some x.2 ∧ s.dtt[x.1].data = some [7#8]) ∧
    0 / 512 = (0#24 : BitVec 24).toNat / 512 ∧ 512 / 512 ≠ (0#24 : BitVec 24).toNat / 512 ∧ s.dtt[(2 : DttIndex)].state ≠ .ready := by
  unfold State.AdmitsWrite; decide +kernel

theorem witness_WriteIsAbsorbed_joined :
    [0xAA#8].length = (1#7).toNat ∧
    (one (hostEntry .sealed 0)).AdmitsWrite 0#24 1#7 ∧ (one (hostEntry .sealed 0)).absorbingSlot 0 = some 0 ∧
    (one (hostEntry .sealed 0)).entries[0].state = .sealed ∧
    (one (hostEntry .opened 0)).AdmitsWrite 0#24 1#7 ∧ (one (hostEntry .opened 0)).absorbingSlot 0 = some 0 ∧
    (one (hostEntry .opened 0)).entries[0].state = .opened ∧
    (one (hostEntry .opened 0)).entries[0].written ||| runSet 0 1 ≠ wholePage ∧
    (one almostWhole).AdmitsWrite 0#24 1#7 ∧ (one almostWhole).absorbingSlot 0 = some 0 ∧ (one almostWhole).entries[0].state = .opened ∧
    (one almostWhole).entries[0].written ||| runSet 0 1 = wholePage := by
  unfold State.AdmitsWrite; decide +kernel

theorem witness_AbsorbedWriteIsCovered :
    [0xAA#8].length = (1#7).toNat ∧ run.AdmitsWrite lastAddr 1#7 ∧ run.freeSlot.isSome ∧
    (one (hostEntry .sealed 0)).AdmitsWrite 0#24 1#7 ∧ ((one (hostEntry .sealed 0)).absorbingSlot 0).isSome := by
  unfold State.AdmitsWrite; decide +kernel

/-- A WRITE to page 16 with every slot in use. -/
theorem witness_WriteFindsNoSlot :
    [0xAA#8].length = (1#7).toNat ∧
    (∀ st ∈ [EntryState.opened, .failed, .committing], (full st).AdmitsWrite 0x2000#24 1#7 ∧ (full st).absorbingSlot 16 = none ∧
      ∀ j : Slot, (full st).entries[j].state ≠ .free) ∧
    (full .opened).entries[(0 : Slot)].state = .opened ∧
    (∀ j : Slot, (full .opened).entries[j].state = .opened →
      (full .opened).entries[(0 : Slot)].lastWrite.getD 0 < (full .opened).entries[j].lastWrite.getD 0 ∨
        ((full .opened).entries[(0 : Slot)].lastWrite.getD 0 = (full .opened).entries[j].lastWrite.getD 0 ∧ 0 ≤ j)) ∧
    (∀ j : Slot, (full .failed).entries[j].state = .failed) ∧
    (∀ j : Slot, (full .committing).entries[j].state ≠ .opened) ∧ (∃ j : Slot, (full .committing).entries[j].state ≠ .failed) := by
  unfold State.AdmitsWrite; decide +kernel

/-- Page 0 READ_ONLY, and page 0 NO_ACCESS. -/
def readOnly0 : State := run.setRegion 0 ⟨true, 0, 0, .readOnly, false⟩
def noAccess0 : State := run.setRegion 0 ⟨true, 0, 0, .noAccess, false⟩

theorem witness_WriteRefusedByTheChecks :
    held.resetAsserted = true ∧
    run.resetAsserted = false ∧ ¬ (1 ≤ (0#7).toNat ∧ (0#24).toNat % 64 + (0#7).toNat ≤ 64) ∧
    ¬ (1 ≤ (2#7).toNat ∧ (0x3F#24).toNat % 64 + (2#7).toNat ≤ 64) ∧
    (1 ≤ (1#7).toNat ∧ (0x0F8000#24).toNat % 64 + (1#7).toNat ≤ 64) ∧ ¬ (0x0F8000#24).toNat < run.params.windowPages * 512 ∧
    (1 ≤ (1#7).toNat ∧ (0#24).toNat % 64 + (1#7).toNat ≤ 64) ∧ (0#24).toNat < run.params.windowPages * 512 ∧
    (inMode .halted).resetAsserted = false ∧ (inMode .halted).control.mode = .halted ∧
    (inMode .start).control.mode = .start ∧ draining.control.mode = .drain ∧ drainedDown.control.mode = .drained ∧
    readOnly0.control.mode = .running ∧ readOnly0.effectiveMode 0 = .readOnly ∧ AccessMode.readOnly ≠ .readWrite := by decide +kernel

/-- The one byte that slot 0 covers. -/
theorem witness_CoveredReadReturnsStagedBytes :
    (one (hostEntry .failed 0)).AdmitsRead 0#24 1#7 ∧ (one (hostEntry .failed 0)).matchDtt (.read 1 0 1) = none ∧
    [0#8].length = (1#7).toNat ∧
    ∀ (k : Nat) (h : k < [0#8].length), (one (hostEntry .failed 0)).coveredByte 0 (0 + k) = some [0#8][k] := by
  unfold State.AdmitsRead; decide +kernel

/-- Two READs of requester 0, at the addresses 0 and 64, in the order of their slots. -/
def twoReads (a b : DttEntry) : State := { run with dtt := (run.dtt.set 0 a).set 1 b }

theorem witness_ReissuedReadCollectsItsResult :
    (∀ s ∈ [twoReads (delayedRead .waiting 0 1 0) (readyRead 64 1 .data), twoReads (readyRead 0 0 .data) (delayedRead .waiting 64 1 1),
        twoReads (readyRead 0 0 (.fault .device)) (delayedRead .waiting 64 1 1)],
      s.AdmitsRead 0#24 1#7 ∧ s.matchDtt (.read 0 0 1) = some 0) ∧
    (twoReads (delayedRead .waiting 0 1 0) (readyRead 64 1 .data)).dtt[0].state ≠ .ready ∧
    (twoReads (readyRead 0 0 .data) (delayedRead .waiting 64 1 1)).dtt[0].state = .ready ∧
    (twoReads (readyRead 0 0 .data) (delayedRead .waiting 64 1 1)).dtt[0].arrival = some 0 ∧
    (twoReads (readyRead 0 0 .data) (delayedRead .waiting 64 1 1)).dtt[0].result = some .data ∧
    (twoReads (readyRead 0 0 .data) (delayedRead .waiting 64 1 1)).dtt[0].data = some [7#8] ∧
    (twoReads (readyRead 0 0 .data) (delayedRead .waiting 64 1 1)).dtt[1].arrival = some 1 ∧ 0 < 1 ∧
    (twoReads (readyRead 0 0 (.fault .device)) (delayedRead .waiting 64 1 1)).dtt[0].result = some (.fault .device) ∧
    (∀ m, (twoReads (readyRead 0 0 .data) (delayedRead .waiting 64 1 1)).dtt[2].arrival = some m → m ≤ 0) := by
  unfold State.AdmitsRead; decide +kernel

theorem witness_UncoveredReadIsRecorded :
    (∀ s ∈ [run, twoReads (delayedRead .waiting 0 1 0) (delayedRead .waiting 64 1 1)],
      s.AdmitsRead 128#24 1#7 ∧ s.control.mode = .running ∧ s.matchDtt (.read 0 128 1) = none ∧
      ∃ k < 1, s.coveredByte 0 (128 + k) = none) ∧
    run.heldBy 0 < 2 ∧ run.dtt[(0 : DttIndex)].state = .free ∧ (∀ j : DttIndex, j < 0 → run.dtt[j].state ≠ .free) ∧
    2 ≤ (twoReads (delayedRead .waiting 0 1 0) (delayedRead .waiting 64 1 1)).heldBy 0 := by
  unfold State.AdmitsRead; decide +kernel

theorem witness_ReadRefused :
    held.resetAsserted = true ∧ run.resetAsserted = false ∧
    ¬ (1 ≤ (0#7).toNat ∧ (0#24).toNat % 64 + (0#7).toNat ≤ 64) ∧
    (1 ≤ (1#7).toNat ∧ (0x0F8000#24).toNat % 64 + (1#7).toNat ≤ 64) ∧ ¬ (0x0F8000#24).toNat < run.params.windowPages * 512 ∧
    (1 ≤ (1#7).toNat ∧ (0#24).toNat % 64 + (1#7).toNat ≤ 64) ∧ (0#24).toNat < run.params.windowPages * 512 ∧
    (inMode .start).control.mode = .start ∧ noAccess0.control.mode ≠ .start ∧ noAccess0.effectiveMode 0 = .noAccess ∧
    (∀ s ∈ [draining, drainedDown, inMode .halted],
      s.AdmitsRead 0#24 1#7 ∧ s.matchDtt (.read 0 0 1) = none ∧ ∃ k < 1, s.coveredByte 0 (0 + k) = none) ∧
    (∀ st ∈ [DttState.waiting, .fetching],
      ({ noAccess0 with dtt := run.dtt.set 0 (delayedRead st 0 1 0) }).matchDtt (.read 0 0 1) = some 0 ∧
      ({ inMode .start with dtt := run.dtt.set 0 (delayedRead st 0x0F8000 1 0) }).matchDtt (.read 0 0x0F8000 1) = some 0) ∧
    draining.control.mode = .drain ∧ drainedDown.control.mode = .drained ∧ (inMode .halted).control.mode = .halted := by
  unfold State.AdmitsRead; decide +kernel

/-- The delayed transaction table with one entry. -/
def oneDtt (d : DttEntry) : State := { run with dtt := run.dtt.set 0 d }

theorem witness_FenceIsAnsweredOrCollected :
    held.resetAsserted = true ∧ (inMode .start).control.mode = .start ∧
    (inMode .halted).resetAsserted = false ∧ (inMode .halted).control.mode = .halted ∧
    (one (hostEntry .failed 0)).AdmitsFence ∧ (one (hostEntry .failed 0)).matchDtt (.fence 0) = none ∧
    (one (hostEntry .failed 0)).entries[(0 : Slot)].state = .failed ∧
    (one (hostEntry .failed 0)).entries[(0 : Slot)].writers.getLsbD (0 : Requester).val = true ∧
    (∀ i : Slot, (one (hostEntry .failed 0)).entries[i].state ≠ .free →
      (one (hostEntry .failed 0)).entries[i].writers.getLsbD (1 : Requester).val = false) ∧
    (oneDtt (waitingFence [⟨0, 0#8⟩])).AdmitsFence ∧ (oneDtt (waitingFence [⟨0, 0#8⟩])).matchDtt (.fence 0) = some 0 ∧
    (oneDtt (waitingFence [⟨0, 0#8⟩])).dtt[(0 : DttIndex)].state ≠ .ready ∧
    (∀ r ∈ [DttResult.done, .fault .durability], (oneDtt (readyFence r)).AdmitsFence ∧ (oneDtt (readyFence r)).matchDtt (.fence 0) = some 0 ∧
      (oneDtt (readyFence r)).dtt[(0 : DttIndex)].state = .ready ∧ (oneDtt (readyFence r)).dtt[(0 : DttIndex)].arrival = none ∧
      (oneDtt (readyFence r)).dtt[(0 : DttIndex)].result = some r) := by
  unfold State.AdmitsFence; decide +kernel

/-- A fence of requester 0 that must wait, with two delayed READs of its own. -/
theorem witness_FenceIsAnsweredOrCollected_noPlace :
    let s := { (one (hostEntry .opened 0)) with
      dtt := (twoReads (delayedRead .waiting 0 1 0) (delayedRead .waiting 64 1 1)).dtt }
    s.AdmitsFence ∧ s.matchDtt (.fence 0) = none ∧
    (∀ i : Slot, s.entries[i].state = .failed → s.entries[i].writers.getLsbD (0 : Requester).val = false) ∧
    (∃ i : Slot, s.entries[i].state ≠ .free ∧ s.entries[i].writers.getLsbD (0 : Requester).val = true) ∧ 2 ≤ s.heldBy 0 := by
  unfold State.AdmitsFence; decide +kernel

theorem witness_FenceRecordsItsWaitSet :
    let s := one (hostEntry .opened 0)
    s.AdmitsFence ∧ s.matchDtt (.fence 0) = none ∧
    (∀ i : Slot, s.entries[i].state = .failed → s.entries[i].writers.getLsbD (0 : Requester).val = false) ∧
    (∃ i : Slot, s.entries[i].state ≠ .free ∧ s.entries[i].writers.getLsbD (0 : Requester).val = true) ∧ s.heldBy 0 < 2 ∧
    s.dtt[(0 : DttIndex)].state = .free ∧ (∀ j : DttIndex, j < 0 → s.dtt[j].state ≠ .free) := by
  unfold State.AdmitsFence; decide +kernel

theorem witness_RequestOfNoKindIsAFormatFault : run.resetAsserted = false ∧ held.resetAsserted = true := by decide +kernel

/-! ### Witnesses: staging, the commit engine and the link -/

theorem witness_TimersSealTheOpenEntry :
    (∀ s ∈ [one { hostEntry .opened 0 with idleTimer := some 0, ageTimer := some 0 }, { one { hostEntry .opened 0 with
        idleTimer := some 0, ageTimer := some 0 } with control := draining.control }],
      (s.control.mode = .running ∨ s.control.mode = .drain) ∧ s.entries[(0 : Slot)].state = .opened ∧
      s.entries[(0 : Slot)].idleTimer = some 0 ∧ s.entries[(0 : Slot)].ageTimer = some 0) ∧
    (one (hostEntry .opened 0)).entries[(0 : Slot)].idleTimer ≠ some 0 ∧ (one (hostEntry .opened 0)).entries[(0 : Slot)].ageTimer ≠ some 0 ∧
    run.entries[(0 : Slot)].state ≠ .opened ∧ run.entries[(0 : Slot)].idleTimer ≠ some 0 := by decide +kernel

/-- Slot 0 SEALED and at the head, with slot 1 a FAILED entry of the same page. -/
def successor : State := { (one (hostEntry .sealed 0)).setEntry 1 { hostEntry .failed 0 with valid := wholePage } with commitQueue := [0] }

theorem witness_HeadIsTakenForCommit :
    (let s := { one (hostEntry .sealed 0) with commitQueue := [0] }
     s.engine.stage = .idle ∧ s.control.mode = .running ∧ s.commitQueue = [0] ∧ s.entries[(0 : Slot)].page = some 0 ∧
     ∀ j : Slot, s.entries[j].page = some 0 → s.entries[j].state ≠ .failed) ∧
    successor.engine.stage = .idle ∧ successor.control.mode = .running ∧ successor.commitQueue = [0] ∧
    successor.entries[(0 : Slot)].state = .sealed ∧ successor.entries[(0 : Slot)].page = some 0 ∧
    successor.entries[(1 : Slot)].state = .failed ∧ successor.entries[(1 : Slot)].page = some 0 ∧
    (∀ k : Slot, successor.entries[k].page = some 0 → successor.entries[k].state = .failed → k = 1) := by decide +kernel

/-- Each stage, with no read waiting; and with a read waiting at a streak of READ_STREAK. -/
theorem witness_ArbiterGrantsTheEngine :
    ∀ stage ∈ [Stage.fill, .erase, .program, .verify],
      let s := committing wholeEntry stage .waiting Link.initial
      let t := { committing wholeEntry stage .waiting { Link.initial with fetchStreak := 4 } with
        dtt := run.dtt.set 0 (delayedRead .waiting 0 1 0) }
      let u := { s with control := draining.control }
      (s.link.state = .idle ∧ s.link.inFlight = none ∧ s.engine.step = some .waiting ∧ s.engine.slot = some 0 ∧
        s.entries[(0 : Slot)].page = some 0 ∧ s.engine.stage = stage ∧ s.control.mode = .running ∧
        ∀ d : DttIndex, s.dtt[d].state = .waiting → s.dtt[d].kind ≠ some .read) ∧
      (t.link.state = .idle ∧ t.link.inFlight = none ∧ t.engine.step = some .waiting ∧ t.engine.slot = some 0 ∧
        t.entries[(0 : Slot)].page = some 0 ∧ t.params.readStreak ≤ t.link.fetchStreak ∧ t.dtt[(0 : DttIndex)].state = .waiting) ∧
      u.link.state = .idle ∧ u.link.inFlight = none ∧ u.engine.step = some .waiting ∧ u.engine.slot = some 0 ∧
      u.entries[(0 : Slot)].page = some 0 ∧ u.control.mode = .drain := by decide +kernel

/-- The oldest read, at address 0; slot 0 covers it or not. -/
theorem witness_OldestWaitingReadIsServed :
    let s := { twoReads (delayedRead .waiting 0 1 0) (delayedRead .waiting 64 1 1) with link := { Link.initial with fetchStreak := 3 } }
    let c := s.setEntry 0 (hostEntry .sealed 0)
    let u := { s with link := { Link.initial with state := .suspended, fetchesThisSuspension := some 3 } }
    let d := { s with control := draining.control }
    (s.dtt[(0 : DttIndex)].state = .waiting ∧ s.dtt[(0 : DttIndex)].kind = some .read ∧ s.dtt[(0 : DttIndex)].address = some 0 ∧
      s.dtt[(0 : DttIndex)].length = some 1 ∧
      (∀ j : DttIndex, j ≠ 0 → s.dtt[j].state = .waiting → s.dtt[j].kind = some .read →
        s.dtt[(0 : DttIndex)].arrival.getD 0 < s.dtt[j].arrival.getD 0) ∧
      s.link.inFlight = none ∧ s.link.state = .idle ∧ s.control.mode = .running ∧ s.link.fetchStreak < s.params.readStreak ∧
      ∃ k < 1, s.coveredByte 0 (0 + k) = none) ∧
    (c.dtt = s.dtt ∧ c.link = s.link ∧ c.control.mode = .running ∧ [0#8].length = 1 ∧
      ∀ (k : Nat) (h : k < [0#8].length), c.coveredByte 0 (0 + k) = some [0#8][k]) ∧
    (u.dtt = s.dtt ∧ u.link.inFlight = none ∧ u.link.state = .suspended ∧ u.control.mode = .running ∧
      u.link.fetchesThisSuspension.getD 0 < u.params.readStreak) ∧
    d.dtt = s.dtt ∧ d.link.inFlight = none ∧ d.link.state = .idle ∧ d.control.mode = .drain ∧ d.engine = Engine.initial ∧
    d.commitQueue = [] := by decide +kernel

theorem witness_FetchCompletionOverlaysStagedBytes :
    let s := { oneDtt (delayedRead .fetching 0 64 0) with
      link := { Link.initial with state := .reading, owner := some (.fetch 0), inFlight := some (.read 0 64) } }
    s.link.inFlight = some (.read 0 64) ∧ s.link.owner = some (.fetch 0) ∧ (List.replicate 64 1#8).length = 64 ∧
    s.dtt[(0 : DttIndex)].state = .fetching ∧ s.dtt[(0 : DttIndex)].address = some 0 := by decide +kernel

theorem zero_byte (o : Fin 512) : (bytes512 0#8).getD o.val 0#8 = (Vector.replicate 512 0#8)[o] := by
  have h : ∀ n k : Nat, (List.replicate n 0#8).getD k 0#8 = 0#8 := by
    intro n k
    rw [List.getD_eq_getElem?_getD, List.getElem?_replicate]
    split <;> rfl
  rw [bytes512, h, Fin.getElem_fin, Vector.getElem_replicate]

/-- A FILL that finds the staged byte in the array, and one that does not. -/
theorem witness_FillMergesOrElides :
    let s := committing (hostEntry .committing 0) .fill .issued engineRead
    s.engine.slot = some 0 ∧ s.engine.stage = .fill ∧
    (s.AwaitsBytes (bytes512 0#8) ∧ s.entries[(0 : Slot)].origin = some .host ∧ s.params.elide = true ∧
      ∀ o : Fin 512, s.entries[(0 : Slot)].valid.getLsbD o.val = true →
        s.entries[(0 : Slot)].buffer[o] = (bytes512 0#8).getD o.val 0#8) ∧
    s.AwaitsBytes (bytes512 1#8) ∧
    ¬ ∀ o : Fin 512, s.entries[(0 : Slot)].valid.getLsbD o.val = true →
        s.entries[(0 : Slot)].buffer[o] = (bytes512 1#8).getD o.val 0#8 := by
  refine ⟨rfl, rfl, ⟨⟨⟨0, rfl⟩, rfl, List.length_replicate⟩, rfl, rfl, fun o _ => (zero_byte o).symm⟩,
    ⟨⟨0, rfl⟩, rfl, List.length_replicate⟩, fun h => absurd (h 0 (by decide +kernel)) (by decide +kernel)⟩

/-- A STATUS is out for the erase, or for the program, of page 0. -/
def eraseStatus : State := committing wholeEntry .erase .issued (busyLink .erase .opBusy (some .status))
def programStatus : State := committing wholeEntry .program .issued (busyLink .program .opBusy (some .status))

theorem witness_OperationSuccessLeadsOn :
    (eraseStatus.engine.slot = some 0 ∧ eraseStatus.AwaitsResult ∧ eraseStatus.link.opPage = some 0 ∧ eraseStatus.engine.stage = .erase ∧
      eraseStatus.link.opKind = some .erase) ∧
    programStatus.engine.slot = some 0 ∧ programStatus.AwaitsResult ∧ programStatus.link.opPage = some 0 ∧
    programStatus.engine.stage = .program ∧ programStatus.link.opKind = some .program ∧ programStatus.params.verify = true := by
  unfold State.AwaitsResult; decide +kernel

/-- A recovery of the device after a timeout, with slot 0 in hand. -/
def recovering : State := committing wholeEntry .erase .issued (busyLink .erase .resetting (some .status))

/-- A VERIFY of slot 0. -/
def verifying : State := committing wholeEntry .verify .issued engineRead

/-- The same state with COMMIT_TRIES 1, its least value. -/
def lastTry (s : State) : State := { s with params := { s.params with commitTries := 1 } }

theorem awaits_verify (b : Byte) : verifying.AwaitsBytes (bytes512 b) ∧ (lastTry verifying).AwaitsBytes (bytes512 b) :=
  ⟨⟨⟨0, rfl⟩, rfl, List.length_replicate⟩, ⟨0, rfl⟩, rfl, List.length_replicate⟩

/-- The four causes of a failed attempt, with a try left. -/
theorem witness_FailedAttemptIsRetried :
    (eraseStatus.AttemptFailsBy (.statusReply .ready true) 0 .eraseFail ∧
      programStatus.AttemptFailsBy (.statusReply .ready true) 0 .programFail ∧
      recovering.AttemptFailsBy (.statusReply .ready false) 0 .timeout ∧
      verifying.AttemptFailsBy (.readCompletion (bytes512 1#8)) 0 .verifyMismatch) ∧
    ∀ s ∈ [eraseStatus, programStatus, recovering, verifying],
      s.entries[(0 : Slot)].attempts = 0 ∧ s.engine.attempt = some (0 + 1) ∧ 0 + 1 < s.params.commitTries := by
  refine ⟨⟨⟨rfl, .inl ⟨by unfold State.AwaitsResult; decide, rfl, .inl ⟨rfl, rfl⟩⟩⟩,
    ⟨rfl, .inl ⟨by unfold State.AwaitsResult; decide, rfl, .inr ⟨rfl, rfl⟩⟩⟩,
    ⟨rfl, .inr (.inl ⟨rfl, rfl, rfl, rfl, rfl, _, rfl⟩)⟩,
    ⟨rfl, .inr (.inr ⟨_, rfl, (awaits_verify _).1, rfl, rfl, 0, by decide +kernel⟩)⟩⟩, by decide +kernel⟩

theorem witness_LastFailedAttemptFailsTheEntry :
    ((lastTry eraseStatus).AttemptFailsBy (.statusReply .ready true) 0 .eraseFail ∧
      (lastTry programStatus).AttemptFailsBy (.statusReply .ready true) 0 .programFail ∧
      (lastTry recovering).AttemptFailsBy (.statusReply .ready false) 0 .timeout ∧
      (lastTry verifying).AttemptFailsBy (.readCompletion (bytes512 1#8)) 0 .verifyMismatch) ∧
    ∀ s ∈ [lastTry eraseStatus, lastTry programStatus, lastTry recovering, lastTry verifying],
      s.entries[(0 : Slot)].attempts = 0 ∧ s.engine.attempt = some (0 + 1) ∧ s.params.commitTries ≤ 0 + 1 ∧
      s.entries[(0 : Slot)].origin ≠ some .config := by
  refine ⟨⟨⟨rfl, .inl ⟨by unfold State.AwaitsResult; decide, rfl, .inl ⟨rfl, rfl⟩⟩⟩,
    ⟨rfl, .inl ⟨by unfold State.AwaitsResult; decide, rfl, .inr ⟨rfl, rfl⟩⟩⟩,
    ⟨rfl, .inr (.inl ⟨rfl, rfl, rfl, rfl, rfl, _, rfl⟩)⟩,
    ⟨rfl, .inr (.inr ⟨_, rfl, (awaits_verify _).2, rfl, rfl, 0, by decide +kernel⟩)⟩⟩, by decide +kernel⟩

/-- Two fences that wait on slot 0 at its last failed attempt, one of them on another entry too, and a third that waits on another entry alone. -/
theorem witness_LastFailedAttemptFailsTheEntry_fences :
    let s := { lastTry eraseStatus with
      dtt := ((run.dtt.set 0 (waitingFence [⟨0, 0#8⟩])).set 1 (waitingFence [⟨1, 0#8⟩, ⟨0, 0#8⟩])).set 2 (waitingFence [⟨1, 0#8⟩]) }
    s.AttemptFailsBy (.statusReply .ready true) 0 .eraseFail ∧
    ∀ d : DttIndex, d.val < 2 ↔
      s.dtt[d].state = .waiting ∧ s.dtt[d].kind = some .fence ∧ WaitPair.mk 0 s.entries[(0 : Slot)].generation ∈ s.dtt[d].waitSet.getD [] :=
  ⟨⟨rfl, .inl ⟨by unfold State.AwaitsResult; decide, rfl, .inl ⟨rfl, rfl⟩⟩⟩, by decide +kernel⟩

/-- The waiting SYNCs of the reports on slot 0, generation 0: the pair alone, the pair with another, another alone; and no SYNC. The refresh records that a
SUCCESS on page 0 counts: below the interval, at its last count, with an interval of 0, and a page outside the table. -/
theorem witness_ReportsReachSyncAndRefresh :
    (∀ ws ∈ [[WaitPair.mk 0 0#8], [⟨0, 0#8⟩, ⟨1, 0#8⟩], [⟨1, 0#8⟩]],
      ({ verifying with syncRecord := .waiting ws 2 }).syncRecord = .waiting ws 2) ∧ verifying.syncRecord = .idle 0 ∧
    ({ verifying with syncRecord := .idle 16 }).syncRecord = .idle 16 ∧
    verifying.params.refreshInterval = 1024 ∧ verifying.entries[(0 : Slot)].page = some 0 ∧
    (∀ n ∈ [0, 1022, 1023], ({ verifying with refresh := { records := [⟨n, 63, false⟩], scan := 0 } }).refresh.records[0 / 64]? =
      some ⟨n, 63, false⟩) ∧ 1022 + 1 < 1024 ∧ 1023 + 1 = 1024 ∧
    ({ verifying with params := { run.params with refreshInterval := 0 } }).params.refreshInterval = 0 ∧
    ({ verifying with refresh := { records := [], scan := 0 } }).refresh.records.length ≤ 0 / 64 ∧
    (WaitPair.mk 0 0#8 ∈ [WaitPair.mk 0 0#8, ⟨1, 0#8⟩] ∧
      (∃ p ∈ [WaitPair.mk 0 0#8, ⟨1, 0#8⟩], p ≠ ⟨0, 0#8⟩) ∧ WaitPair.mk 0 0#8 ∉ [WaitPair.mk 1 0#8] ∧
      ∀ p ∈ [WaitPair.mk 0 0#8], p = ⟨0, 0#8⟩) := by decide +kernel

/-- An elision, a program that needs no verify, and a VERIFY that finds every byte equal; with a fence that waits on the entry. -/
theorem witness_CommitEndsWithBytesInTheArray :
    (committing (hostEntry .committing 0) .fill .issued engineRead).CommitEndsBy (.readCompletion (bytes512 0#8)) 0 ∧
    { programStatus with params := { run.params with verify := false } }.CommitEndsBy (.statusReply .ready false) 0 ∧
    verifying.CommitEndsBy (.readCompletion (bytes512 0#8)) 0 ∧
    verifying.entries[(0 : Slot)].origin ≠ some .config ∧
    (∀ ws ∈ [[⟨0, 0#8⟩], [⟨1, 0#8⟩], [⟨0, 0#8⟩, ⟨1, 0#8⟩]],
      (waitingFence ws).state = .waiting ∧ (waitingFence ws).kind = some .fence ∧ (waitingFence ws).waitSet = some ws) := by
  refine ⟨⟨rfl, .inl ⟨_, rfl, ⟨⟨0, rfl⟩, rfl, List.length_replicate⟩, rfl, rfl, rfl, fun o _ => (zero_byte o).symm⟩⟩,
    ⟨rfl, .inr (.inl ⟨by unfold State.AwaitsResult; decide, rfl, rfl, rfl, by decide +kernel⟩)⟩,
    ⟨rfl, .inr (.inr ⟨_, rfl, (awaits_verify _).1, rfl, zero_byte⟩)⟩, by decide +kernel, by decide +kernel⟩

/-- The VERIFY of a CONFIG entry for copy A, with WRITE_CONFIG in progress. -/
def configVerify (tries : Nat) : State := { (committing { wholeEntry with origin := some .config } .verify .issued engineRead) with
  params := { run.params with commitTries := tries }
  sequencer := { run.sequencer with writeTarget := some .a }
  command := { CommandUnit.initial with busy := true, last := some .writeConfig, result := .busy } }

theorem witness_ConfigCommitEndsWriteConfig :
    (∀ n ∈ [1, 2], (configVerify n).entries[(0 : Slot)].origin = some .config ∧ (configVerify n).sequencer.writeTarget = some .a ∧
      (configVerify n).command.busy = true ∧ (configVerify n).command.last = some .writeConfig ∧ (configVerify n).engine.attempt = some 1) ∧
    (configVerify 2).CommitEndsBy (.readCompletion (bytes512 0#8)) 0 ∧
    (configVerify 1).AttemptFailsBy (.readCompletion (bytes512 1#8)) 0 .verifyMismatch ∧ (configVerify 1).params.commitTries ≤ 1 := by
  refine ⟨by decide +kernel, ⟨rfl, .inr (.inr ⟨_, rfl, ⟨⟨0, rfl⟩, rfl, List.length_replicate⟩, rfl, zero_byte⟩)⟩,
    ⟨rfl, .inr (.inr ⟨_, rfl, ⟨⟨0, rfl⟩, rfl, List.length_replicate⟩, rfl, rfl, 0, by decide +kernel⟩)⟩, by decide +kernel⟩

/-- The link during the erase of page 0, one read waiting. -/
def erasing (link : Link) : State := { committing wholeEntry .erase .issued link with dtt := run.dtt.set 0 (delayedRead .waiting 0 1 0) }

theorem witness_PollsAndAcceptedTransactions_polls :
    (let s := erasing { busyLink .erase .opBusy none with suspensionCount := some 3, pollTimer := some 0 }
     s.link.resetOwed = false ∧ s.link.pollTimer = some 0 ∧ s.link.inFlight = none ∧ s.link.state = .opBusy ∧ s.ReadWaits ∧
     s.link.suspensionCount.getD 0 < s.params.suspendMax ∧ s.control.mode = .running) ∧
    (∀ st ∈ [LinkState.opBusy, .suspending, .resetting],
      let s := erasing { busyLink .erase st none with suspensionCount := some 4, pollTimer := some 0 }
      s.link.resetOwed = false ∧ s.link.pollTimer = some 0 ∧ s.link.inFlight = none ∧ s.link.state = st ∧
      ¬ s.link.suspensionCount.getD 0 < s.params.suspendMax) ∧
    (∀ st ∈ [LinkState.opBusy, .suspending, .resetting],
      let s := erasing { busyLink .erase st (some .status) with pollTimer := some 0 }
      s.link.resetOwed = false ∧ s.link.pollTimer = some 0 ∧ s.link.inFlight ≠ none ∧ s.link.state = st) ∧
    (∀ p ∈ [none, some 1], (erasing { busyLink .erase .opBusy none with pollTimer := p }).link.pollTimer ≠ some 0) := by
  unfold State.ReadWaits; decide +kernel

theorem witness_PollsAndAcceptedTransactions_accepted :
    (∃ page, (erasing (busyLink .erase .idle (some (.erase 0)))).link.inFlight = some (.erase page)) ∧
    (∃ page bytes, (erasing (busyLink .program .idle (some (.program 0 wholeEntry.buffer)))).link.inFlight = some (.program page bytes)) ∧
    (erasing (busyLink .erase .opBusy (some .suspend))).link.inFlight = some .suspend ∧
    (erasing (busyLink .erase .opBusy (some .suspend))).link.resetOwed = false ∧
    (erasing { busyLink .erase .opBusy (some .suspend) with resetOwed := true }).link.resetOwed = true ∧
    (erasing (busyLink .erase .suspended (some .resume))).link.inFlight = some .resume :=
  ⟨⟨0, rfl⟩, ⟨0, _, rfl⟩, rfl, rfl, rfl, rfl⟩

theorem witness_SuspensionAndStatusReplies :
    (let s := erasing (busyLink .erase .suspending (some .status))
     s.link.inFlight = some .status ∧ s.link.resetOwed = false ∧ s.link.state = .suspending) ∧
    (let s := erasing { busyLink .erase .suspended none with fetchesThisSuspension := some 4 }
     s.link.state = .suspended ∧ s.link.inFlight = none ∧ s.params.readStreak ≤ s.link.fetchesThisSuspension.getD 0) ∧
    (let s := committing wholeEntry .erase .issued (busyLink .erase .suspended none)
     s.link.state = .suspended ∧ s.link.inFlight = none ∧ ¬ s.ReadWaits) ∧
    (∀ x ∈ [(LinkState.opBusy, DeviceCondition.busy), (.suspending, .busy), (.resetting, .busy), (.opBusy, .suspended), (.resetting, .suspended)],
      ∀ owed ∈ [false, true],
      let s := erasing { busyLink .erase x.1 (some .status) with pollOwed := owed }
      s.link.inFlight = some .status ∧ s.link.resetOwed = false ∧ s.link.pollOwed = owed ∧ s.link.state = x.1 ∧
      (x.2 = .busy ∨ (x.2 = .suspended ∧ s.link.state ≠ .suspending)) ∧ s.ReadWaits ∧
      s.link.suspensionCount.getD 0 < s.params.suspendMax ∧ s.control.mode = .running) ∧
    (let s := committing wholeEntry .erase .issued { busyLink .erase .opBusy (some .status) with pollOwed := true }
     s.link.pollOwed = true ∧ ¬ s.ReadWaits) ∧
    (let s := erasing { busyLink .erase .opBusy (some .status) with resetOwed := true }
     s.link.inFlight = some .status ∧ s.link.resetOwed = true) := by
  unfold State.ReadWaits; decide +kernel

/-- A start-up in phase DEVICE_RESET. -/
def starting (phase : Phase) (link : Link) : State := { inMode .start with
  sequencer := { run.sequencer with phase := phase, startKind := some .powerOn }, link := link }

theorem witness_TimeoutResetsTheDevice :
    (∀ flight ∈ [none, some LinkCommand.status, some .suspend], ∀ st ∈ [LinkState.opBusy, .suspending],
      let s := erasing { busyLink .erase st flight with opTimer := some 50000, opExceeded := true, suspendWait := some 100 }
      s.link.opKind = some .erase ∧ s.params.eraseTimeout = 50 ∧ s.link.opExceeded = true ∧
      s.link.suspendWait = some 100 ∧ s.link.state = st) ∧
    (let s := erasing { busyLink .erase .opBusy none with opTimer := some 50000, suspendWait := some 99 }
     s.link.opKind = some .erase ∧ s.link.opExceeded = false ∧ s.link.suspendWait = some 99 ∧ 99 < 100) ∧
    (programStatus.link.opKind = some .program ∧ programStatus.params.programTimeout = 10) ∧
    (let s := erasing (busyLink .erase .opBusy (some .reset))
     s.link.inFlight = some .reset ∧ s.link.opKind.isSome) ∧
    (let s := starting .deviceReset { Link.initial with owner := some .startup, inFlight := some .reset, resetWait := some 0 }
     s.link.inFlight = some .reset ∧ s.link.opKind = none) ∧
    (let s := starting .deviceReset { Link.initial with state := .resetting, inFlight := some .status, resetWait := some 0 }
     s.link.inFlight = some .status ∧ s.link.resetOwed = false ∧ s.link.state = .resetting ∧ s.link.opKind = none ∧
     s.sequencer.phase = .deviceReset) := by decide +kernel

/-- A link that is lost during the erase of slot 0, with a read waiting, an OPEN entry in slot 1, and a CONFIG entry waiting in slot 2. -/
def losing (wait : Nat) : State :=
  let s := ((erasing { busyLink .erase .resetting none with resetWait := some wait }).setEntry 1 (hostEntry .opened 1)).setEntry 2
    { wholeEntry with state := .sealed, page := some 2, origin := some .config }
  { s with commitQueue := [2], sequencer := { s.sequencer with writeTarget := some .b }
           command := { CommandUnit.initial with busy := true, last := some .writeConfig, result := .busy } }

/-- The same with the CONFIG entry in hand, and 20 records queued. -/
def losingConfig : State := { losing 1000 with
  entries := ((losing 1000).entries.set 0 { wholeEntry with origin := some .config }).set 2 Entry.initial, commitQueue := []
  events := { records := List.replicate 20 ⟨0#16, .deviceReset, none, none, none⟩, nextSequence := 20#16, lost := 0#8, cursor := 0 } }

theorem witness_LossOfTheDeviceHalts_config :
    let s := losingConfig
    s.link.resetWait = some 1000 ∧ s.link.opKind.isSome ∧ s.engine.slot = some 0 ∧ s.entries[(0 : Slot)].state = .committing ∧
    s.entries[(0 : Slot)].origin = some .config ∧ (∀ k : Slot, s.entries[k].state = .sealed → s.entries[k].origin ≠ some .config) ∧
    s.sequencer.writeTarget = some .b ∧ s.command.busy = true ∧ s.command.last = some .writeConfig ∧ s.syncRecord = .idle 0 ∧
    s.events.records.length ≤ 20 := by decide +kernel

/-- The same with a FENCE in delayed entry 2 that waits on slot 0 in hand, and one in entry 3 that does not. -/
def losingFences : State := { losing 1000 with dtt := (run.dtt.set 2 (waitingFence [⟨0, 0#8⟩])).set 3 (waitingFence [⟨1, 0#8⟩]) }

theorem witness_LossOfTheDeviceHalts_fences :
    let s := losingFences
    s.link.resetWait = some 1000 ∧ s.link.opKind.isSome ∧ s.engine.slot = some 0 ∧ s.entries[(0 : Slot)].origin ≠ some .config ∧
    (∀ x ∈ [((2 : DttIndex), [WaitPair.mk 0 0#8]), (3, [⟨1, 0#8⟩])],
      s.dtt[x.1].state = .waiting ∧ s.dtt[x.1].kind = some .fence ∧ s.dtt[x.1].waitSet = some x.2 ∧ s.dtt[x.1].data = none) ∧
    ⟨0, s.entries[(0 : Slot)].generation⟩ ∈ [WaitPair.mk 0 0#8] ∧ ⟨0, s.entries[(0 : Slot)].generation⟩ ∉ [WaitPair.mk 1 0#8] ∧
    s.events.records.length ≤ 20 := by decide +kernel

theorem witness_LossOfTheDeviceHalts :
    (losing 999).link.resetWait = some 999 ∧ 999 < 1000 ∧ run.link.resetWait = none ∧
    (let s := losing 1000
     s.link.resetWait = some 1000 ∧ s.dtt[(0 : DttIndex)].state = .waiting ∧ s.dtt[(0 : DttIndex)].kind = some .read ∧
     s.dtt[(1 : DttIndex)].state ≠ .waiting ∧ s.engine.slot ≠ some 1 ∧ s.entries[(1 : Slot)].state = .opened ∧ s.link.opKind.isSome ∧
     s.engine.slot = some 0 ∧ s.entries[(0 : Slot)].state = .committing ∧ s.entries[(0 : Slot)].origin ≠ some .config ∧
     s.entries[(2 : Slot)].state = .sealed ∧ s.entries[(2 : Slot)].origin = some .config ∧
     (∀ k : Slot, s.entries[k].state = .sealed → s.entries[k].origin = some .config → k = 2) ∧
     s.sequencer.writeTarget = some .b ∧ s.command.busy = true ∧ s.command.last = some .writeConfig ∧ s.syncRecord = .idle 0 ∧
     s.events.records.length ≤ 20) ∧
    (let s := { losing 1000 with
       syncRecord := .waiting [⟨0, 0#8⟩, ⟨3, 0#8⟩] 1, command := { CommandUnit.initial with busy := true, last := some .sync, result := .busy } }
     s.syncRecord = .waiting [⟨0, 0#8⟩, ⟨3, 0#8⟩] 1 ∧ [WaitPair.mk 0 0#8, ⟨3, 0#8⟩].Nodup ∧ s.command.last = some .sync) := by
  decide +kernel

/-! ### Witnesses: discard, refresh, the mode controller -/

theorem witness_DiscardTimerFreesTheEntry :
    let s := twoReads { readyRead 0 0 .data with discard := some 0 } (delayedRead .waiting 64 1 1)
    let f := oneDtt { readyFence .done with discard := some 0 }
    s.dtt[(0 : DttIndex)].state = .ready ∧ s.dtt[(0 : DttIndex)].discard = some 0 ∧ s.dtt[(0 : DttIndex)].kind = some .read ∧
    s.dtt[(0 : DttIndex)].result = some .data ∧ s.dtt[(0 : DttIndex)].address = some 0 ∧
    f.dtt[(0 : DttIndex)].state = .ready ∧ f.dtt[(0 : DttIndex)].discard = some 0 ∧ f.dtt[(0 : DttIndex)].kind = some .fence ∧
    f.dtt[(0 : DttIndex)].result = some .done ∧ s.dtt[(1 : DttIndex)].discard ≠ some 0 ∧
    (oneDtt (readyFence .done)).dtt[(0 : DttIndex)].discard ≠ some 0 := by decide +kernel

/-- The scan pointer on the last of 31 sectors, with exactly four FREE entries, and sector 0 pending with its cursor on page 63. -/
def refreshing (e : Entry) : State := { run with
  entries := Vector.ofFn fun i => if i.val < 12 then hostEntry .failed (100 + i.val) else if i.val = 12 then e else Entry.initial
  refresh := { records := ⟨0, 63, true⟩ :: List.replicate 30 RefreshRecord.initial, scan := 30 } }

theorem witness_RefreshServesTheNextPendingSector :
    let s := { refreshing Entry.initial with refresh := { records := [⟨0, 63, true⟩, RefreshRecord.initial], scan := 1 } }
    s.control.mode = .running ∧ s.params.refreshInterval ≠ 0 ∧ 4 ≤ s.freeCount ∧ s.refresh.scan < s.refresh.records.length ∧
    s.refresh.records[0]? = some ⟨0, 63, true⟩ ∧
    (∀ (n : Nat) (x : RefreshRecord), s.refresh.records[n]? = some x → x.pending = true →
      (n + s.refresh.records.length - s.refresh.scan) % s.refresh.records.length ≥
        (0 + s.refresh.records.length - s.refresh.scan) % s.refresh.records.length) ∧
    s.entries[(12 : Slot)].state = .free ∧ (∀ j : Slot, j < 12 → s.entries[j].state ≠ .free) ∧
    (∀ j : Slot, s.entries[j].page = some 63 → s.entries[j].state = .free) ∧
    (∃ j : Slot, (s.setEntry 0 (hostEntry .failed 63)).entries[j].state ≠ .free ∧
      (s.setEntry 0 (hostEntry .failed 63)).entries[j].page = some 63) := by
  refine ⟨by decide +kernel, by decide +kernel, by decide +kernel, by decide +kernel, by decide +kernel, ?_, by decide +kernel,
    by decide +kernel, by decide +kernel, by decide +kernel⟩
  intro n x hx hp
  match n with
  | 0 => exact Nat.le_refl _
  | 1 => simp at hx; simp [← hx, RefreshRecord.initial] at hp
  | n + 2 => simp at hx

/-- RUNNING with an OPEN entry and a queued REFRESH entry, for each of the three drain starts. -/
def beforeDrain : State := { (one (hostEntry .opened 0)).setEntry 1
    { hostEntry .sealed 1 with origin := some .refresh, written := 0#512, valid := 0#512, writers := 0#8 } with commitQueue := [1] }

/-- The sector of the REFRESH entry, a SYNC that waits on it alone or beside another, and a suspended link. -/
theorem witness_DrainStartSealsAndDrops :
    beforeDrain.control.mode = .running ∧ beforeDrain.resetAsserted = false ∧ beforeDrain.control.pfail = false ∧
    { beforeDrain with control := { beforeDrain.control with pfail := true } }.control.pfail = true ∧
    { beforeDrain with control := { beforeDrain.control with reinitClaimed := true } }.control.reinitClaimed = true ∧
    (beforeDrain.entries[(1 : Slot)].state = .sealed ∧ beforeDrain.entries[(1 : Slot)].origin = some .refresh ∧
      beforeDrain.entries[(1 : Slot)].written = 0#512 ∧ beforeDrain.entries[(1 : Slot)].page.isSome) ∧
    beforeDrain.entries[(0 : Slot)].origin ≠ some .refresh ∧ beforeDrain.refresh.records[0]? = some RefreshRecord.initial ∧
    (∀ x ∈ [([WaitPair.mk 1 0#8], ([] : List WaitPair)), ([⟨0, 0#8⟩, ⟨1, 0#8⟩], [⟨0, 0#8⟩])],
      ({ beforeDrain with syncRecord := .waiting x.1 0 }).syncRecord = .waiting x.1 0 ∧ x.1 ≠ [] ∧
      (x.1.filter fun p => ¬ (p.slot = 1 ∧ p.generation = beforeDrain.entries[p.slot].generation)) = x.2) ∧
    (let s := { beforeDrain with link := busyLink .erase .suspended none }
     s.link.state = .suspended ∧ s.link.inFlight = none) := by decide +kernel

theorem witness_PfailAndReinitOutsideADrainStart :
    (∀ m ∈ [Mode.start, .drain, .drained, .halted], (inMode m).resetAsserted = false ∧ (inMode m).control.pfail = false ∧
      (inMode m).control.mode = m) ∧
    draining.resetAsserted = false ∧ draining.control.pfail = true ∧ draining.control.mode ≠ .drained ∧
    drainedDown.resetAsserted = false ∧ drainedDown.control.pfail = true ∧ drainedDown.control.mode = .drained ∧
    drainedDown.control.reinitPending = false ∧
    { drainedDown with control := { drainedDown.control with reinitPending := true } }.control.reinitPending = true ∧
    (∀ m ∈ [Mode.drain, .drained, .halted],
      let s := { inMode m with
        control := { (inMode m).control with reinitClaimed := true }
        command := { CommandUnit.initial with busy := true, last := some .reinit, result := .busy } }
      s.control.reinitClaimed = true ∧ s.control.mode = m ∧ s.command.busy = true ∧ s.command.last = some .reinit) := by decide +kernel

theorem witness_DrainCompletionChoosesTheMode :
    ∀ pfail ∈ [true, false], ∀ pending ∈ [true, false],
      let s := { draining with control := { draining.control with pfail := pfail, reinitPending := pending } }
      s.control.mode = .drain ∧ s.control.drainCause = some .pfail ∧
      (∀ i : Slot, s.entries[i].state ≠ .sealed ∧ s.entries[i].state ≠ .committing) ∧ s.control.pfail = pfail ∧
      s.control.reinitPending = pending := by decide +kernel

/-! ### Witnesses: start-up -/

/-- The size codes on both sides of the border. -/
theorem witness_StartUpBegins :
    State.reset.control.mode = .start ∧ State.reset.sequencer.phase = .size ∧
    (0#3).toNat ≤ 4 ∧ (4#3).toNat ≤ 4 ∧ 5 ≤ (5#3).toNat ∧ 5 ≤ (7#3).toNat ∧
    ∀ phase ∈ [Phase.deviceReset, .readA, .readB],
      (starting phase Link.initial).control.mode = .start ∧ (starting phase Link.initial).link.state = .idle ∧
      (starting phase Link.initial).link.inFlight = none ∧ (starting phase Link.initial).sequencer.deviceSize = some 2048 ∧
      (starting phase Link.initial).sequencer.phase = phase := by decide +kernel

/-- Bytes 0 to 77 of a record with the default parameters for the smallest device (12.2, R176), in six parts. -/
def goodBody : List (List Byte) := [
  [0x5A#8, 0x4B#8, 0x37#8, 0x31#8, 0x01#8, 0x01#8, 0x01#8, 0x02#8, 0x00#8, 0x00#8, 0x00#8, 0x00#8, 0xC0#8],
  [0x07#8, 0x14#8, 0x00#8, 0xF4#8, 0x01#8, 0xD0#8, 0x07#8, 0x32#8, 0x0A#8, 0x04#8, 0x04#8, 0x00#8, 0x04#8],
  [0xBE#8, 0x2F#8, 0x00#8, 0x00#8, 0x00#8, 0x00#8, 0x00#8, 0x00#8, 0x00#8, 0x00#8, 0x00#8, 0x00#8, 0x00#8],
  [0x00#8, 0x00#8, 0x00#8, 0x00#8, 0x00#8, 0x00#8, 0x00#8, 0x00#8, 0x00#8, 0x00#8, 0x00#8, 0x00#8, 0x00#8],
  [0x00#8, 0x00#8, 0x00#8, 0x00#8, 0x00#8, 0x00#8, 0x00#8, 0x00#8, 0x00#8, 0x00#8, 0x00#8, 0x00#8, 0x00#8],
  [0x00#8, 0x00#8, 0x00#8, 0x00#8, 0x00#8, 0x00#8, 0x00#8, 0x00#8, 0x00#8, 0x00#8, 0x00#8, 0x00#8, 0x00#8]]

/-- A VALID copy: the body and its CRC-32, computed outside the model. -/
def goodCopy : List Byte := goodBody.flatten ++ [0x24#8, 0x45#8, 0xDD#8, 0x2A#8]

theorem good_crc0 : (goodBody[0]).foldl crcByte 0xFFFFFFFF#32 = 0xAFC5309F#32 := by decide +kernel
theorem good_crc1 : (goodBody[1]).foldl crcByte 0xAFC5309F#32 = 0x9C9654EE#32 := by decide +kernel
theorem good_crc2 : (goodBody[2]).foldl crcByte 0x9C9654EE#32 = 0xB66741FB#32 := by decide +kernel
theorem good_crc3 : (goodBody[3]).foldl crcByte 0xB66741FB#32 = 0xAC96656A#32 := by decide +kernel
theorem good_crc4 : (goodBody[4]).foldl crcByte 0xAC96656A#32 = 0x069B7628#32 := by decide +kernel
theorem good_crc5 : (goodBody[5]).foldl crcByte 0x069B7628#32 = 0xD522BADB#32 := by decide +kernel

theorem good_crc : crc32 (goodCopy.take 78) = 0x2ADD4524#32 := by
  have parts : goodCopy.take 78 = goodBody[0] ++ (goodBody[1] ++ (goodBody[2] ++ (goodBody[3] ++ (goodBody[4] ++ goodBody[5])))) := by
    decide +kernel
  rw [crc32, parts]
  simp only [List.foldl_append, good_crc0, good_crc1, good_crc2, good_crc3, good_crc4, good_crc5]
  decide +kernel

/-- A VALID copy, and one of 82 zero bytes, which is BAD. -/
theorem witness_CopyReadGivesItsVerdict :
    (∀ phase ∈ [Phase.readA, .readB],
      let s := starting phase { Link.initial with state := .reading, owner := some .startup, inFlight := some (.read 1015808 82) }
      s.link.inFlight = some (.read 1015808 82) ∧ s.link.owner = some .startup ∧ s.sequencer.deviceSize = some 2048 ∧
      s.sequencer.phase = phase) ∧
    goodCopy.length = 82 ∧ (List.replicate 82 0#8).length = 82 ∧ validate 2048 (List.replicate 82 0#8) = .bad .magic := by
  decide +kernel

/-- The copy above passes all seven checks; one of zero bytes fails the first, and one with the next version the second. -/
theorem witness_ValidCopyPassesEveryCheck :
    validate 2048 goodCopy = .valid (recordOf goodCopy) ∧ validate 2048 (List.replicate 82 0#8) = .bad .magic ∧
    validate 2048 (goodCopy.set 4 2#8) = .bad .version ∧ validate 2048 (goodCopy.set 81 0x2B#8) = .bad .crc := by
  have h : crc32 (goodCopy.take 78) = (recordOf goodCopy).crc := by rw [good_crc]; decide +kernel
  have e : (goodCopy.set 81 0x2B#8).take 78 = goodCopy.take 78 := by decide +kernel
  have h' : crc32 ((goodCopy.set 81 0x2B#8).take 78) ≠ (recordOf (goodCopy.set 81 0x2B#8)).crc := by rw [e, good_crc]; decide +kernel
  refine ⟨?_, by decide +kernel, by decide +kernel, ?_⟩ <;> simp only [validate]
  · rw [if_neg (by decide +kernel), if_neg (by decide +kernel), if_neg (not_not.mpr h), if_neg (by decide +kernel),
      if_neg (by decide +kernel), if_neg (by decide +kernel), if_neg (by decide +kernel)]
  · rw [if_neg (by decide +kernel), if_neg (by decide +kernel), if_pos h']

/-- Four bytes after a list read back as their value. -/
theorem at32_bytes32 (l : List Byte) (x : BitVec 32) : at32 (l ++ bytes32 x) l.length = x := by
  have h (k : Nat) : at8 (l ++ bytes32 x) (l.length + k) = (bytes32 x).getD k 0#8 := by
    simp [at8, List.getD_eq_getElem?_getD, List.getElem?_append_right]
  simp only [at32, at16]
  rw [Nat.add_assoc, h 3, h 2, h 1]
  rw [show at8 (l ++ bytes32 x) l.length = _ from h 0]
  simp only [bytes32, List.getD_cons_succ, List.getD_cons_zero]
  apply BitVec.eq_of_getLsbD_eq
  intro i hi
  simp only [BitVec.getLsbD_append, BitVec.getLsbD_extractLsb']
  by_cases h1 : i < 8
  · simp [h1, show i < 16 by omega]
  by_cases h2 : i < 16
  · simp [h1, h2, show i - 8 < 8 by omega, show 8 + (i - 8) = i by omega]
  by_cases h3 : i < 24
  · simp [h2, show i - 16 < 8 by omega, show 16 + (i - 16) = i by omega]
  · simp [h2, show ¬ i - 16 < 8 by omega, show i - 16 - 8 < 8 by omega, show 24 + (i - 16 - 8) = i by omega]

/-- A copy with a good CRC, whatever its body. -/
def sealedCopy (f : RecordFields) (rs : Vector RawRegion 8) : List Byte := recordBody f rs ++ bytes32 (crc32 (recordBody f rs))

theorem sealedCopy_crc (f : RecordFields) (rs : Vector RawRegion 8) (h : (recordBody f rs).length = 78) :
    crc32 ((sealedCopy f rs).take 78) = (recordOf (sealedCopy f rs)).crc := by
  have e : (recordOf (sealedCopy f rs)).crc = at32 (sealedCopy f rs) (recordBody f rs).length := by rw [h]; rfl
  rw [e, sealedCopy, at32_bytes32, ← h, List.take_left']
  rfl

/-- The defaults for the smallest device, and eight default descriptors. -/
def good : RecordFields := RecordFields.default 2048
def plain : Vector RawRegion 8 := Vector.replicate 8 Region.initial.raw

/-- A good CRC over a body that fails the checks 4, 5, 6 and 7. -/
theorem witness_ValidCopyPassesEveryCheck_body :
    validate 2048 (sealedCopy { good with commitTries := 5#8 } plain) = .bad .range ∧
    validate 2048 (sealedCopy { good with idleSeal := 501#16 } plain) = .bad .order ∧
    validate 2048 (sealedCopy { good with windowPages := 2048#16 } plain) = .bad .window ∧
    validate 2048 (sealedCopy good (plain.set 7 ⟨0#16, 1984#16, 0#8, 0#8⟩)) = .bad .region := by
  refine ⟨?_, ?_, ?_, ?_⟩ <;> simp only [validate]
  · rw [if_neg (by decide +kernel), if_neg (by decide +kernel), if_neg (not_not.mpr (sealedCopy_crc _ _ (by decide +kernel))),
      if_pos (by decide +kernel)]
  · rw [if_neg (by decide +kernel), if_neg (by decide +kernel), if_neg (not_not.mpr (sealedCopy_crc _ _ (by decide +kernel))),
      if_neg (by decide +kernel), if_pos (by decide +kernel)]
  · rw [if_neg (by decide +kernel), if_neg (by decide +kernel), if_neg (not_not.mpr (sealedCopy_crc _ _ (by decide +kernel))),
      if_neg (by decide +kernel), if_neg (by decide +kernel), if_pos (by decide +kernel)]
  · rw [if_neg (by decide +kernel), if_neg (by decide +kernel), if_neg (not_not.mpr (sealedCopy_crc _ _ (by decide +kernel))),
      if_neg (by decide +kernel), if_neg (by decide +kernel), if_neg (by decide +kernel), if_pos (by decide +kernel)]

/-- A record with a sequence number, for a VALID verdict. -/
def withSequence (n : BitVec 32) : ConfigRecord :=
  { fields := { RecordFields.default 2048 with sequence := n }, regions := Vector.replicate 8 Region.initial.raw, crc := 0#32 }

/-- Phase APPLY with two verdicts. -/
def applying (a b : Verdict) : State := { starting .apply Link.initial with
  sequencer := { run.sequencer with phase := .apply, startKind := some .powerOn, verdictA := some a, verdictB := some b } }

/-- Equal numbers, a higher one in A, a higher one in B, and the three cases with a BAD copy; after power-on and after a REINIT. -/
theorem witness_ApplicationOfTheConfiguration :
    (∀ v ∈ [Verdict.valid (withSequence 0#32), .bad .crc], ∀ w ∈ [Verdict.valid (withSequence 0#32), .bad .magic],
      ∀ k ∈ [StartKind.powerOn, .reinit],
      let s := { applying v w with sequencer := { (applying v w).sequencer with startKind := some k } }
      s.control.mode = .start ∧ s.sequencer.phase = .apply ∧ s.sequencer.applied = false ∧
      s.sequencer.deviceSize = some 2048 ∧ s.sequencer.verdictA = some v ∧ s.sequencer.verdictB = some w ∧
      s.sequencer.startKind = some k) ∧
    (withSequence 0#32).fields.sequence.toNat ≤ (withSequence 0#32).fields.sequence.toNat ∧
    (withSequence 0xFFFFFFFE#32).fields.sequence.toNat < (withSequence 0xFFFFFFFF#32).fields.sequence.toNat := by decide +kernel

/-- A FAILED entry with host bytes on page 5, region 0 live as the default, and a loaded region 0 that would make page 5 READ_ONLY: region 0 is held.
Region 7, frozen, reaches beyond a window of 1984 pages, from inside it and from outside: clipped. -/
theorem witness_ApplicationOfTheConfiguration_regions :
    let s := one (hostEntry .failed 5)
    let trial := s.regions.set 0 ⟨true, 0, 9, .readOnly, false⟩
    (s.regions[(0 : RegionIndex)].frozen = false ∧ s.entries[(0 : Slot)].state = .failed ∧ s.entries[(0 : Slot)].written ≠ 0#512 ∧
      s.entries[(0 : Slot)].page = some 5 ∧ effectiveModeOf s.regions 5 = .readWrite ∧ effectiveModeOf trial 5 ≠ .readWrite) ∧
    ∀ first ∈ [1983, 1984], let r := s.regions.set 7 ⟨true, first, 2000, .readOnly, true⟩
      r[(7 : RegionIndex)].frozen = true ∧ 1984 ≤ r[(7 : RegionIndex)].last ∧
      (r[(7 : RegionIndex)].first < 1984 ↔ first = 1983) := by decide +kernel

theorem witness_StartUpEndsInRunning :
    let s := { starting .apply Link.initial with
      sequencer := { run.sequencer with phase := .apply, startKind := some .reinit, applied := true } }
    s.control.mode = .start ∧ s.sequencer.phase = .apply ∧ s.sequencer.applied = true ∧ s.sequencer.loadedCopy = some .default ∧
    s.sequencer.startKind = some .reinit ∧ s.sequencer.loadedSequence = some 0#32 := by decide +kernel

/-! ### Witnesses: the management port -/

/-- BUSY, idle in START (which refuses all nine), idle in RUNNING. -/
theorem witness_CmdTurnedAway :
    (let s := { run with command := { CommandUnit.initial with busy := true } }
     s.resetAsserted = false ∧ s.port.maddr.isSome ∧ s.command.busy = true) ∧
    (inMode .start).resetAsserted = false ∧ (inMode .start).port.maddr.isSome ∧ (inMode .start).command.busy = false ∧
    (∀ p ∈ cmdWrites, refusingMode p.2 (inMode .start).control.mode) ∧
    ((0#8 : Byte) = 0#8 ∧ 9 < (10#8 : Byte).toNat ∧ 9 < (255#8 : Byte).toNat) := by
  refine ⟨by decide +kernel, by decide +kernel, by decide +kernel, by decide +kernel, ?_, by decide +kernel⟩
  simp [cmdWrites, refusingMode, inMode]

/-- R130, R131: a SYNC that finds a FAILED entry leaves the record IDLE with their number; the next one, which finds none, with 0. -/
theorem test_sync_counts_failed_at_acceptance :
    (after .sync (one (hostEntry .failed 0))).syncRecord = .idle 1 ∧
    (after .sync { run with syncRecord := .idle 1 }).syncRecord = .idle 0 := by decide +kernel

/-- With a FAILED entry, with nothing staged, and with an OPEN entry. -/
theorem witness_SyncSealsAndWaits :
    (∀ s ∈ [one (hostEntry .failed 0), run, one (hostEntry .opened 0)], s.AdmitsCommand ∧ s.control.mode = .running) ∧
    (one (hostEntry .failed 0)).failedCount = 0 + 1 ∧ (∀ i : Slot, run.entries[i].state = .free) ∧
    (one (hostEntry .opened 0)).failedCount = 0 ∧ (∃ i : Slot, (one (hostEntry .opened 0)).entries[i].state ≠ .free) := by
  unfold State.AdmitsCommand; decide +kernel

/-- Slots 16 and 0; a FAILED entry, one with an OPEN successor, and a FREE one. -/
theorem witness_RetryAndDiscardOfAFailedEntry :
    (args run 16 0 0 0).AdmitsCommand ∧ 16 ≤ ((args run 16 0 0 0).port.args[0]).toNat ∧ (args run 16 0 0 0).control.mode = .running ∧
    (args (one (hostEntry .failed 0)) 0 0 0 0).AdmitsCommand ∧
    ((args (one (hostEntry .failed 0)) 0 0 0 0).port.args[0]).toNat = (0 : Slot).val ∧
    (args (one (hostEntry .failed 0)) 0 0 0 0).entries[(0 : Slot)].state = .failed ∧
    (∀ j : Slot, (args (one (hostEntry .failed 0)) 0 0 0 0).entries[j].page = (one (hostEntry .failed 0)).entries[(0 : Slot)].page →
      (one (hostEntry .failed 0)).entries[j].state ≠ .opened ∧ (one (hostEntry .failed 0)).entries[j].state ≠ .sealed) ∧
    (args run 15 0 0 0).AdmitsCommand ∧ ((args run 15 0 0 0).port.args[0]).toNat = (15 : Slot).val ∧
    (args run 15 0 0 0).entries[(15 : Slot)].state ≠ .failed ∧
    (let s := args ((one (hostEntry .failed 0)).setEntry 1 (hostEntry .opened 0)) 0 0 0 0
     s.AdmitsCommand ∧ s.entries[(0 : Slot)].page = some 0 ∧ s.entries[(1 : Slot)].page = some 0 ∧
     s.entries[(1 : Slot)].state = .opened) := by
  unfold State.AdmitsCommand; decide +kernel

/-- DISCARD_ENTRY in DRAINED and HALTED: a FAILED entry, a FREE one, and slot 16. -/
theorem witness_RetryAndDiscardOfAFailedEntry_discard :
    ∀ c ∈ [drainedDown.control, (inMode .halted).control],
      (let s := { one (hostEntry .failed 0) with control := c }
       s.AdmitsCommand ∧ (s.control.mode = .drained ∨ s.control.mode = .halted) ∧ (s.port.args[0]).toNat = (0 : Slot).val ∧
       s.entries[(0 : Slot)].state = .failed) ∧
      (let s := { run with control := c }
       s.AdmitsCommand ∧ (s.control.mode = .drained ∨ s.control.mode = .halted) ∧ s.entries[(0 : Slot)].state ≠ .failed) ∧
      16 ≤ ((args run 16 0 0 0).port.args[0]).toNat := by
  unfold State.AdmitsCommand; decide +kernel

/-- Region 8; mode code 3; page 1984, one beyond the window; page 1983, its last; a frozen region; a page with staged bytes. -/
theorem witness_RegionCommands :
    (∀ s ∈ [args run 8 0 0 0, args run 0 0 0 3, args run 7 0 1984 0x101, args run 7 0 1983 0x101,
        args (run.setRegion 7 ⟨false, 0, 0, .readWrite, true⟩) 7 0 1983 0x101, args (one (hostEntry .sealed 0)) 7 0 0 0x101],
      s.AdmitsCommand ∧ s.control.mode = .running) ∧
    8 ≤ ((args run 8 0 0 0).port.args[0]).toNat ∧ ((args run 0 0 0 3).port.args[3]).toNat % 4 = 3 ∧
    (let new : Region := ⟨true, 0, 1984, .readOnly, false⟩
     let s := args run 7 0 1984 0x101
     (s.port.args[0]).toNat = (7 : RegionIndex).val ∧ new = ⟨(s.port.args[3]).getLsbD 8, (s.port.args[1]).toNat, (s.port.args[2]).toNat,
       new.mode, s.regions[(7 : RegionIndex)].frozen⟩ ∧ (s.port.args[3]).toNat % 4 = new.mode.code ∧
     ¬ (new.first ≤ new.last ∧ new.last < s.params.windowPages)) ∧
    (let new : Region := ⟨true, 0, 1983, .readOnly, false⟩
     let s := args run 7 0 1983 0x101
     (s.port.args[0]).toNat = (7 : RegionIndex).val ∧ new = ⟨(s.port.args[3]).getLsbD 8, (s.port.args[1]).toNat, (s.port.args[2]).toNat,
       new.mode, s.regions[(7 : RegionIndex)].frozen⟩ ∧ (s.port.args[3]).toNat % 4 = new.mode.code ∧
     new.first ≤ new.last ∧ new.last < s.params.windowPages ∧ s.regions[(7 : RegionIndex)].frozen = false ∧
     ∀ i : Slot, s.entries[i].state = .free) ∧
    (let new : Region := ⟨true, 0, 1983, .readOnly, true⟩
     let s := args (run.setRegion 7 ⟨false, 0, 0, .readWrite, true⟩) 7 0 1983 0x101
     (s.port.args[0]).toNat = (7 : RegionIndex).val ∧ new = ⟨(s.port.args[3]).getLsbD 8, (s.port.args[1]).toNat, (s.port.args[2]).toNat,
       new.mode, s.regions[(7 : RegionIndex)].frozen⟩ ∧ (s.port.args[3]).toNat % 4 = new.mode.code ∧
     new.first ≤ new.last ∧ new.last < s.params.windowPages ∧ s.regions[(7 : RegionIndex)].frozen = true) ∧
    (let new : Region := ⟨true, 0, 0, .readOnly, false⟩
     let s := args (one (hostEntry .sealed 0)) 7 0 0 0x101
     (s.port.args[0]).toNat = (7 : RegionIndex).val ∧ new = ⟨(s.port.args[3]).getLsbD 8, (s.port.args[1]).toNat, (s.port.args[2]).toNat,
       new.mode, s.regions[(7 : RegionIndex)].frozen⟩ ∧ (s.port.args[3]).toNat % 4 = new.mode.code ∧
     new.first ≤ new.last ∧ new.last < s.params.windowPages ∧ s.regions[(7 : RegionIndex)].frozen = false ∧
     s.entries[(0 : Slot)].state ≠ .free ∧ s.entries[(0 : Slot)].written ≠ 0#512 ∧ s.entries[(0 : Slot)].page = some 0 ∧
     s.effectiveMode 0 = .readWrite ∧ effectiveModeOf (s.regions.set 7 new) 0 ≠ .readWrite) := by
  unfold State.AdmitsCommand; decide +kernel

/-- A good shadow with the loaded sequence 0 and FFFFFFFFh, a bad one, and a full staging table. -/
theorem witness_WriteConfigStagesTheRecord :
    (let s := { run with shadow := { run.shadow with fields := { run.shadow.fields with commitTries := 5#8 } } }
     s.AdmitsCommand ∧ s.control.mode = .running ∧ s.sequencer.deviceSize = some 2048 ∧ s.sequencer.loadedSequence = some 0#32 ∧
     s.shadow.fields.rangeOk = false) ∧
    (let s := { run with sequencer := { run.sequencer with loadedSequence := some 0xFFFFFFFF#32 } }
     s.AdmitsCommand ∧ s.control.mode = .running ∧ s.sequencer.deviceSize = some 2048 ∧
     s.sequencer.loadedSequence = some 0xFFFFFFFF#32) ∧
    (∀ i : Slot, (full .opened).entries[i].state ≠ .free) ∧
    (∀ s ∈ [run, full .opened], s.AdmitsCommand ∧ s.control.mode = .running ∧ s.sequencer.deviceSize = some 2048 ∧
      s.sequencer.loadedSequence = some 0#32 ∧
      (s.shadow.fields.rangeOk = true ∧ s.shadow.fields.orderOk = true ∧ s.shadow.fields.windowOk 2048 = true) ∧
      0#32 ≠ 0xFFFFFFFF#32) ∧
    run.entries[(0 : Slot)].state = .free ∧ (∀ j : Slot, j < 0 → run.entries[j].state ≠ .free) := by
  unfold State.AdmitsCommand; decide +kernel

/-- Slots 16 and 15, lines 8 and 7. -/
theorem witness_ReinitClearAndInspect :
    run.AdmitsCommand ∧ run.control.mode = .running ∧ run.control.mode ≠ .start ∧
    (args run 16 0 0 0).AdmitsCommand ∧ 16 ≤ ((args run 16 0 0 0).port.args[0]).toNat ∧
    (args run 0 8 0 0).AdmitsCommand ∧ 8 ≤ ((args run 0 8 0 0).port.args[1]).toNat ∧
    (args run 15 7 0 0).AdmitsCommand ∧ ((args run 15 7 0 0).port.args[0]).toNat = (15 : Slot).val ∧
    ((args run 15 7 0 0).port.args[1]).toNat = (7 : Fin 8).val := by
  unfold State.AdmitsCommand; decide +kernel

/-- Slot 15 outside the commit queue, and second in it. -/
theorem witness_ReinitClearAndInspect_order :
    run.commitQueue = [] ∧ ((15 : Slot) ∉ ([] : List Slot)) ∧
    [(3 : Slot), 15][1]? = some 15 ∧ ∀ m < 1, [(3 : Slot), 15][m]? ≠ some 15 := by decide +kernel

/-- The pointer. -/
def at' (p : Byte) : State := { run with port := { run.port with pointer := p } }

theorem witness_PortTransferBytes :
    portCommand .transferEnd ∧ held.resetAsserted = true ∧ { run with port := Port.initial }.port.maddr = none ∧
    run.resetAsserted = false ∧ run.port.maddr.isSome ∧
    (at' 0x14#8).port.pointer.toNat = 0x14 + 2 * (0 : Fin 4).val ∧ (at' 0x1A#8).port.pointer.toNat = 0x14 + 2 * (3 : Fin 4).val ∧
    (at' 0x15#8).port.pointer.toNat = 0x14 + 2 * (0 : Fin 4).val + 1 ∧ (at' 0x1B#8).port.pointer.toNat = 0x14 + 2 * (3 : Fin 4).val + 1 ∧
    ((at' 0x10#8).port.pointer.toNat = 0x10 ∧ cmdWrites[0]? = some (.sync, .sync) ∧ (1#8 : Byte).toNat = 0 + 1 ∧
      cmdWrites[8]? = some (.inspectEntry, .inspectEntry) ∧ (9#8 : Byte).toNat = 8 + 1 ∧ 9 < (10#8 : Byte).toNat) ∧
    ((at' 0x30#8).port.pointer.toNat = 0x30 ∧ (at' 0x31#8).port.pointer.toNat = 0x31 ∧ (at' 0x0A#8).port.pointer.toNat = 0x0A ∧
      (at' 0x0B#8).port.pointer.toNat = 0x0B) ∧
    (∀ p ∈ [0x0A#8, 0x0F#8], (at' p).port.pointer.toNat < 0x10) ∧
    (∀ p ∈ [0x11#8, 0x13#8], 0x11 ≤ (at' p).port.pointer.toNat ∧ (at' p).port.pointer.toNat ≤ 0x13) ∧
    (∀ p ∈ [0x1C#8, 0x20#8, 0x27#8, 0x2F#8], 0x1C ≤ (at' p).port.pointer.toNat ∧ (at' p).port.pointer.toNat ≤ 0x2F) ∧
    (∀ p ∈ [0x32#8, 0x40#8, 0xFF#8], 0x32 ≤ (at' p).port.pointer.toNat) ∧
    (at' 0x20#8).port.pointer = counterLowAddr .stagingRetries ∧ (at' 0x26#8).port.pointer = counterLowAddr .unrecordedRetries ∧
    (∀ p ∈ [0x00#8, 0x02#8, 0x09#8, 0x13#8, 0x1B#8, 0x21#8, 0x30#8, 0x9D#8, 0xFF#8],
      (at' p).port.pointer.toNat ∉ [0x0A, 0x0B, 0x20, 0x22, 0x24, 0x26, 0x31]) := ⟨trivial, by decide +kernel⟩

/-- A queue of one record, its cursor on byte 6 and on byte 7. -/
def queued (cursor : Fin 8) : State := { run with
  events := { records := [⟨0#16, .deviceReset, none, none, none⟩], nextSequence := 1#16, lost := 0#8, cursor := cursor } }

theorem witness_ReadsThatChangeTheirRegister :
    run.resetAsserted = false ∧ run.port.maddr.isSome ∧ run.events.records = [] ∧
    (∀ c ∈ [(6 : Fin 8), 7], (queued c).resetAsserted = false ∧ (queued c).port.maddr.isSome ∧
      (queued c).events.records = [⟨0#16, .deviceReset, none, none, none⟩]) ∧
    (queued 6).events.cursor < 7 ∧ (queued 7).events.cursor = 7 ∧ CounterId.suspensions ≠ .stagingRetries := by decide +kernel

/-- The configuration index. -/
def index (m : Mode) (n : Fin 82) : State := { inMode m with port := { run.port with cfgIndex := n } }

theorem witness_ConfigurationRegisters :
    (81#8 : Byte).toNat < 82 ∧ 82 ≤ (82#8 : Byte).toNat ∧
    (∀ n ∈ [(0 : Fin 82), 29], (index .running n).resetAsserted = false ∧ (index .running n).port.maddr.isSome ∧
      (index .running n).port.cfgIndex.val < 30) ∧
    (∀ j : Fin 6, (index .running ⟨30 + j.val, by omega⟩).port.cfgIndex.val = 30 + 6 * (0 : RegionIndex).val + j.val ∧
      (index .running ⟨72 + j.val, by omega⟩).port.cfgIndex.val = 30 + 6 * (7 : RegionIndex).val + j.val) ∧
    (index .running 78).port.cfgIndex.val = 78 + (0 : Fin 4).val ∧ (index .running 81).port.cfgIndex.val = 78 + (3 : Fin 4).val ∧
    (∀ n ∈ [(5 : Fin 82), 7, 12, 29], ((5 ≤ (index .running n).port.cfgIndex.val ∧ (index .running n).port.cfgIndex.val ≤ 7) ∨
        (12 ≤ (index .running n).port.cfgIndex.val ∧ (index .running n).port.cfgIndex.val ≤ 29)) ∧
      (index .running n).control.mode ≠ .start ∧ (index .running n).control.mode ≠ .halted) ∧
    (∀ n ∈ [(4 : Fin 82), 8, 11, 30, 81], ¬ ((5 ≤ (index .running n).port.cfgIndex.val ∧ (index .running n).port.cfgIndex.val ≤ 7) ∨
        (12 ≤ (index .running n).port.cfgIndex.val ∧ (index .running n).port.cfgIndex.val ≤ 29))) ∧
    (index .start 5).control.mode = .start ∧ (index .halted 5).control.mode = .halted := by decide +kernel

/-! ### Witnesses: what every step keeps -/

/-- An erase of slot 0 in progress, slot 1 SEALED, a read waiting, one event record, and the erased page listed. -/
def lawful : State := { (erasing (busyLink .erase .opBusy none)).setEntry 1 (hostEntry .sealed 1) with
  commitQueue := [1], array := [(0, .undefined)]
  events := { records := [⟨0#16, .deviceReset, none, none, none⟩], nextSequence := 1#16, lost := 0#8, cursor := 0 } }

theorem lawful_steps : (∃ t, step lawful = .next t) ∧ ∃ t, exec .sync lawful = .next t := ⟨⟨_, rfl⟩, _, rfl⟩

theorem lawful_pages : lawful.PageLaw := by
  refine ⟨fun i j page hi hj => ?_, by unfold State.ConfigLaw; decide +kernel, fun i page hu hp => ⟨2048, rfl, ?_⟩, fun _ => ⟨2048, rfl, ?_, ?_⟩,
    fun r h => ?_, fun n h => ?_, fun h => ?_, fun h => ?_, fun h => ?_⟩
  · exact (by unfold Entry.IsAbsorbing Entry.IsRetired; decide +kernel : ∀ i j : Slot, lawful.entries[i].page = lawful.entries[j].page →
      (lawful.entries[i].IsAbsorbing ∧ lawful.entries[j].IsAbsorbing) ∨ (lawful.entries[i].IsRetired ∧ lawful.entries[j].IsRetired) → i = j)
      i j (hi.trans hj.symm)
  · have h := (by decide +kernel : ∀ i : Slot, lawful.entries[i].state ≠ .free →
      lawful.entries[i].origin ≠ some .config ∧ ∀ p ∈ lawful.entries[i].page, p + 64 < 2048) i hu
    rw [if_neg h.1]; exact h.2 page hp
  · decide +kernel
  · decide +kernel
  · rcases h with h | h <;> cases h
  · cases h; decide
  · cases h
  · exact (h rfl).elim
  · cases h

theorem witness_StepsKeepTheStagingLaws :
    lawful.StagingLaw ∧ lawful.ResetLaw ∧ lawful.PageLaw ∧ drainedDown.StagingLaw ∧ drainedDown.psafe = true := by
  exact ⟨⟨by unfold State.QueueLaw; decide +kernel, by unfold State.EngineLaw; decide +kernel, by unfold State.ModeLaw; decide +kernel⟩,
    by unfold State.ResetLaw; decide +kernel, lawful_pages,
    ⟨by unfold State.QueueLaw; decide +kernel, by unfold State.EngineLaw; decide +kernel, by unfold State.ModeLaw; decide +kernel⟩, by decide +kernel⟩

theorem witness_ModeChangesAreTheListedOnes :
    lawful.pending = [] ∧ lawful.resetAsserted = false ∧ held.resetAsserted = true ∧ Instr.sync ≠ .resetNAssertion := by
  refine ⟨rfl, rfl, rfl, by decide⟩

/-- A WRITE takes slot 2 from FREE. -/
theorem witness_GenerationAdvancesAtAllocation :
    lawful.StagingLaw ∧ lawful.entries[(2 : Slot)].state = .free ∧
    (∃ t, exec (.writeRequest 0 0x400#24 1#7 [0#8]) lawful = .next t ∧ t.entries[(2 : Slot)].state ≠ .free) ∧
    lawful.resetAsserted = false ∧ lawful.pending = [] :=
  ⟨witness_StepsKeepTheStagingLaws.1, by decide +kernel, ⟨_, rfl, by decide +kernel⟩, rfl, rfl⟩

/-- The erase in progress; and a FAILED entry in slot 0 with a FILL of slot 1 in hand, whose valid set is not the whole page. -/
def filling : State := { (one { wholeEntry with state := .failed }).setEntry 1 (hostEntry .committing 1) with
  engine := { engineAt .fill .waiting with slot := some 1 } }

theorem witness_StepsKeepProtection :
    (lawful.StagingLaw ∧ lawful.WrittenWithinValid ∧ lawful.WholePageValid ∧ lawful.ProtectionPromise) ∧
    filling.StagingLaw ∧ filling.WholePageValid :=
  ⟨⟨witness_StepsKeepTheStagingLaws.1, by unfold State.WrittenWithinValid; decide +kernel, by unfold State.WholePageValid; decide +kernel,
      fun _ _ _ _ _ _ => rfl⟩,
    ⟨by unfold State.QueueLaw; decide +kernel, by unfold State.EngineLaw; decide +kernel, by unfold State.ModeLaw; decide +kernel⟩,
    by unfold State.WholePageValid; decide +kernel⟩

theorem witness_StepsKeepTheDelayedQuota :
    lawful.DttQuota ∧ (oneDtt (readyFence .done)).DttQuota ∧
    (oneDtt (readyFence .done)).dtt[(0 : DttIndex)].state ≠ .free ∧ (oneDtt (readyFence .done)).dtt[(0 : DttIndex)].kind = some .fence ∧
    (oneDtt (readyFence .done)).dtt[(0 : DttIndex)].requester = some 0 ∧
    (∃ t, exec (.readRequest 0 0#24 1#7) run = .next t ∧ run.dtt[(0 : DttIndex)].state = .free ∧ t.dtt[(0 : DttIndex)].state ≠ .free) := by
  have alone (s : State) (h : ∀ i : DttIndex, s.dtt[i].state ≠ .free → i = 0) (r : ∀ q : Requester, s.heldBy q ≤ 2) : s.DttQuota :=
    ⟨r, fun _ i j hi hj _ _ => (h i hi).trans (h j hj).symm⟩
  exact ⟨alone _ (by decide +kernel) (by decide +kernel), alone _ (by decide +kernel) (by decide +kernel), by decide +kernel, rfl, rfl,
    _, rfl, by decide +kernel, by decide +kernel⟩

theorem witness_StepsKeepTheArrivalOrder : lawful.ArrivalLaw := by
  refine ⟨by decide +kernel, by decide +kernel, fun i h => ⟨0, ?_⟩, by decide +kernel⟩
  revert i; decide +kernel

theorem witness_StepsKeepTheEventOrder : lawful.EventLaw ∧ lawful.ArrayLaw := by
  unfold State.EventLaw State.ArrayLaw; decide +kernel

/-- The erase in progress, and no operation. -/
theorem witness_SuspensionCountStaysInBudget :
    lawful.StagingLaw ∧ lawful.SuspensionBudget ∧ lawful.link.suspensionCount = some 0 ∧ run.SuspensionBudget ∧
    run.link.suspensionCount = none := by
  refine ⟨witness_StepsKeepTheStagingLaws.1, ⟨by decide +kernel, fun _ => rfl, ?_⟩, rfl, ⟨by decide +kernel, ?_, ?_⟩, rfl⟩
  · intro n h; cases h; decide +kernel
  · intro h; simp [run, State.reset, Link.initial] at h
  · intro n h; cases h

theorem witness_RecordBytesAndFieldsAgree : goodCopy.length = 82 := by decide +kernel

end Sys2Proof.Tests
end

section
/-! SUPPORT. Facts about the tables of the model: reading a table after a write, the lowest slot that meets a test, sorted slots, sealing. -/

namespace Sys2Proof.Machine

/-! ### Reading a table after a write -/

theorem getFin_set {α : Type} {n : Nat} (v : Vector α n) (i j : Fin n) (a : α) :
    (v.set i.val a i.isLt)[j] = if j = i then a else v[j] := by
  simp only [Fin.getElem_fin, Vector.getElem_set, Fin.val_inj, eq_comm]

theorem State.setEntry_get (s : State) (i j : Slot) (e : Entry) :
    (s.setEntry i e).entries[j] = if j = i then e else s.entries[j] := getFin_set s.entries i j e

theorem State.setEntry_same (s : State) (i : Slot) (e : Entry) : (s.setEntry i e).entries[i] = e := by
  rw [State.setEntry_get, if_pos rfl]

theorem State.setEntry_other (s : State) {i j : Slot} (e : Entry) (h : j ≠ i) : (s.setEntry i e).entries[j] = s.entries[j] := by
  rw [State.setEntry_get, if_neg h]

theorem State.setEntry_setEntry (s : State) (i : Slot) (e f : Entry) : (s.setEntry i e).setEntry i f = s.setEntry i f := by
  simp [State.setEntry]

theorem State.freeEntry_get (s : State) (i j : Slot) :
    (s.freeEntry i).entries[j] = if j = i then s.entries[i].freed else s.entries[j] := s.setEntry_get i j _

theorem State.setDtt_get (s : State) (i j : DttIndex) (d : DttEntry) :
    (s.setDtt i d).dtt[j] = if j = i then d else s.dtt[j] := getFin_set s.dtt i j d

/-! ### The lowest index that meets a test -/

theorem find?_finRange_eq_some {n : Nat} {p : Fin n → Bool} {i : Fin n} :
    (List.finRange n).find? p = some i ↔ p i = true ∧ ∀ j < i, p j = false := by
  rw [List.find?_eq_some_iff_getElem]
  refine and_congr_right fun _ => ⟨?_, fun h => ?_⟩
  · rintro ⟨k, hk, hki, hlow⟩ j hj
    have hki : k = i.val := by simpa [Fin.ext_iff] using hki
    simpa using hlow j.val (by omega)
  · exact ⟨i.val, by simp, by simp, fun j hj => by simpa using h ⟨j, by omega⟩ hj⟩

theorem find?_finRange_eq_none {n : Nat} {p : Fin n → Bool} : (List.finRange n).find? p = none ↔ ∀ i, p i = false := by
  simp

theorem State.firstSlot_eq_some {s : State} {p : Entry → Bool} {i : Slot} :
    s.firstSlot p = some i ↔ p s.entries[i] = true ∧ ∀ j < i, p s.entries[j] = false := find?_finRange_eq_some

theorem State.firstSlot_eq_none {s : State} {p : Entry → Bool} : s.firstSlot p = none ↔ ∀ i : Slot, p s.entries[i] = false :=
  find?_finRange_eq_none

theorem State.freeSlot_eq_some {s : State} {i : Slot} :
    s.freeSlot = some i ↔ s.entries[i].state = .free ∧ ∀ j < i, s.entries[j].state ≠ .free := by
  simp only [State.freeSlot, State.firstSlot_eq_some, beq_iff_eq, beq_eq_false_iff_ne]

theorem State.freeSlot_eq_none {s : State} : s.freeSlot = none ↔ ∀ i : Slot, s.entries[i].state ≠ .free := by
  simp only [State.freeSlot, State.firstSlot_eq_none, beq_eq_false_iff_ne]

theorem State.mem_slotsWhere {s : State} {p : Entry → Bool} {i : Slot} : i ∈ s.slotsWhere p ↔ p s.entries[i] = true := by
  simp [State.slotsWhere]

theorem State.nodup_slotsWhere (s : State) (p : Entry → Bool) : (s.slotsWhere p).Nodup := (List.nodup_finRange 16).filter _

theorem State.slotsWhere_eq_nil {s : State} {p : Entry → Bool} : s.slotsWhere p = [] ↔ ∀ i : Slot, p s.entries[i] = false := by
  simp [State.slotsWhere, List.filter_eq_nil_iff]

theorem State.mem_openSlots {s : State} {i : Slot} : i ∈ s.openSlots ↔ s.entries[i].state = .opened := by
  simp only [State.openSlots, State.mem_slotsWhere, beq_iff_eq]

/-! ### Absorbing and retired entries -/

theorem Entry.absorbing_iff {e : Entry} : e.absorbing = true ↔ e.IsAbsorbing := by
  simp [Entry.absorbing, Entry.IsAbsorbing]

theorem State.absorbingSlot_eq_none {s : State} {page : Nat} :
    s.absorbingSlot page = none ↔ ∀ i : Slot, s.entries[i].page = some page → ¬ s.entries[i].IsAbsorbing := by
  simp only [State.absorbingSlot, State.firstSlot_eq_none, Bool.and_eq_false_iff, beq_eq_false_iff_ne, ← Entry.absorbing_iff,
    Bool.not_eq_true]
  exact forall_congr' fun i => by tauto

theorem State.absorbingSlot_eq_some {s : State} {page : Nat} {i : Slot} (h : s.absorbingSlot page = some i) :
    s.entries[i].IsAbsorbing ∧ s.entries[i].page = some page := by
  simpa only [Bool.and_eq_true, Entry.absorbing_iff, beq_iff_eq] using (State.firstSlot_eq_some.mp h).1

theorem State.failedSlot_eq_none {s : State} {page : Nat} :
    s.failedSlot page = none ↔ ∀ i : Slot, s.entries[i].page = some page → s.entries[i].state ≠ .failed := by
  simp only [State.failedSlot, State.firstSlot_eq_none, Bool.and_eq_false_iff, beq_eq_false_iff_ne]
  exact forall_congr' fun i => by tauto

theorem State.failedSlot_eq_some {s : State} {page : Nat} {i : Slot} (h : s.failedSlot page = some i) :
    s.entries[i].state = .failed ∧ s.entries[i].page = some page := by
  simpa using (State.firstSlot_eq_some.mp h).1

/-! ### Sorted slots (R16, R17) -/

theorem sortSlots_perm (key : Slot → Nat) (l : List Slot) : (sortSlots key l).Perm l := List.perm_insertionSort _ l

theorem sortSlots_pairwise (key : Slot → Nat) (l : List Slot) :
    (sortSlots key l).Pairwise fun i j => key i < key j ∨ (key i = key j ∧ i ≤ j) := by
  have total : Std.Total fun i j : Slot => key i < key j ∨ (key i = key j ∧ i ≤ j) := ⟨fun i j => by simp only [Fin.le_def]; omega⟩
  have trans : IsTrans Slot fun i j : Slot => key i < key j ∨ (key i = key j ∧ i ≤ j) := ⟨fun i j k => by simp only [Fin.le_def]; omega⟩
  exact List.pairwise_insertionSort _ l

theorem sortSlots_strict (key : Slot → Nat) {l : List Slot} (h : l.Nodup) :
    (sortSlots key l).Pairwise fun i j => key i < key j ∨ (key i = key j ∧ i < j) := by
  have distinct : (sortSlots key l).Pairwise (· ≠ ·) := (sortSlots_perm key l).nodup_iff.mpr h
  refine (distinct.and (sortSlots_pairwise key l)).imp fun ⟨hne, hle⟩ => ?_
  rcases hle with hlt | ⟨heq, hle⟩
  · exact .inl hlt
  · exact .inr ⟨heq, lt_of_le_of_ne hle hne⟩

/-! ### Sealing (R14, R17) -/

/-- An OPEN entry as sealing leaves it (R14). -/
def Entry.closed (e : Entry) : Entry := { e with state := .sealed, idleTimer := none, ageTimer := none }

theorem State.sealSlot_of_opened {s : State} {i : Slot} (h : s.entries[i].state = .opened) :
    s.sealSlot i = { s.setEntry i s.entries[i].closed with commitQueue := s.commitQueue ++ [i] } := by
  rw [State.sealSlot, if_pos h]; rfl

theorem State.sealSlot_of_not_opened {s : State} {i : Slot} (h : s.entries[i].state ≠ .opened) : s.sealSlot i = s := by
  rw [State.sealSlot, if_neg h]

/-- Sealing several OPEN entries, one after the other (R17). -/
theorem State.foldl_sealSlot {l : List Slot} (hl : l.Nodup) {s : State} (h : ∀ i ∈ l, s.entries[i].state = .opened) :
    (l.foldl State.sealSlot s).commitQueue = s.commitQueue ++ l ∧
    ∀ j : Slot, (l.foldl State.sealSlot s).entries[j] = if j ∈ l then s.entries[j].closed else s.entries[j] := by
  induction l generalizing s with
  | nil => simp
  | cons i l ih =>
    obtain ⟨hi, hl⟩ := List.nodup_cons.mp hl
    have first := State.sealSlot_of_opened (h i (by simp))
    have entries (j : Slot) : (s.sealSlot i).entries[j] = if j = i then s.entries[i].closed else s.entries[j] := by
      rw [first]; exact s.setEntry_get i j _
    have rest : ∀ j ∈ l, (s.sealSlot i).entries[j].state = .opened := fun j hj => by
      rw [entries, if_neg (ne_of_mem_of_not_mem hj hi)]; exact h j (by simp [hj])
    obtain ⟨hqueue, hentries⟩ := ih hl rest
    refine ⟨by rw [List.foldl_cons, hqueue, first]; simp, fun j => ?_⟩
    rw [List.foldl_cons, hentries, entries]
    by_cases hj : j = i
    · subst hj; simp [hi]
    · simp [hj]

/-- The slots of `l` in order of allocation time, as one event seals them (R17). -/
def State.sealingOrder (s : State) (l : List Slot) : List Slot := sortSlots (fun i => s.entries[i].allocTime.getD 0) l

theorem State.mem_sealingOrder {s : State} {l : List Slot} {i : Slot} : i ∈ s.sealingOrder l ↔ i ∈ l :=
  (sortSlots_perm _ l).mem_iff

theorem State.nodup_sealingOrder (s : State) {l : List Slot} (h : l.Nodup) : (s.sealingOrder l).Nodup :=
  (sortSlots_perm _ l).nodup_iff.mpr h

theorem State.sealSlots_queue {s : State} {l : List Slot} (hl : l.Nodup) (h : ∀ i ∈ l, s.entries[i].state = .opened) :
    (s.sealSlots l).commitQueue = s.commitQueue ++ s.sealingOrder l :=
  (State.foldl_sealSlot (s.nodup_sealingOrder hl) fun i hi => h i (s.mem_sealingOrder.mp hi)).1

theorem State.sealSlots_get {s : State} {l : List Slot} (hl : l.Nodup) (h : ∀ i ∈ l, s.entries[i].state = .opened) (j : Slot) :
    (s.sealSlots l).entries[j] = if j ∈ l then s.entries[j].closed else s.entries[j] := by
  have := (State.foldl_sealSlot (s.nodup_sealingOrder hl) fun i hi => h i (s.mem_sealingOrder.mp hi)).2 j
  simp only [State.mem_sealingOrder] at this
  exact this

/-- Sealing changes the entries and the commit queue alone. -/
theorem State.sealSlots_eq (s : State) (l : List Slot) :
    s.sealSlots l = { s with entries := (s.sealSlots l).entries, commitQueue := (s.sealSlots l).commitQueue } := by
  have := s.sealSlots_frame l
  cases hs : s.sealSlots l
  simp only [hs] at this ⊢
  simp [this]

theorem State.mem_openSlots_opened (s : State) : ∀ i ∈ s.openSlots, s.entries[i].state = .opened := fun _ => State.mem_openSlots.mp

theorem State.nodup_openSlots (s : State) : s.openSlots.Nodup := s.nodup_slotsWhere _

/-- Sealing every OPEN entry (R17). -/
theorem State.sealOpen_get (s : State) (j : Slot) :
    (s.sealSlots s.openSlots).entries[j] = if s.entries[j].state = .opened then s.entries[j].closed else s.entries[j] := by
  rw [State.sealSlots_get s.nodup_openSlots s.mem_openSlots_opened]
  simp only [State.mem_openSlots]

theorem State.sealOpen_queue (s : State) :
    (s.sealSlots s.openSlots).commitQueue = s.commitQueue ++ s.sealingOrder s.openSlots :=
  State.sealSlots_queue s.nodup_openSlots s.mem_openSlots_opened

end Sys2Proof.Machine
end

section
/-! SUPPORT. The staging table, the commit queue and the commit engine as one record; the moves that commands make on it; and what each move keeps. -/

namespace Sys2Proof.Machine

/-! ### The table and its laws -/

/-- The staging table, the commit queue and the commit engine: what the laws of the staging table speak of. -/
structure Table where
  entries : Vector Entry 16
  queue : List Slot
  engine : Engine

/-- The table that a state holds. -/
def State.table (s : State) : Table := ⟨s.entries, s.commitQueue, s.engine⟩

/-- Replace one entry. -/
def Table.put (T : Table) (i : Slot) (e : Entry) : Table := { T with entries := T.entries.set i.val e i.isLt }

@[simp] theorem Table.put_queue (T : Table) (i : Slot) (e : Entry) : (T.put i e).queue = T.queue := rfl
@[simp] theorem Table.put_engine (T : Table) (i : Slot) (e : Entry) : (T.put i e).engine = T.engine := rfl

theorem Table.put_get (T : Table) (i j : Slot) (e : Entry) : (T.put i e).entries[j] = if j = i then e else T.entries[j] :=
  getFin_set T.entries i j e

theorem Table.put_same (T : Table) (i : Slot) (e : Entry) : (T.put i e).entries[i] = e := by rw [Table.put_get, if_pos rfl]

theorem Table.put_other (T : Table) {i j : Slot} (e : Entry) (h : j ≠ i) : (T.put i e).entries[j] = T.entries[j] := by
  rw [Table.put_get, if_neg h]

/-- The laws of `State.StagingLaw` that speak of the table, in a mode (R12, R13, R28, R29, R167). -/
structure Table.Lawful (m : Mode) (T : Table) : Prop where
  nodup : T.queue.Nodup
  queued : ∀ i : Slot, i ∈ T.queue ↔ T.entries[i].state = .sealed
  idle_iff : T.engine.stage = .idle ↔ T.engine.slot = none
  idle : T.engine.slot = none → T.engine = Engine.initial
  hand : ∀ i : Slot, T.engine.slot = some i ↔ T.entries[i].state = .committing
  record : ∀ i : Slot, T.engine.slot = some i →
    T.engine.generation = some T.entries[i].generation ∧ T.engine.attempt = some (T.entries[i].attempts + 1) ∧ T.engine.step.isSome
  noOpen : m = .drain → ∀ i : Slot, T.entries[i].state ≠ .opened
  settled : m = .drained ∨ m = .start → ∀ i : Slot, T.entries[i].state = .free ∨ T.entries[i].state = .failed

/-- The laws of `State.StagingLaw` that speak of the mode controller alone (R159, R166). -/
def ModeController.Lawful (c : ModeController) : Prop :=
  (c.drainCause.isSome ↔ c.mode = .drain ∨ c.mode = .drained) ∧ (c.mode = .drained → c.pfail = true)

theorem State.stagingLaw_iff (s : State) : s.StagingLaw ↔ s.table.Lawful s.control.mode ∧ s.control.Lawful := by
  constructor
  · rintro ⟨⟨nodup, queued⟩, ⟨idle_iff, idle, hand, record⟩, noOpen, settled, cause, drained⟩
    exact ⟨⟨nodup, queued, idle_iff, idle, hand, record, noOpen, settled⟩, cause, drained⟩
  · rintro ⟨h, cause, drained⟩
    exact ⟨⟨h.nodup, h.queued⟩, ⟨h.idle_iff, h.idle, h.hand, h.record⟩, h.noOpen, h.settled, cause, drained⟩

theorem State.StagingLaw.table {s : State} (h : s.StagingLaw) : s.table.Lawful s.control.mode := (s.stagingLaw_iff.mp h).1

/-! ### What a move may do to one entry -/

/-- The bytes of an entry whose requests the regions of `s` let through: new written offsets come on a READ_WRITE page alone (R138). -/
def Entry.Admitted (s : State) (e f : Entry) : Prop :=
  f.written ≠ 0#512 → e.written ≠ 0#512 ∨ ∀ page, e.page = some page → s.effectiveMode page = .readWrite

/-- An update within one use of a slot: its bytes, its timers and its writers may change. -/
structure Entry.Touched (s : State) (e f : Entry) : Prop where
  state : f.state = e.state
  generation : f.generation = e.generation
  page : f.page = e.page
  origin : f.origin = e.origin
  attempts : f.attempts = e.attempts
  within : e.written &&& e.valid = e.written → f.written &&& f.valid = f.written
  whole : e.valid = wholePage → f.valid = wholePage
  admitted : e.Admitted s f

/-- A slot keeps its use, or gives it up: the generation stays, and no FREE slot comes into use (R5). -/
structure Entry.Kept (s : State) (e f : Entry) : Prop where
  generation : f.generation = e.generation
  within : e.written &&& e.valid = e.written → f.written &&& f.valid = f.written
  use : f.state ≠ .free → e.state ≠ .free ∧ f.page = e.page ∧ f.origin = e.origin ∧ e.Admitted s f

/-- A FREE slot comes into use for a page, with the next generation (R4, R5). -/
structure Entry.Taken (s : State) (p : Nat) (o : Origin) (e f : Entry) : Prop where
  wasFree : e.state = .free
  state : f.state = .opened ∨ f.state = .sealed
  generation : f.generation = e.generation + 1#8
  page : f.page = some p
  origin : f.origin = some o
  within : f.written &&& f.valid = f.written
  admitted : f.written ≠ 0#512 → o = .config ∨ s.effectiveMode p = .readWrite

theorem Entry.Touched.refl (s : State) (e : Entry) : e.Touched s e := ⟨rfl, rfl, rfl, rfl, rfl, id, id, .inl⟩

theorem Entry.Kept.refl (s : State) (e : Entry) : e.Kept s e := ⟨rfl, id, fun h => ⟨h, rfl, rfl, .inl⟩⟩

theorem Entry.Touched.kept {s : State} {e f : Entry} (h : e.Touched s f) : e.Kept s f :=
  ⟨h.generation, h.within, fun hf => ⟨h.state ▸ hf, h.page, h.origin, h.admitted⟩⟩

theorem Entry.Kept.trans {s : State} {e f g : Entry} (h : e.Kept s f) (h' : f.Kept s g) : e.Kept s g where
  generation := h'.generation.trans h.generation
  within := h'.within ∘ h.within
  use hg := by
    obtain ⟨hf, page', origin', admitted'⟩ := h'.use hg
    obtain ⟨he, page, origin, admitted⟩ := h.use hf
    refine ⟨he, page'.trans page, origin'.trans origin, fun hw => ?_⟩
    rcases admitted' hw with hw | ok
    · exact admitted hw
    · exact .inr fun p hp => ok p (page.trans hp)

theorem Entry.kept_freed (s : State) (e : Entry) : e.Kept s e.freed := ⟨rfl, fun _ => by simp [Entry.freed], fun h => absurd rfl h⟩

/-- A change of state, of valid set to the whole page, and of attempts keeps the use of a slot. -/
theorem Entry.kept_of_same {s : State} {e f : Entry} (used : e.state ≠ .free) (generation : f.generation = e.generation)
    (page : f.page = e.page) (origin : f.origin = e.origin) (written : f.written = e.written)
    (valid : f.valid = e.valid ∨ f.valid = wholePage) : e.Kept s f where
  generation := generation
  within h := by
    rcases valid with hv | hv
    · rw [written, hv, h]
    · rw [written, hv, BitVec.and_allOnes]
  use _ := ⟨used, page, origin, fun hw => .inl (written ▸ hw)⟩

/-! ### The moves -/

/-- What the commands other than the resets do to the table, one move at a time, from a state `s` at the command's start. A FREE slot comes into use in
`Table.Alloc` alone. -/
inductive Table.Move (s : State) : Table → Table → Prop where
  /-- Bytes and timers change (R8 to R12, R32). -/
  | touch (T : Table) (v : Vector Entry 16) (h : ∀ j : Slot, T.entries[j].Touched s v[j]) : Move s T { T with entries := v }
  /-- An OPEN entry is sealed (R14). -/
  | close (T : Table) (i : Slot) (h : T.entries[i].state = .opened) :
      Move s T { T.put i T.entries[i].closed with queue := T.queue ++ [i] }
  /-- The head is taken (R19, R30), its page without a FAILED entry. -/
  | take (T : Table) (i : Slot) (rest : List Slot) (stage : Stage) (head : T.queue = i :: rest) (idle : T.engine.stage = .idle)
      (alone : ∀ (j : Slot) (page : Nat), T.entries[i].page = some page → T.entries[j].page = some page → T.entries[j].state ≠ .failed)
      (busy : stage ≠ .idle) (whole : stage ≠ .fill → T.entries[i].valid = wholePage) :
      Move s T { T.put i { T.entries[i] with state := .committing, attempts := 0 } with
        queue := rest, engine := ⟨stage, some i, some T.entries[i].generation, some 1, some .waiting⟩ }
  /-- The head is taken and absorbs the FAILED entry of its page (R21). -/
  | takeOver (T : Table) (i j : Slot) (rest : List Slot) (page : Nat) (head : T.queue = i :: rest) (idle : T.engine.stage = .idle)
      (failed : T.entries[j].state = .failed) (pagei : T.entries[i].page = some page) (pagej : T.entries[j].page = some page) :
      Move s T { (T.put i ({ T.entries[i] with state := .committing, attempts := 0 }.absorbPredecessor T.entries[j])).put j
          T.entries[j].freed with
        queue := rest, engine := ⟨.erase, some i, some T.entries[i].generation, some 1, some .waiting⟩ }
  /-- The commit in hand goes on (R29, R32 to R36). -/
  | stage (T : Table) (i : Slot) (stage : Stage) (step : EngineStep) (hand : T.engine.slot = some i) (busy : stage ≠ .idle)
      (whole : stage ≠ .fill → T.engine.stage ≠ .fill ∨ T.entries[i].valid = wholePage) :
      Move s T { T with engine := { T.engine with stage := stage, step := some step } }
  /-- The attempt in hand fails and is retried (R38, R40). -/
  | retry (T : Table) (i : Slot) (hand : T.engine.slot = some i) (past : s.WholePageValid → T.engine.stage ≠ .fill) :
      Move s T { T.put i { T.entries[i] with attempts := T.entries[i].attempts + 1 } with
        engine := { T.engine with stage := .erase, step := some .waiting, attempt := some (T.entries[i].attempts + 1 + 1) } }
  /-- The commit in hand ends and its entry is freed (R22, R34, R43, R44). -/
  | release (T : Table) (i : Slot) (hand : T.engine.slot = some i) :
      Move s T { T.put i T.entries[i].freed with engine := Engine.initial }
  /-- The commit in hand fails (R22, R41, R48). -/
  | fail (T : Table) (i : Slot) (n : Nat) (hand : T.engine.slot = some i) :
      Move s T { T.put i { T.entries[i] with state := .failed, valid := wholePage, attempts := n } with engine := Engine.initial }
  /-- A FAILED entry is discarded (R26). -/
  | discard (T : Table) (i : Slot) (failed : T.entries[i].state = .failed) : Move s T (T.put i T.entries[i].freed)
  /-- A FAILED entry returns to the queue (R25). -/
  | requeue (T : Table) (i : Slot) (running : s.control.mode = .running) (failed : T.entries[i].state = .failed)
      (alone : ∀ (j : Slot) (page : Nat), T.entries[i].page = some page → T.entries[j].page = some page → ¬ T.entries[j].IsAbsorbing) :
      Move s T { T.put i { T.entries[i] with state := .sealed, attempts := 0 } with queue := T.queue ++ [i] }
  /-- A SEALED entry is dropped (R155). -/
  | drop (T : Table) (i : Slot) (sealed : T.entries[i].state = .sealed) :
      Move s T { T.put i T.entries[i].freed with queue := T.queue.filter (· != i) }

/-- Any number of moves. -/
abbrev Table.Moves (s : State) : Table → Table → Prop := Relation.ReflTransGen (Table.Move s)

/-- A FREE slot comes into use in RUNNING (R4), OPEN or at the tail of the queue. Under the laws of pages its page has no absorbing entry (R3). -/
def Table.Alloc (s : State) (i : Slot) (page : Nat) (origin : Origin) (T U : Table) : Prop :=
  ∃ e : Entry, T.entries[i].Taken s page origin e ∧ s.control.mode = .running ∧
    (s.PageLaw → ∀ j : Slot, T.entries[j].page = some page → ¬ T.entries[j].IsAbsorbing) ∧
    U = { T.put i e with queue := if e.state = .sealed then T.queue ++ [i] else T.queue }

/-! ### What the moves keep -/

section
variable {m : Mode} {T : Table} (h : T.Lawful m)
include h

/-- The take of the head, which may free FAILED entries of its page. -/
theorem Table.Lawful.take {i : Slot} {rest : List Slot} {v : Vector Entry 16} {stage : Stage} (head : T.queue = i :: rest)
    (idle : T.engine.stage = .idle) (busy : stage ≠ .idle) (state : v[i].state = .committing) (attempts : v[i].attempts = 0)
    (others : ∀ k : Slot, k ≠ i → v[k].state = T.entries[k].state ∨ T.entries[k].state = .failed ∧ v[k].state = .free) :
    Table.Lawful m ⟨v, rest, ⟨stage, some i, some v[i].generation, some 1, some .waiting⟩⟩ := by
  have sealed : T.entries[i].state = .sealed := (h.queued i).mp (by simp [head])
  have empty : ∀ k : Slot, T.entries[k].state ≠ .committing := fun k hk => by
    have := (h.hand k).mpr hk; rw [h.idle_iff.mp idle] at this; cases this
  have nodup := head ▸ h.nodup
  refine ⟨(List.nodup_cons.mp nodup).2, fun k => ?_, by simpa using busy, nofun, fun k => ?_, ?_, fun hm k => ?_, fun hm => ?_⟩
  · have := h.queued k
    grind
  · grind
  · rintro k ⟨⟩
    exact ⟨rfl, by rw [attempts], rfl⟩
  · have := h.noOpen hm k
    grind
  · have := h.settled hm i
    grind

/-- The end of the commit in hand (R22, R48). -/
theorem Table.Lawful.endCommit {i : Slot} {e : Entry} (hand : T.engine.slot = some i) (state : e.state = .free ∨ e.state = .failed) :
    Table.Lawful m { T.put i e with engine := Engine.initial } := by
  have committing := (h.hand i).mp hand
  have only : ∀ k : Slot, T.entries[k].state = .committing → k = i := fun k hk => by
    have := (h.hand k).mpr hk; rw [hand] at this; cases this; rfl
  refine ⟨h.nodup, fun k => ?_, by simp [Engine.initial], fun _ => rfl, fun k => ?_, nofun, fun hm k => ?_, fun hm k => ?_⟩ <;>
    simp only [Table.put_get, Table.put_queue, Engine.initial]
  · have := h.queued k
    grind
  · grind
  · have := h.noOpen hm k
    grind
  · have := h.settled hm k
    grind

/-- A retry (R40). -/
theorem Table.Lawful.retry {i : Slot} (hand : T.engine.slot = some i) :
    Table.Lawful m { T.put i { T.entries[i] with attempts := T.entries[i].attempts + 1 } with
      engine := { T.engine with stage := .erase, step := some .waiting, attempt := some (T.entries[i].attempts + 1 + 1) } } := by
  have states (k : Slot) : (T.put i { T.entries[i] with attempts := T.entries[i].attempts + 1 }).entries[k].state = T.entries[k].state := by
    rw [T.put_get]
    split
    · subst k; rfl
    · rfl
  refine ⟨h.nodup, fun k => ?_, ⟨nofun, fun hn => ?_⟩, fun hn => ?_, fun k => ?_, fun k hk => ?_, fun hm k => ?_, fun hm k => ?_⟩
  · exact states k ▸ h.queued k
  · exact absurd (hand.symm.trans hn) nofun
  · exact absurd (hand.symm.trans hn) nofun
  · exact states k ▸ h.hand k
  · obtain rfl : i = k := Option.some.inj (hand.symm.trans hk)
    rw [T.put_same]
    exact ⟨(h.record i hand).1, rfl, rfl⟩
  · exact states k ▸ h.noOpen hm k
  · exact states k ▸ h.settled hm k

/-- An OPEN or FAILED entry goes to the tail of the queue (R14, R25). -/
theorem Table.Lawful.enqueue {i : Slot} {e : Entry} (state : e.state = .sealed)
    (old : T.entries[i].state = .opened ∨ (T.entries[i].state = .failed ∨ T.entries[i].state = .free) ∧ m = .running) :
    Table.Lawful m { T.put i e with queue := T.queue ++ [i] } := by
  have out : i ∉ T.queue := fun hi => by have := (h.queued i).mp hi; grind
  have notHand : T.engine.slot ≠ some i := fun hi => by have := (h.hand i).mp hi; grind
  refine ⟨List.nodup_append.mpr ⟨h.nodup, by simp, by simpa using fun (k : Slot) hk (hki : k = i) => out (hki ▸ hk)⟩, fun k => ?_, h.idle_iff,
    h.idle, fun k => ?_, fun k hk => ?_, fun hm k => ?_, fun hm k => ?_⟩ <;> simp only [Table.put_get, Table.put_engine] at *
  · have := h.queued k
    grind
  · have := h.hand k
    grind
  · have := h.record k hk
    grind
  · have := h.noOpen hm k
    grind
  · have := h.settled hm i
    grind

/-- A change of one entry that is neither in the queue nor in the engine's hand, before or after. -/
theorem Table.Lawful.put {i : Slot} {e : Entry} (old : T.entries[i].state = .free ∨ T.entries[i].state = .failed)
    (state : e.state = .free ∨ e.state = .failed ∨ e.state = .opened ∧ m = .running) : Table.Lawful m (T.put i e) := by
  have notHand : T.engine.slot ≠ some i := fun hi => by have := (h.hand i).mp hi; grind
  refine ⟨h.nodup, fun k => ?_, h.idle_iff, h.idle, fun k => ?_, fun k hk => ?_, fun hm k => ?_, fun hm k => ?_⟩ <;>
    simp only [Table.put_get, Table.put_queue, Table.put_engine] at *
  · have := h.queued k
    grind
  · have := h.hand k
    grind
  · have := h.record k hk
    grind
  · have := h.noOpen hm k
    grind
  · have := h.settled hm k
    grind

/-- The drop of a SEALED entry (R155). -/
theorem Table.Lawful.drop {i : Slot} {e : Entry} (free : e.state = .free) (sealed : T.entries[i].state = .sealed) :
    Table.Lawful m { T.put i e with queue := T.queue.filter (· != i) } := by
  have notHand : T.engine.slot ≠ some i := fun hi => by have := (h.hand i).mp hi; grind
  refine ⟨h.nodup.filter _, fun k => ?_, h.idle_iff, h.idle, fun k => ?_, fun k hk => ?_, fun hm k => ?_, fun hm k => ?_⟩ <;>
    simp only [Table.put_get, Table.put_engine, List.mem_filter] at *
  · have := h.queued k
    grind
  · have := h.hand k
    grind
  · have := h.record k hk
    grind
  · have := h.noOpen hm k
    grind
  · exact absurd (h.settled hm i) (by rw [sealed]; simp)

end

theorem Table.Move.lawful {s : State} {T U : Table} (h : T.Lawful s.control.mode) (hm : Table.Move s T U) : U.Lawful s.control.mode := by
  cases hm with
  | touch v hv =>
    have state := fun j => (hv j).state
    have generation := fun j => (hv j).generation
    have attempts := fun j => (hv j).attempts
    obtain ⟨nodup, queued, idle_iff, idle, hand, record, noOpen, settled⟩ := h
    exact ⟨nodup, by simpa only [state], idle_iff, idle, by simpa only [state], by simpa only [generation, attempts],
      by simpa only [state], by simpa only [state]⟩
  | close i hi => exact h.enqueue rfl (.inl hi)
  | take i rest stage head idle alone busy whole =>
    have := h.take (v := (T.put i { T.entries[i] with state := .committing, attempts := 0 }).entries) head idle busy
      (by rw [T.put_same]) (by rw [T.put_same]) fun k hk => .inl (by rw [T.put_other _ hk])
    rwa [T.put_same] at this
  | takeOver i j rest page head idle failed pagei pagej =>
    have ne : i ≠ j := fun hij => by have := (h.queued i).mp (by simp [head]); rw [hij, failed] at this; cases this
    have := h.take (v := ((T.put i ({ T.entries[i] with state := .committing, attempts := 0 }.absorbPredecessor T.entries[j])).put j
      T.entries[j].freed).entries) head idle (stage := .erase) nofun
      (by rw [Table.put_other _ _ ne, T.put_same]; rfl) (by rw [Table.put_other _ _ ne, T.put_same]; rfl) fun k hk => by
        rw [Table.put_get]
        split
        · exact .inr ⟨‹k = j› ▸ failed, rfl⟩
        · exact .inl (by rw [T.put_other _ hk])
    rwa [Table.put_other _ _ ne, T.put_same] at this
  | stage i stage step hi busy whole =>
    refine ⟨h.nodup, h.queued, ?_, fun hn => ?_, h.hand, fun k hk => ?_, h.noOpen, h.settled⟩
    · simp [hi, busy]
    · rw [hi] at hn; cases hn
    · exact ⟨(h.record k hk).1, (h.record k hk).2.1, rfl⟩
  | retry i hi past => exact h.retry hi
  | release i hi => exact h.endCommit hi (.inl rfl)
  | fail i n hi => exact h.endCommit hi (.inr rfl)
  | discard i failed => exact h.put (.inr failed) (.inl rfl)
  | requeue i running failed alone => exact h.enqueue rfl (.inr ⟨.inl failed, running⟩)
  | drop i sealed => exact h.drop rfl sealed

theorem Table.Moves.lawful {s : State} {T U : Table} (h : T.Lawful s.control.mode) (hm : Table.Moves s T U) :
    U.Lawful s.control.mode := by
  induction hm with
  | refl => exact h
  | tail _ hm ih => exact hm.lawful ih

theorem Table.Alloc.lawful {s : State} {i : Slot} {page : Nat} {origin : Origin} {T U : Table} (h : T.Lawful s.control.mode)
    (ha : Table.Alloc s i page origin T U) : U.Lawful s.control.mode := by
  obtain ⟨e, taken, running, -, rfl⟩ := ha
  split
  · exact h.enqueue ‹_› (.inr ⟨.inr taken.wasFree, running⟩)
  · exact h.put (.inl taken.wasFree) (.inr (.inr ⟨taken.state.resolve_right ‹_›, running⟩))

/-! ### What the moves do to each slot -/

theorem Table.put_kept {s : State} {T : Table} {i : Slot} {e : Entry} (h : T.entries[i].Kept s e) (j : Slot) :
    T.entries[j].Kept s (T.put i e).entries[j] := by
  rw [T.put_get]
  split
  · subst j; exact h
  · exact .refl s _

theorem Table.Move.kept {s : State} {T U : Table} (h : T.Lawful s.control.mode) (hm : Table.Move s T U) (j : Slot) :
    T.entries[j].Kept s U.entries[j] := by
  have used {i : Slot} {st : EntryState} (hi : T.entries[i].state = st) (hst : st ≠ .free) : T.entries[i].state ≠ .free := hi ▸ hst
  cases hm with
  | touch v hv => exact (hv j).kept
  | close i hi => refine T.put_kept ?_ j; exact Entry.kept_of_same (used hi nofun) rfl rfl rfl rfl (.inl rfl)
  | take i rest stage head idle alone busy whole =>
    refine T.put_kept ?_ j
    exact Entry.kept_of_same (used ((h.queued i).mp (by simp [head])) nofun) rfl rfl rfl rfl (.inl rfl)
  | takeOver i k rest page head idle failed pagei pagek =>
    have absorbed : T.entries[i].Kept s ({ T.entries[i] with state := .committing, attempts := 0 }.absorbPredecessor T.entries[k]) :=
      Entry.kept_of_same (used ((h.queued i).mp (by simp [head])) nofun) rfl rfl rfl rfl (.inr rfl)
    rw [Table.put_get]
    split
    · subst j; exact Entry.kept_freed s _
    · exact T.put_kept absorbed j
  | stage i stage step hi busy whole => exact .refl s _
  | retry i hi past => refine T.put_kept ?_ j; exact Entry.kept_of_same (used ((h.hand i).mp hi) nofun) rfl rfl rfl rfl (.inl rfl)
  | release i hi => refine T.put_kept ?_ j; exact Entry.kept_freed s _
  | fail i n hi => refine T.put_kept ?_ j; exact Entry.kept_of_same (used ((h.hand i).mp hi) nofun) rfl rfl rfl rfl (.inr rfl)
  | discard i failed => refine T.put_kept ?_ j; exact Entry.kept_freed s _
  | requeue i running failed alone => refine T.put_kept ?_ j; exact Entry.kept_of_same (used failed nofun) rfl rfl rfl rfl (.inl rfl)
  | drop i sealed => refine T.put_kept ?_ j; exact Entry.kept_freed s _

theorem Table.Moves.kept {s : State} {T U : Table} (h : T.Lawful s.control.mode) (hm : Table.Moves s T U) (j : Slot) :
    T.entries[j].Kept s U.entries[j] := by
  induction hm with
  | refl => exact .refl s _
  | tail before hm ih => exact ih.trans (hm.kept (Table.Moves.lawful h before) j)

end Sys2Proof.Machine
end

section
/-! SUPPORT. What the moves keep of the law of pages (R3) and of the whole-page law (R6). -/

namespace Sys2Proof.Machine

/-! ### One absorbing and one retired entry of a page (R3) -/

/-- `State.OnePerPage`, of a table. -/
def Table.OnePerPage (T : Table) : Prop :=
  ∀ (i j : Slot) (page : Nat), T.entries[i].page = some page → T.entries[j].page = some page →
    (T.entries[i].IsAbsorbing ∧ T.entries[j].IsAbsorbing) ∨ (T.entries[i].IsRetired ∧ T.entries[j].IsRetired) → i = j

/-- An entry that is absorbing, or retired, after an update was so before it, with the same page. -/
def Entry.KeepsClass (e f : Entry) : Prop :=
  (f.IsAbsorbing → e.IsAbsorbing ∧ f.page = e.page) ∧ (f.IsRetired → e.IsRetired ∧ f.page = e.page)

theorem Entry.KeepsClass.refl (e : Entry) : e.KeepsClass e := ⟨fun h => ⟨h, rfl⟩, fun h => ⟨h, rfl⟩⟩

theorem Entry.keepsClass_of_state {e f : Entry} (state : f.state = e.state) (page : f.page = e.page) : e.KeepsClass f := by
  simp only [Entry.KeepsClass, Entry.IsAbsorbing, Entry.IsRetired, state, page, and_true, imp_self, and_self]

theorem Entry.keepsClass_of_free {e f : Entry} (free : f.state = .free) : e.KeepsClass f := by
  simp [Entry.KeepsClass, Entry.IsAbsorbing, Entry.IsRetired, free]

theorem Entry.keepsClass_of_retired {e f : Entry} (old : e.IsRetired) (new : f.IsRetired) (page : f.page = e.page) : e.KeepsClass f :=
  ⟨fun h => by simp only [Entry.IsAbsorbing, Entry.IsRetired] at h new; grind, fun _ => ⟨old, page⟩⟩

theorem Entry.keepsClass_of_absorbing {e f : Entry} (old : e.IsAbsorbing) (new : f.IsAbsorbing) (page : f.page = e.page) :
    e.KeepsClass f :=
  ⟨fun _ => ⟨old, page⟩, fun h => by simp only [Entry.IsAbsorbing, Entry.IsRetired] at h new; grind⟩

theorem Table.OnePerPage.of_kept {T U : Table} (h : T.OnePerPage) (kept : ∀ j : Slot, T.entries[j].KeepsClass U.entries[j]) :
    U.OnePerPage := by
  rintro i j page pagei pagej (⟨hi, hj⟩ | ⟨hi, hj⟩)
  · obtain ⟨ai, pi⟩ := (kept i).1 hi
    obtain ⟨aj, pj⟩ := (kept j).1 hj
    exact h i j page (pi ▸ pagei) (pj ▸ pagej) (.inl ⟨ai, aj⟩)
  · obtain ⟨ri, pi⟩ := (kept i).2 hi
    obtain ⟨rj, pj⟩ := (kept j).2 hj
    exact h i j page (pi ▸ pagei) (pj ▸ pagej) (.inr ⟨ri, rj⟩)

/-- One slot joins a class in which its page has no other entry. -/
theorem Table.OnePerPage.join {T U : Table} (h : T.OnePerPage) (i : Slot)
    (kept : ∀ j : Slot, j ≠ i → T.entries[j].KeepsClass U.entries[j])
    (alone : ∀ (j : Slot) (page : Nat), j ≠ i → U.entries[i].page = some page → U.entries[j].page = some page →
      ¬ (U.entries[i].IsAbsorbing ∧ U.entries[j].IsAbsorbing) ∧ ¬ (U.entries[i].IsRetired ∧ U.entries[j].IsRetired)) :
    U.OnePerPage := by
  intro j k page pagej pagek classes
  by_contra ne
  by_cases hj : j = i
  · subst hj
    obtain ⟨a, r⟩ := alone k page (Ne.symm ne) pagej pagek
    exact classes.elim a r
  by_cases hk : k = i
  · subst hk
    obtain ⟨a, r⟩ := alone j page ne pagek pagej
    exact classes.elim (fun c => a c.symm) (fun c => r c.symm)
  rcases classes with ⟨cj, ck⟩ | ⟨cj, ck⟩
  · obtain ⟨aj, pj⟩ := (kept j hj).1 cj
    obtain ⟨ak, pk⟩ := (kept k hk).1 ck
    exact ne (h j k page (pj ▸ pagej) (pk ▸ pagek) (.inl ⟨aj, ak⟩))
  · obtain ⟨rj, pj⟩ := (kept j hj).2 cj
    obtain ⟨rk, pk⟩ := (kept k hk).2 ck
    exact ne (h j k page (pj ▸ pagej) (pk ▸ pagek) (.inr ⟨rj, rk⟩))

theorem Table.put_keepsClass {T : Table} {i : Slot} {e : Entry} (h : T.entries[i].KeepsClass e) (j : Slot) :
    T.entries[j].KeepsClass (T.put i e).entries[j] := by
  rw [T.put_get]
  split
  · subst j; exact h
  · exact .refl _

theorem Table.put_other_keepsClass {T : Table} {i : Slot} {e : Entry} (j : Slot) (h : j ≠ i) :
    T.entries[j].KeepsClass (T.put i e).entries[j] := by rw [T.put_other _ h]; exact .refl _

theorem Table.Lawful.no_committing {m : Mode} {T : Table} (h : T.Lawful m) (idle : T.engine.stage = .idle) (k : Slot) :
    T.entries[k].state ≠ .committing := fun hk => by
  have := (h.hand k).mpr hk; rw [h.idle_iff.mp idle] at this; cases this

theorem Table.Move.onePerPage {s : State} {T U : Table} (h : T.Lawful s.control.mode) (h1 : T.OnePerPage) (hm : Table.Move s T U) :
    U.OnePerPage := by
  cases hm with
  | touch v hv => exact h1.of_kept fun j => Entry.keepsClass_of_state (hv j).state (hv j).page
  | close i hi => exact h1.of_kept (T.put_keepsClass (Entry.keepsClass_of_absorbing (.inl hi) (.inr rfl) rfl))
  | take i rest stage head idle alone busy whole =>
    refine h1.join i T.put_other_keepsClass fun j page ne pagei pagej => ?_
    rw [T.put_same] at pagei
    rw [T.put_other _ ne] at pagej
    simp only [T.put_same, T.put_other _ ne, Entry.IsAbsorbing, Entry.IsRetired]
    have := alone j page pagei pagej
    have := h.no_committing idle j
    grind
  | takeOver i k rest page head idle failed pagei pagek =>
    refine h1.join i (fun j ne => ?_) fun j page' ne pagei' pagej => ?_
    · rw [Table.put_get]
      split
      · exact Entry.keepsClass_of_free rfl
      · exact T.put_other_keepsClass j ne
    · have sealed := (h.queued i).mp (by simp [head])
      have neik : i ≠ k := fun hik => by rw [hik, failed] at sealed; cases sealed
      rw [Table.put_other _ _ neik, T.put_same] at pagei' ⊢
      rw [Table.put_get] at pagej ⊢
      split at pagej
      · cases pagej
      · rename_i nejk
        rw [if_neg nejk, T.put_other _ ne]
        rw [T.put_other _ ne] at pagej
        obtain rfl : page = page' := Option.some.inj (pagei.symm.trans pagei')
        refine ⟨fun c => absurd c.1 (by simp [Entry.IsAbsorbing, Entry.absorbPredecessor]), fun c => nejk ?_⟩
        exact h1 j k page pagej pagek (.inr ⟨c.2, .inr failed⟩)
  | stage i stage step hi busy whole => exact h1
  | retry i hi past => exact h1.of_kept (T.put_keepsClass (Entry.keepsClass_of_state rfl rfl))
  | release i hi => exact h1.of_kept (T.put_keepsClass (Entry.keepsClass_of_free rfl))
  | fail i n hi => exact h1.of_kept (T.put_keepsClass (Entry.keepsClass_of_retired (.inl ((h.hand i).mp hi)) (.inr rfl) rfl))
  | discard i failed => exact h1.of_kept (T.put_keepsClass (Entry.keepsClass_of_free rfl))
  | requeue i running failed alone =>
    refine h1.join i T.put_other_keepsClass fun j page ne pagei pagej => ?_
    rw [T.put_same] at pagei
    rw [T.put_other _ ne] at pagej
    simp only [T.put_same, T.put_other _ ne]
    exact ⟨fun c => alone j page pagei pagej c.2, fun c => absurd c.1 (by simp [Entry.IsRetired])⟩
  | drop i sealed => exact h1.of_kept (T.put_keepsClass (Entry.keepsClass_of_free rfl))

theorem Table.Moves.onePerPage {s : State} {T U : Table} (h : T.Lawful s.control.mode) (h1 : T.OnePerPage) (hm : Table.Moves s T U) :
    U.OnePerPage := by
  induction hm with
  | refl => exact h1
  | tail before hm ih => exact hm.onePerPage (Table.Moves.lawful h before) ih

theorem Table.Alloc.onePerPage {s : State} {i : Slot} {page : Nat} {origin : Origin} {T U : Table} (law : s.PageLaw) (h1 : T.OnePerPage)
    (ha : Table.Alloc s i page origin T U) : U.OnePerPage := by
  obtain ⟨e, taken, running, alone, rfl⟩ := ha
  refine h1.join i T.put_other_keepsClass fun j page' ne pagei pagej => ?_
  rw [T.put_same, taken.page] at pagei
  rw [T.put_other _ ne] at pagej
  simp only [T.put_same, T.put_other _ ne]
  obtain rfl : page = page' := Option.some.inj pagei
  refine ⟨fun c => alone law j pagej c.2, fun c => absurd c.1 ?_⟩
  rcases taken.state with st | st <;> simp [Entry.IsRetired, st]

/-! ### The whole page valid (R6) -/

/-- What `State.WholePageValid` says of the table. -/
def Table.Whole (T : Table) : Prop :=
  (∀ i : Slot, T.entries[i].state = .failed → T.entries[i].valid = wholePage) ∧
  ∀ i : Slot, T.engine.slot = some i → T.engine.stage ≠ .fill → T.entries[i].valid = wholePage

theorem Table.whole_put {T : Table} {i : Slot} {e : Entry} (h : T.Whole) (failed : e.state = .failed → e.valid = wholePage)
    (hand : T.engine.slot ≠ some i) : (T.put i e).Whole := by
  refine ⟨fun j => ?_, fun j hj hs => ?_⟩
  · rw [T.put_get]
    split
    · exact failed
    · exact h.1 j
  · rw [T.put_other e fun hji : j = i => hand (hji ▸ hj)]
    exact h.2 j hj hs

theorem Table.whole_idle {T : Table} {i : Slot} {e : Entry} (h : T.Whole) (failed : e.state = .failed → e.valid = wholePage) :
    Table.Whole { T.put i e with engine := Engine.initial } := by
  refine ⟨fun j => ?_, nofun⟩
  rw [T.put_get]
  split
  · exact failed
  · exact h.1 j

theorem Table.Move.whole {s : State} {T U : Table} (h : T.Lawful s.control.mode) (law : s.WholePageValid) (hw : T.Whole)
    (hm : Table.Move s T U) : U.Whole := by
  have notHand {i : Slot} (hi : T.entries[i].state ≠ .committing) : T.engine.slot ≠ some i := fun hs => hi ((h.hand i).mp hs)
  cases hm with
  | touch v hv =>
    exact ⟨fun j hj => (hv j).whole (hw.1 j ((hv j).state ▸ hj)), fun j hj hs => (hv j).whole (hw.2 j hj hs)⟩
  | close i hi => exact T.whole_put hw nofun (notHand (by rw [hi]; nofun))
  | take i rest stage head idle alone busy whole =>
    refine ⟨fun j => ?_, fun j hj hs => ?_⟩
    · rw [T.put_get]
      split
      · nofun
      · exact hw.1 j
    · obtain rfl : i = j := Option.some.inj hj
      rw [T.put_same]
      exact whole hs
  | takeOver i k rest page head idle failed pagei pagek =>
    have sealed := (h.queued i).mp (by simp [head])
    have neik : i ≠ k := fun hik => by rw [hik, failed] at sealed; cases sealed
    refine ⟨fun j => ?_, fun j hj hs => ?_⟩
    · rw [Table.put_get, Table.put_get]
      split
      · nofun
      · split
        · nofun
        · exact hw.1 j
    · obtain rfl : i = j := Option.some.inj hj
      rw [Table.put_other _ _ neik, T.put_same]
      rfl
  | stage i stage step hi busy whole =>
    refine ⟨hw.1, fun j hj hs => ?_⟩
    obtain rfl : i = j := Option.some.inj (hi.symm.trans hj)
    exact (whole hs).elim (hw.2 i hi) id
  | retry i hi past =>
    refine ⟨fun j => ?_, fun j hj hs => ?_⟩
    · rw [T.put_get]
      split
      · subst j; exact hw.1 i
      · exact hw.1 j
    · obtain rfl : i = j := Option.some.inj (hi.symm.trans hj)
      rw [T.put_same]
      exact hw.2 i hi (past law)
  | release i hi => exact T.whole_idle hw nofun
  | fail i n hi => exact T.whole_idle hw fun _ => rfl
  | discard i failed => exact T.whole_put hw nofun (notHand (by rw [failed]; nofun))
  | requeue i running failed alone => exact T.whole_put hw nofun (notHand (by rw [failed]; nofun))
  | drop i sealed => exact T.whole_put hw nofun (notHand (by rw [sealed]; nofun))

theorem Table.Moves.whole {s : State} {T U : Table} (h : T.Lawful s.control.mode) (law : s.WholePageValid) (hw : T.Whole)
    (hm : Table.Moves s T U) : U.Whole := by
  induction hm with
  | refl => exact hw
  | tail before hm ih => exact hm.whole (Table.Moves.lawful h before) law ih

theorem Table.Alloc.whole {s : State} {i : Slot} {page : Nat} {origin : Origin} {T U : Table} (h : T.Lawful s.control.mode)
    (hw : T.Whole) (ha : Table.Alloc s i page origin T U) : U.Whole := by
  obtain ⟨e, taken, running, alone, rfl⟩ := ha
  refine T.whole_put hw (fun hf => ?_) fun hs => ?_
  · rcases taken.state with st | st <;> rw [st] at hf <;> cases hf
  · have := (h.hand i).mp hs
    rw [taken.wasFree] at this
    cases this

end Sys2Proof.Machine
end

section
/-! SUPPORT. Each operation of the blocks as moves on the staging table. -/

namespace Sys2Proof.Machine

theorem State.table_congr {s t : State} (entries : t.entries = s.entries) (queue : t.commitQueue = s.commitQueue)
    (engine : t.engine = s.engine) : t.table = s.table := by
  simp only [State.table, entries, queue, engine]

theorem Table.Moves.of_eq {s : State} {T U : Table} (h : U = T) : Table.Moves s T U := h ▸ .refl

theorem Table.Moves.one {s : State} {T U V : Table} (h : Table.Move s T V) (eq : U = V) : Table.Moves s T U := eq ▸ .single h

/-! ### Bytes and timers -/

/-- An update of one entry that stays in its use. -/
theorem State.setEntry_moves (s t : State) {i : Slot} {e : Entry} (h : t.entries[i].Touched s e) :
    Table.Moves s t.table (t.setEntry i e).table := by
  refine .single (Table.Move.touch t.table (t.entries.set i.val e i.isLt) fun j => ?_)
  rw [getFin_set]
  split
  · subst j; exact h
  · exact .refl s _

theorem wholePage_or (w : OffsetSet) : wholePage ||| w = wholePage := BitVec.allOnes_or

theorem and_wholePage (w : OffsetSet) : w &&& wholePage = w := BitVec.and_allOnes

theorem or_and_or (a b c : OffsetSet) : (a ||| c) &&& (b ||| c) = (a &&& b) ||| c := by
  ext k
  simp only [BitVec.getElem_and, BitVec.getElem_or]
  exact (Bool.or_and_distrib_right _ _ _).symm

/-- What absorbing a write keeps of an entry, and what it makes of the two sets (R8). -/
theorem Entry.absorb_fields (e : Entry) (off : Nat) (data : List Byte) (req : Requester) (now : Nat) :
    (e.absorb off data req now).state = e.state ∧ (e.absorb off data req now).generation = e.generation ∧
    (e.absorb off data req now).page = e.page ∧ (e.absorb off data req now).origin = e.origin ∧
    (e.absorb off data req now).attempts = e.attempts ∧ (e.absorb off data req now).written = e.written ||| runSet off data.length ∧
    (e.absorb off data req now).valid = e.valid ||| runSet off data.length := by
  simp only [Entry.absorb, and_self]

/-- What FILL keeps of an entry (R32). -/
theorem Entry.filled_fields (e : Entry) (bytes : PageImage) :
    (e.filled bytes).state = e.state ∧ (e.filled bytes).generation = e.generation ∧ (e.filled bytes).page = e.page ∧
    (e.filled bytes).origin = e.origin ∧ (e.filled bytes).attempts = e.attempts ∧ (e.filled bytes).written = e.written ∧
    (e.filled bytes).valid = wholePage := by
  simp only [Entry.filled, and_self]

/-- Absorbing a write on a page that is READ_WRITE (R8, R9). -/
theorem Entry.touched_absorb {s : State} {e : Entry} {page : Nat} (hp : e.page = some page) (ok : s.effectiveMode page = .readWrite)
    (off : Nat) (data : List Byte) (req : Requester) (now : Nat) : e.Touched s (e.absorb off data req now) := by
  obtain ⟨hstate, hgen, hpage, horigin, hattempts, hwritten, hvalid⟩ := e.absorb_fields off data req now
  exact ⟨hstate, hgen, hpage, horigin, hattempts, fun h => by rw [hwritten, hvalid, or_and_or, h],
    fun h => by rw [hvalid, h, wholePage_or], fun _ => .inr fun p h => by rwa [Option.some.inj (h.symm.trans hp)]⟩

/-- Timers, and whatever else no law speaks of, may change. -/
theorem Entry.touched_of_timers {s : State} {e f : Entry} (state : f.state = e.state) (generation : f.generation = e.generation)
    (page : f.page = e.page) (origin : f.origin = e.origin) (attempts : f.attempts = e.attempts) (written : f.written = e.written)
    (valid : f.valid = e.valid) : e.Touched s f :=
  ⟨state, generation, page, origin, attempts, by rw [written, valid]; exact id, by rw [valid]; exact id, fun h => .inl (written ▸ h)⟩

theorem Entry.Touched.trans {s : State} {e f g : Entry} (h : e.Touched s f) (h' : f.Touched s g) : e.Touched s g where
  state := h'.state.trans h.state
  generation := h'.generation.trans h.generation
  page := h'.page.trans h.page
  origin := h'.origin.trans h.origin
  attempts := h'.attempts.trans h.attempts
  within := h'.within ∘ h.within
  whole := h'.whole ∘ h.whole
  admitted hw := (h'.admitted hw).elim h.admitted fun ok => .inr fun p hp => ok p (h.page.trans hp)

theorem Entry.touched_idleTimer (s : State) (e : Entry) (timer : Option Nat) : e.Touched s { e with idleTimer := timer } :=
  Entry.touched_of_timers rfl rfl rfl rfl rfl rfl rfl

/-- A change of every entry that no law speaks of. -/
theorem State.map_moves (s t u : State) (f : Entry → Entry) (hf : ∀ e : Entry, e.Touched s (f e)) (entries : u.entries = t.entries.map f)
    (queue : u.commitQueue = t.commitQueue) (engine : u.engine = t.engine) : Table.Moves s t.table u.table := by
  refine .one (Table.Move.touch t.table (t.entries.map f) fun j => ?_) ?_
  · simp only [Fin.getElem_fin, Vector.getElem_map]
    exact hf _
  · simp only [State.table, entries, queue, engine]

theorem State.stopOpenTimers_moves (s t : State) : Table.Moves s t.table t.stopOpenTimers.table := by
  refine State.map_moves s t _ _ (fun e => ?_) rfl rfl rfl
  split
  · exact Entry.touched_of_timers rfl rfl rfl rfl rfl rfl rfl
  · exact .refl s e

theorem State.tick_moves (s : State) : Table.Moves s s.table s.tick.table := by
  by_cases h : s.entryTimersRun
  · exact State.map_moves s s _ Entry.tick (fun e => Entry.touched_of_timers rfl rfl rfl rfl rfl rfl rfl)
      (by simp only [State.tick, h, if_true]) rfl rfl
  · exact .of_eq (State.table_congr (by simp only [State.tick, h]; rfl) rfl rfl)

/-! ### Sealing -/

theorem State.sealSlot_moves (s t : State) (i : Slot) : Table.Moves s t.table (t.sealSlot i).table := by
  by_cases h : t.entries[i].state = .opened
  · rw [State.sealSlot_of_opened h]
    exact .single (Table.Move.close t.table i h)
  · rw [State.sealSlot_of_not_opened h]

theorem State.foldl_moves {α : Type} (s : State) (f : State → α → State) (hf : ∀ (t : State) (a : α), Table.Moves s t.table (f t a).table)
    (l : List α) (t : State) : Table.Moves s t.table (l.foldl f t).table := by
  induction l generalizing t with
  | nil => exact .refl
  | cons a l ih => exact (hf t a).trans (ih (f t a))

theorem State.sealSlots_moves (s t : State) (l : List Slot) : Table.Moves s t.table (t.sealSlots l).table :=
  State.foldl_moves s State.sealSlot (State.sealSlot_moves s) _ t

theorem State.absorbOpen_moves (s t : State) {i : Slot} {page : Nat} (hp : t.entries[i].page = some page)
    (ok : s.effectiveMode page = .readWrite) (off : Nat) (data : List Byte) (req : Requester) :
    Table.Moves s t.table (t.absorbOpen i off data req).table := by
  have touched : t.entries[i].Touched s { t.entries[i].absorb off data req t.now with idleTimer := some (t.params.idleSeal * 1000) } :=
    (Entry.touched_absorb hp ok off data req t.now).trans (Entry.touched_idleTimer s _ _)
  have moved := State.setEntry_moves s t touched
  simp only [State.absorbOpen]
  split
  · exact moved.trans (State.sealSlot_moves s _ i)
  · exact moved

theorem State.absorbSealed_moves (s t : State) {i : Slot} {page : Nat} (hp : t.entries[i].page = some page)
    (ok : s.effectiveMode page = .readWrite) (off : Nat) (data : List Byte) (req : Requester) :
    Table.Moves s t.table (t.absorbSealed i off data req).table :=
  State.setEntry_moves s t (Entry.touched_absorb hp ok off data req t.now)

/-! ### The take of the head -/

theorem State.predecessorOf_eq_none {s : State} {i : Slot} (h : s.predecessorOf i = none) (j : Slot) (page : Nat)
    (hi : s.entries[i].page = some page) (hj : s.entries[j].page = some page) : s.entries[j].state ≠ .failed := by
  simp only [State.predecessorOf, hi] at h
  exact State.failedSlot_eq_none.mp h j hj

theorem State.predecessorOf_eq_some {s : State} {i j : Slot} (h : s.predecessorOf i = some j) :
    ∃ page, s.entries[i].page = some page ∧ s.entries[j].page = some page ∧ s.entries[j].state = .failed := by
  cases hp : s.entries[i].page with
  | none => simp only [State.predecessorOf, hp] at h; cases h
  | some page =>
    simp only [State.predecessorOf, hp] at h
    exact ⟨page, rfl, (State.failedSlot_eq_some h).2, (State.failedSlot_eq_some h).1⟩

theorem firstStage_busy (elide : Bool) (e : Entry) : firstStage false elide e ≠ .idle := by
  unfold firstStage
  simp only [Bool.false_eq_true, if_false]
  split_ifs <;> nofun

theorem firstStage_whole {elide : Bool} {e : Entry} (h : firstStage false elide e ≠ .fill) : e.valid = wholePage := by
  unfold firstStage at h
  simp only [Bool.false_eq_true, if_false] at h
  split_ifs at h with _ hv
  · exact absurd rfl h
  · exact absurd rfl h
  · exact not_not.mp hv

/-- The take of head `i` where its page has no FAILED entry (R19, R31). -/
theorem State.takeHead_alone {s : State} {i : Slot} (h : s.predecessorOf i = none) :
    s.takeHead i = (s.takeSlot i).holdCommit i (firstStage false s.params.elide s.entries[i]) := by simp only [State.takeHead, h]

/-- The take of head `i` that absorbs the FAILED entry `j` of its page (R21). -/
theorem State.takeHead_over {s : State} {i j : Slot} (h : s.predecessorOf i = some j) :
    s.takeHead i = ((s.takeSlot i).absorbFailed i j).holdCommit i .erase := by simp only [State.takeHead, h]

theorem State.takeSlot_get (s : State) (i j : Slot) :
    (s.takeSlot i).entries[j] = if j = i then { s.entries[i] with state := .committing, attempts := 0 } else s.entries[j] :=
  s.setEntry_get i j _

theorem State.takeHead_moves {s : State} {i : Slot} {rest : List Slot} (law : s.table.Lawful s.control.mode)
    (idle : s.engine.stage = .idle) (head : s.commitQueue = i :: rest) : Table.Moves s s.table (s.takeHead i).table := by
  cases hp : s.predecessorOf i with
  | none =>
    rw [State.takeHead_alone hp]
    refine .one (Table.Move.take s.table i rest (firstStage false s.params.elide s.entries[i]) head idle
      (fun j page => State.predecessorOf_eq_none hp j page) (firstStage_busy _ _) firstStage_whole) ?_
    have generation : (s.takeSlot i).entries[i].generation = s.entries[i].generation := by rw [s.takeSlot_get, if_pos rfl]
    simp only [State.holdCommit, generation]
    simp only [State.table, State.takeSlot, State.setEngine, State.setQueue, State.setEntry, head, List.tail_cons, Table.put]
  | some j =>
    obtain ⟨page, pagei, pagej, failed⟩ := State.predecessorOf_eq_some hp
    have sealed : s.entries[i].state = .sealed := (law.queued i).mp (by simp [State.table, head])
    have ne : j ≠ i := fun hji => by rw [hji, sealed] at failed; cases failed
    rw [State.takeHead_over hp]
    refine .one (Table.Move.takeOver s.table i j rest page head idle failed pagei pagej) ?_
    have atj : (s.takeSlot i).entries[j] = s.entries[j] := by rw [s.takeSlot_get, if_neg ne]
    have ati : (s.takeSlot i).entries[i] = { s.entries[i] with state := .committing, attempts := 0 } := by rw [s.takeSlot_get, if_pos rfl]
    have generation : ((s.takeSlot i).absorbFailed i j).entries[i].generation = s.entries[i].generation := by
      simp only [State.absorbFailed, State.freeEntry_get, State.setEntry_get, if_neg ne.symm, if_pos, ati]
      rfl
    simp only [State.holdCommit, generation]
    simp only [State.absorbFailed, State.freeEntry, State.setEntry_get, if_neg ne, atj, ati]
    simp only [State.table, State.takeSlot, State.setEngine, State.setQueue, State.setEntry, head, List.tail_cons, Table.put,
      Vector.set_set]

/-! ### The commit in hand -/

theorem State.enterStage_moves {s t : State} {i : Slot} {stage : Stage} (hand : t.engine.slot = some i) (busy : stage ≠ .idle)
    (whole : stage ≠ .fill → t.engine.stage ≠ .fill ∨ t.entries[i].valid = wholePage) :
    Table.Moves s t.table (t.enterStage stage).table := .single (Table.Move.stage t.table i stage .waiting hand busy whole)

theorem State.issued_moves {s t : State} {i : Slot} (hand : t.engine.slot = some i) (busy : t.engine.stage ≠ .idle) :
    Table.Moves s t.table t.issued.table := .single (Table.Move.stage t.table i t.engine.stage .issued hand busy .inl)

theorem State.commitElided_moves {s t : State} {i : Slot} (hand : t.engine.slot = some i) :
    Table.Moves s t.table (t.commitElided i).table :=
  .one (Table.Move.release t.table i hand) (by simp [State.table, State.commitElided, State.freeEntry, State.engineIdle, Table.put])

theorem State.commitSucceeds_moves {s t : State} {i : Slot} (hand : t.engine.slot = some i) :
    Table.Moves s t.table (t.commitSucceeds i).table := by
  refine .one (Table.Move.release t.table i hand) ?_
  simp only [State.commitSucceeds]
  split <;> simp [State.table, State.freeEntry, State.engineIdle, Table.put]

theorem State.countAttempt_get (s : State) (i : Slot) :
    (s.countAttempt i).entries[i] = { s.entries[i] with attempts := s.entries[i].attempts + 1 } := s.setEntry_same i _

theorem State.commitFails_moves {s t : State} {i : Slot} (hand : t.engine.slot = some i) (cause : CommitCause) :
    Table.Moves s t.table ((t.countAttempt i).commitFails i cause).table := by
  simp only [State.commitFails, State.countAttempt_get]
  split
  · refine .one (Table.Move.release t.table i hand) ?_
    simp only [State.table, State.configFailed_frame, State.engineIdle, State.setEngine, State.freeEntry, State.countAttempt_get]
    simp [State.countAttempt, State.setEntry, Table.put, Entry.freed]
  · refine .one (Table.Move.fail t.table i (t.entries[i].attempts + 1) hand) ?_
    simp only [State.table, State.reportFailed_frame, State.engineIdle, State.setEngine, State.failEntry, State.countAttempt_get]
    simp [State.countAttempt, State.setEntry, Table.put]

theorem State.retryCommit_moves {s t : State} {i : Slot} (hand : t.engine.slot = some i) (past : s.WholePageValid → t.engine.stage ≠ .fill)
    (cause : CommitCause) : Table.Moves s t.table ((t.countAttempt i).retryCommit i cause).table := by
  refine .one (Table.Move.retry t.table i hand past) ?_
  simp only [State.retryCommit, State.countAttempt_get]
  simp [State.table, State.countAttempt, State.setEntry, Table.put]

/-- An attempt failure (R38), from a stage past FILL. -/
theorem State.attemptFails_moves {s t : State} (past : s.WholePageValid → t.engine.stage ≠ .fill) (cause : CommitCause) :
    Table.Moves s t.table (t.attemptFails cause).table := by
  unfold State.attemptFails
  split
  · exact .refl
  · rename_i i hand
    split
    · exact State.retryCommit_moves hand past cause
    · exact State.commitFails_moves hand cause

theorem State.operationResult_moves (s t : State) (failFlag : Bool) : Table.Moves s t.table (t.operationResult failFlag).table := by
  unfold State.operationResult
  split
  · exact .refl
  · rename_i i hand
    split
    · rename_i stage
      split
      · exact State.attemptFails_moves (fun _ => by rw [stage]; nofun) _
      · exact State.enterStage_moves hand nofun fun _ => .inl (by rw [stage]; nofun)
    · rename_i stage
      split
      · exact State.attemptFails_moves (fun _ => by rw [stage]; nofun) _
      · split
        · exact State.enterStage_moves hand nofun fun _ => .inl (by rw [stage]; nofun)
        · exact State.commitSucceeds_moves hand
    · exact .refl

theorem Entry.touched_filled (s : State) (e : Entry) (bytes : PageImage) : e.Touched s (e.filled bytes) := by
  obtain ⟨hstate, hgen, hpage, horigin, hattempts, hwritten, hvalid⟩ := e.filled_fields bytes
  exact ⟨hstate, hgen, hpage, horigin, hattempts, fun _ => by rw [hvalid, and_wholePage], fun _ => hvalid, fun h => .inl (hwritten ▸ h)⟩

theorem State.fillCompletes_moves {s t : State} {i : Slot} (hand : t.engine.slot = some i) (bytes : List Byte) :
    Table.Moves s t.table (t.fillCompletes i bytes).table := by
  have filled := State.setEntry_moves s t (Entry.touched_filled s t.entries[i] (imageOf bytes))
  simp only [State.fillCompletes]
  split
  · exact filled.trans (State.commitElided_moves hand)
  · exact filled.trans (State.enterStage_moves hand nofun fun _ => .inr (by rw [State.setEntry_same]; rfl))

theorem State.verifyCompletes_moves {s t : State} {i : Slot} (hand : t.engine.slot = some i) (stage : t.engine.stage = .verify)
    (bytes : List Byte) : Table.Moves s t.table (t.verifyCompletes i bytes).table := by
  unfold State.verifyCompletes
  split
  · exact State.commitSucceeds_moves hand
  · exact State.attemptFails_moves (t := t.setPage _ _) (fun _ => by rw [State.setPage_engine, stage]; nofun) _

theorem State.engineBytes_moves (s t : State) (bytes : List Byte) : Table.Moves s t.table (t.engineBytes bytes).table := by
  unfold State.engineBytes
  split
  · exact .refl
  · split
    · exact State.fillCompletes_moves ‹_› bytes
    · exact State.verifyCompletes_moves ‹_› ‹_› bytes
    · exact .refl

/-! ### The loss of the device -/

theorem State.deviceEnds_moves {s t : State} {i : Slot} (hand : t.engine.slot = some i) :
    Table.Moves s t.table (t.deviceEnds i).table := by
  refine .one (Table.Move.fail t.table i (t.entries[i].attempts + 1) hand) ?_
  simp only [State.deviceEnds, State.failEntry, State.countAttempt_get]
  simp [State.table, State.countAttempt, State.setEntry, Table.put, State.engineIdle]

theorem State.deviceReport_table (t : State) (i : Slot) : (t.deviceReport i).table = t.table := by
  unfold State.deviceReport
  split <;> simp [State.table]

theorem State.endQueuedConfig_table (t : State) : t.endQueuedConfig.table = t.table := by
  unfold State.endQueuedConfig
  split <;> simp [State.table]

theorem State.haltMode_moves (s t : State) (cause : HaltCause) : Table.Moves s t.table (t.haltMode cause).table := by
  have stopped := State.stopOpenTimers_moves s t
  refine stopped.trans (Table.Moves.of_eq ?_)
  simp only [State.haltMode]
  split <;> simp [State.table, State.stopOpenTimers]

theorem State.haltNotice_table (t : State) : t.haltNotice.table = t.table := by
  simp [State.table]

theorem State.enterHalted_moves (s t : State) (cause : HaltCause) : Table.Moves s t.table (t.enterHalted cause).table :=
  (State.haltMode_moves s t cause).trans (Table.Moves.of_eq (State.haltNotice_table _))

end Sys2Proof.Machine
end

section
/-! SUPPORT. Each command as a step on the staging table: one slot comes into use, or a run of moves. -/

namespace Sys2Proof.Machine

/-! ### A step on the staging table -/

/-- Where an entry of a given origin may lie (R53, R148). -/
def State.Places (s : State) (page : Nat) (origin : Origin) : Prop :=
  ∃ n, s.sequencer.deviceSize = some n ∧ if origin = .config then n ≤ page + 64 else page + 64 < n

/-- What a command other than the resets does to the staging table: one FREE slot comes into use, or a run of moves. -/
def State.StagingStep (s t : State) : Prop :=
  (∃ (i : Slot) (page : Nat) (origin : Origin), Table.Alloc s i page origin s.table t.table ∧ (s.PlaceLaw → s.Places page origin) ∧
    (origin = .config → s.command.busy = false ∧ t.command.busy = true ∧ t.command.last = some .writeConfig)) ∨
  Table.Moves s s.table t.table

theorem State.StagingStep.of_same {s t : State} (h : t.table = s.table) : s.StagingStep t := .inr (.of_eq h)

theorem State.StagingStep.congr {s t u : State} (h : s.StagingStep t) (table : u.table = t.table) (command : u.command = t.command) :
    s.StagingStep u := by
  unfold State.StagingStep at *
  rwa [table, command]

/-! ### WRITE requests -/

/-- A new HOST entry in slot `i`, which holds the write that allocated it (R4, R8). -/
def State.hostEntry (s : State) (i : Slot) (page off : Nat) (data : List Byte) (req : Requester) : Entry where
  state := .opened
  generation := s.entries[i].generation + 1#8
  page := some page
  origin := some .host
  buffer := writeRun s.entries[i].buffer off data
  written := runSet off data.length
  valid := runSet off data.length
  writers := requesterBit req
  idleTimer := some (s.params.idleSeal * 1000)
  ageTimer := some (s.params.maxOpen * 1000)
  allocTime := some s.now
  lastWrite := some s.now
  attempts := 0

/-- The OPEN entry of slot `i` after a write, its idle timer restarted (R8). -/
def State.openEntry (s : State) (i : Slot) (off : Nat) (data : List Byte) (req : Requester) : Entry :=
  { s.entries[i].absorb off data req s.now with idleTimer := some (s.params.idleSeal * 1000) }

/-- Absorbing into an OPEN entry seals it when its written set becomes the whole page (R8, R14). -/
theorem State.absorbOpen_eq {s : State} {i : Slot} (h : s.entries[i].state = .opened) (off : Nat) (data : List Byte) (req : Requester) :
    s.absorbOpen i off data req =
      if (s.openEntry i off data req).written = wholePage then
        { s.setEntry i (s.openEntry i off data req).closed with commitQueue := s.commitQueue ++ [i] }
      else s.setEntry i (s.openEntry i off data req) := by
  have opened : (s.openEntry i off data req).state = .opened := by simp only [State.openEntry, Entry.absorb, h]
  show (if (s.openEntry i off data req).written = wholePage then (s.setEntry i (s.openEntry i off data req)).sealSlot i
    else s.setEntry i (s.openEntry i off data req)) = _
  split
  · rw [State.sealSlot_of_opened (by rw [State.setEntry_same, opened]), State.setEntry_same, State.setEntry_setEntry]
    rfl
  · rfl

/-- Allocation of a HOST entry (R4). -/
theorem State.allocHost_eq (s : State) (i : Slot) (page off : Nat) (data : List Byte) (req : Requester) :
    s.allocHost i page off data req =
      if runSet off data.length = wholePage then
        { s.setEntry i (s.hostEntry i page off data req).closed with commitQueue := s.commitQueue ++ [i] }
      else s.setEntry i (s.hostEntry i page off data req) := by
  have entry : State.openEntry (s.setEntry i { s.entries[i].allocated .opened page .host s.now with
      ageTimer := some (s.params.maxOpen * 1000) }) i off data req = s.hostEntry i page off data req := by
    simp only [State.openEntry, State.setEntry_same, Entry.absorb, Entry.allocated, State.hostEntry, State.setEntry_now,
      State.setEntry_params, BitVec.zero_or]
  rw [State.allocHost, State.absorbOpen_eq (by rw [State.setEntry_same]; rfl), entry, State.setEntry_setEntry, State.setEntry_setEntry]
  rfl

theorem State.allocHost_table (s : State) (i : Slot) (page off : Nat) (data : List Byte) (req : Requester) :
    ∃ e : Entry, (e = s.hostEntry i page off data req ∨ e = (s.hostEntry i page off data req).closed) ∧
      (s.allocHost i page off data req).table =
        { s.table.put i e with queue := if e.state = .sealed then s.table.queue ++ [i] else s.table.queue } := by
  rw [State.allocHost_eq]
  split
  · exact ⟨_, .inr rfl, rfl⟩
  · exact ⟨_, .inl rfl, rfl⟩

theorem State.taken_hostEntry {s : State} {i : Slot} {page : Nat} (free : s.entries[i].state = .free) (ok : s.effectiveMode page = .readWrite)
    (off : Nat) (data : List Byte) (req : Requester) {e : Entry}
    (h : e = s.hostEntry i page off data req ∨ e = (s.hostEntry i page off data req).closed) : s.entries[i].Taken s page .host e := by
  have within : (s.hostEntry i page off data req).written &&& (s.hostEntry i page off data req).valid =
      (s.hostEntry i page off data req).written := by simp only [State.hostEntry, BitVec.and_self]
  rcases h with rfl | rfl
  · exact ⟨free, .inl rfl, rfl, rfl, rfl, within, fun _ => .inr ok⟩
  · exact ⟨free, .inr rfl, rfl, rfl, rfl, within, fun _ => .inr ok⟩

theorem State.allocHost_step {s : State} {i : Slot} {page : Nat} (running : s.control.mode = .running) (free : s.entries[i].state = .free)
    (ok : s.effectiveMode page = .readWrite) (alone : s.absorbingSlot page = none) (window : page < s.params.windowPages)
    (off : Nat) (data : List Byte) (req : Requester) : s.StagingStep (s.allocHost i page off data req) := by
  obtain ⟨e, he, table⟩ := s.allocHost_table i page off data req
  refine .inl ⟨i, page, .host, ⟨e, State.taken_hostEntry free ok off data req he, running, fun _ => ?_, table⟩, fun place => ?_, nofun⟩
  · exact State.absorbingSlot_eq_none.mp alone
  · obtain ⟨n, size, within, _⟩ := place.2.1 (.inl running)
    exact ⟨n, size, by simp only [reduceCtorEq, if_false]; omega⟩

theorem State.stageWrite_step {s : State} {page : Nat} (running : s.control.mode = .running) (ok : s.effectiveMode page = .readWrite)
    (window : page < s.params.windowPages) (off : Nat) (data : List Byte) (req : Requester) :
    s.StagingStep (s.stageWrite page off data req).2 := by
  unfold State.stageWrite
  split
  · have absorbing := State.absorbingSlot_eq_some ‹_›
    split
    · exact .inr (State.absorbOpen_moves s s absorbing.2 ok off data req)
    · exact .inr (State.absorbSealed_moves s s absorbing.2 ok off data req)
  · split
    · exact State.allocHost_step running (State.freeSlot_eq_some.mp ‹_›).1 ok ‹_› window off data req
    · split
      · exact .inr (State.sealSlot_moves s s _)
      · split <;> exact .inr .refl

theorem State.answerWrite_table (t : State) (o : WriteOutcome) (req : Requester) (addr : Nat) (data : List Byte) :
    (t.answerWrite o req addr data).table = t.table := by simp [State.table]

theorem State.takeWrite_step (s : State) (req : Requester) (addr len : Nat) (data : List Byte) :
    s.StagingStep (s.takeWrite req addr len data) := by
  unfold State.takeWrite
  split
  · exact .of_same (by simp [State.table])
  split
  · exact .of_same (by simp [State.table])
  rename_i range
  unfold State.gateWrite
  split
  · unfold State.protectWrite
    split
    · have window : pageOf addr < s.params.windowPages := by
        simp only [State.rangeOk, decide_eq_false_iff_not, not_not] at range
        exact Nat.div_lt_of_lt_mul (by omega)
      exact (State.stageWrite_step ‹_› ‹_› window _ data req).congr (State.answerWrite_table _ _ _ _ _) (by simp)
    · exact .of_same (by simp [State.table])
  · exact .of_same (by simp [State.table])
  all_goals exact .of_same rfl

/-! ### FENCE requests -/

theorem State.decideFence_step (s : State) (req : Requester) : s.StagingStep (s.decideFence req) := by
  unfold State.decideFence
  split
  · exact .of_same rfl
  split
  · exact .of_same rfl
  unfold State.recordFence
  split
  · exact .inr (State.sealSlots_moves s (s.setDtt _ _) _)
  · exact .of_same rfl

theorem State.takeFence_step (s : State) (req : Requester) : s.StagingStep (s.takeFence req) := by
  have path : s.StagingStep (s.fencePath req) := by
    unfold State.fencePath
    split
    · exact .of_same (by simp [State.table])
    · exact s.decideFence_step req
  unfold State.takeFence
  split
  · exact .of_same rfl
  · exact .of_same (by simp [State.table])
  all_goals exact path

/-! ### The refresh step (R152) -/

theorem State.lt_of_nextPending {s : State} {sector : Nat} (h : s.nextPending = some sector) : sector < s.refresh.records.length := by
  have := List.find?_some h
  unfold State.sectorPending at this
  split at this
  · exact (List.getElem?_eq_some_iff.mp ‹_›).1
  · cases this

theorem State.refreshPage_lt {s : State} {sector : Nat} (h : sector < s.refresh.records.length)
    (length : s.refresh.records.length = s.params.windowPages / 64) : s.refreshPage sector < s.params.windowPages := by
  have cursor : (s.refresh.records[sector]?.map fun r => r.cursor.val).getD 0 < 64 := by
    cases s.refresh.records[sector]? with
    | none => simp
    | some r => exact r.cursor.isLt
  unfold State.refreshPage
  omega

theorem State.not_pageStaged {s : State} {page : Nat} (h : ¬ s.pageStaged page = true) (j : Slot) (hj : s.entries[j].page = some page) :
    s.entries[j].state = .free := by
  have none : s.firstSlot (fun e => e.state != .free && e.page == some page) = none := by simpa [State.pageStaged] using h
  have unused := State.firstSlot_eq_none.mp none j
  rw [hj] at unused
  simpa using unused

theorem Entry.not_absorbing_of_free {e : Entry} (h : e.state = .free) : ¬ e.IsAbsorbing := by
  simp [Entry.IsAbsorbing, h]

theorem State.allocRefresh_step {s : State} {i : Slot} {page : Nat} (running : s.control.mode = .running)
    (free : s.entries[i].state = .free) (alone : ∀ j : Slot, s.entries[j].page = some page → s.entries[j].state = .free)
    (window : s.PlaceLaw → page < s.params.windowPages) : s.StagingStep (s.allocRefresh i page) := by
  refine .inl ⟨i, page, .refresh, ⟨s.entries[i].allocated .sealed page .refresh s.now, ?_, running, fun _ j hj => ?_, rfl⟩,
    fun place => ?_, nofun⟩
  · exact ⟨free, .inr rfl, rfl, rfl, rfl, BitVec.zero_and, fun h => absurd rfl h⟩
  · exact Entry.not_absorbing_of_free (alone j hj)
  · obtain ⟨n, size, within, _⟩ := place.2.1 (.inl running)
    have := window place
    exact ⟨n, size, by simp only [reduceCtorEq, if_false]; omega⟩

theorem execRefreshStep_step {s t : State} (h : execRefreshStep s = .next t) : s.StagingStep t := by
  cases h
  split
  · rename_i may
    have running : s.control.mode = .running := by
      simp only [State.mayRefresh, Bool.and_eq_true, beq_iff_eq] at may
      exact may.1.1
    split
    · rename_i sector next
      unfold State.refreshSector
      split
      · exact .of_same (by simp [State.table])
      · split
        · refine (State.allocRefresh_step running (State.freeSlot_eq_some.mp ‹_›).1 (State.not_pageStaged ‹_›) fun place => ?_).congr
            (by simp [State.table]) (by simp)
          obtain ⟨_, _, _, length⟩ := place.2.1 (.inl running)
          exact State.refreshPage_lt (State.lt_of_nextPending next) length
        · exact .of_same rfl
    · exact .of_same rfl
  · exact .of_same rfl

/-! ### The loss of the device (R48, R72) -/

theorem stepsOf_distinct (order : DownOrder) (place : Fin 5) : ((stepsOf order).insertIdx place.val .queuedConfig).Nodup := by
  revert place
  cases order <;> decide

theorem mem_stepsOf (order : DownOrder) (place : Fin 5) (step : DownStep) :
    step ∈ (stepsOf order).insertIdx place.val .queuedConfig := by
  revert place
  cases order <;> cases step <;> decide

theorem State.downStep_engine (t : State) (i : Slot) {step : DownStep} (h : step ≠ .engine) : (t.downStep i step).engine = t.engine := by
  cases step with
  | engine => exact absurd rfl h
  | report => exact (Prod.mk.inj (congrArg (fun T : Table => (T.engine, ())) (t.deviceReport_table i))).1
  | halt => simp [State.downStep]
  | notice => simp [State.downStep]
  | queuedConfig => exact congrArg Table.engine t.endQueuedConfig_table

theorem State.downStep_moves (s t : State) (i : Slot) (step : DownStep) (hand : step = .engine → t.engine.slot = some i) :
    Table.Moves s t.table (t.downStep i step).table := by
  cases step with
  | engine => exact State.deviceEnds_moves (hand rfl)
  | report => exact .of_eq (t.deviceReport_table i)
  | halt => exact State.haltMode_moves s t _
  | notice => exact .of_eq t.haltNotice_table
  | queuedConfig => exact .of_eq t.endQueuedConfig_table

/-- Steps of a link DOWN in which the engine ends its commit once. -/
theorem State.foldl_downStep_moves (s : State) (i : Slot) {l : List DownStep} (hl : l.Nodup) (t : State) (hand : t.engine.slot = some i) :
    Table.Moves s t.table (l.foldl (State.downStep i) t).table := by
  suffices general : ∀ t : State, (DownStep.engine ∈ l → t.engine.slot = some i) →
      Table.Moves s t.table (l.foldl (State.downStep i) t).table from general t fun _ => hand
  clear hand t
  induction l with
  | nil => exact fun _ _ => .refl
  | cons step l ih =>
    intro t hand
    obtain ⟨notin, hl⟩ := List.nodup_cons.mp hl
    refine (State.downStep_moves s t i step fun h => hand (h ▸ List.mem_cons_self)).trans (ih hl _ fun mem => ?_)
    rw [t.downStep_engine i fun h : step = .engine => notin (h ▸ mem)]
    exact hand (List.mem_cons_of_mem _ mem)

theorem State.spendFree_table (t : State) : t.spendFree.table = t.table := rfl

theorem State.setLink_table (t : State) (l : Link) : (t.setLink l).table = t.table := rfl

theorem State.linkDown_moves (s : State) : Table.Moves s s.table s.linkDown.table := by
  rw [← s.setLink_table s.link.lost]
  simp only [State.linkDown]
  split
  · rw [State.spendFree_table, State.downDuringCommit]
    exact State.foldl_downStep_moves s _ (stepsOf_distinct _ _) _ ‹_›
  · exact State.enterHalted_moves s _ _

end Sys2Proof.Machine
end

section
/-! SUPPORT. The drain start, the commands of the management port and every other command as a step on the staging table. -/

namespace Sys2Proof.Machine

/-! ### The drain start (R155, R161) -/

theorem Entry.droppable_iff {e : Entry} : e.droppable = true ↔ e.state = .sealed ∧ e.origin = some .refresh ∧ e.written = 0#512 := by
  simp only [Entry.droppable, Bool.and_eq_true, beq_iff_eq, and_assoc]

theorem State.dropEntry_table (t : State) (i : Slot) :
    (t.dropEntry i).table = { t.table.put i t.entries[i].freed with queue := t.table.queue.filter (· != i) } := by
  simp [State.dropEntry, State.table, State.freeEntry, Table.put]

theorem State.dropEntry_get (t : State) (i j : Slot) :
    (t.dropEntry i).entries[j] = if j = i then t.entries[i].freed else t.entries[j] := by
  have := congrArg (fun T : Table => T.entries[j]) (t.dropEntry_table i)
  exact this.trans (t.table.put_get i j _)

theorem State.foldl_dropEntry_moves (s : State) {l : List Slot} (hl : l.Nodup) (t : State) (h : ∀ i ∈ l, t.entries[i].state = .sealed) :
    Table.Moves s t.table (l.foldl State.dropEntry t).table := by
  induction l generalizing t with
  | nil => exact .refl
  | cons i l ih =>
    obtain ⟨notin, hl⟩ := List.nodup_cons.mp hl
    refine (Table.Moves.one (Table.Move.drop t.table i (h i List.mem_cons_self)) (t.dropEntry_table i)).trans (ih hl _ fun j hj => ?_)
    rw [t.dropEntry_get, if_neg (ne_of_mem_of_not_mem hj notin)]
    exact h j (List.mem_cons_of_mem _ hj)

theorem State.dropRefresh_moves (s t : State) : Table.Moves s t.table t.dropRefresh.table := by
  simp only [State.dropRefresh]
  split
  · exact .refl
  · exact State.foldl_dropEntry_moves s (t.nodup_slotsWhere _) t fun i hi => (Entry.droppable_iff.mp (State.mem_slotsWhere.mp hi)).1

/-- The state in which a drain has begun, its entries not sealed yet (R161). -/
def State.drainBegun (s : State) (cause : DrainCause) : State :=
  (s.setControl { s.control with mode := .drain, drainCause := some cause }).appendEvent (.drainBegin cause) none none none

theorem State.drainStart_eq (s : State) (cause : DrainCause) :
    s.drainStart cause =
      (((s.drainBegun cause).sealSlots (s.drainBegun cause).openSlots).dropRefresh).setLink s.link.endSuspension := rfl

theorem State.drainStart_moves (s t : State) (cause : DrainCause) : Table.Moves s t.table (t.drainStart cause).table := by
  have begun : (t.drainBegun cause).table = t.table := rfl
  rw [State.drainStart_eq, State.setLink_table, ← begun]
  exact (State.sealSlots_moves s _ _).trans (State.dropRefresh_moves s _)

/-! ### The commands (R187, R188) -/

/-- A command runs for its owner, on the state that has noted it, or the staging table stays as it is (R187, R188). -/
theorem State.runCommand_step {s : State} {c : MgmtCommand} {owner : State → State}
    (h : s.command.busy = false → acceptsMode c s.control.mode = true → s.StagingStep (owner (s.noteCommand (some c)))) :
    s.StagingStep (s.runCommand c owner) := by
  unfold State.runCommand
  split
  · exact .of_same rfl
  · rename_i idle
    split
    · exact h (Bool.eq_false_iff.mpr idle) ‹_›
    · exact .of_same rfl

theorem State.acceptSync_step (s : State) (c : Option MgmtCommand) : s.StagingStep (s.noteCommand c).acceptSync := by
  refine .inr ((State.sealSlots_moves s (s.noteCommand c) (s.noteCommand c).openSlots).trans (Table.Moves.of_eq ?_))
  simp [State.acceptSync, State.table]

theorem State.hasSuccessor_eq_false {s : State} {i : Slot} (h : s.hasSuccessor i = false) (j : Slot) (page : Nat)
    (hi : s.entries[i].page = some page) (hj : s.entries[j].page = some page) : ¬ s.entries[j].IsAbsorbing := by
  have none : s.absorbingSlot page = none := by
    rw [State.hasSuccessor, hi, Option.bind_some] at h
    exact Option.not_isSome_iff_eq_none.mp (by simpa using h)
  exact State.absorbingSlot_eq_none.mp none j hj

theorem State.retryEntry_step {s : State} (running : s.control.mode = .running) (c : Option MgmtCommand) :
    s.StagingStep (s.noteCommand c).retryEntry := by
  unfold State.retryEntry
  split
  · exact .of_same rfl
  · split
    · exact .of_same rfl
    · rename_i i _ ok
      obtain ⟨failed, alone⟩ := not_or.mp ok
      exact .inr (.single (Table.Move.requeue s.table i running (not_not.mp failed)
        (State.hasSuccessor_eq_false (s := s.noteCommand c) (by simpa using alone))))

theorem State.discardEntry_step (s : State) (c : Option MgmtCommand) : s.StagingStep (s.noteCommand c).discardEntry := by
  unfold State.discardEntry
  split
  · exact .of_same rfl
  · split
    · exact .of_same rfl
    · rename_i i _ ok
      exact .inr (.single (Table.Move.discard s.table i (not_not.mp ok)))

/-- The page that WRITE_CONFIG stages has no absorbing entry, since no other CONFIG entry is in use (R3, R183). -/
theorem State.PageLaw.no_config_entry {s : State} (law : s.PageLaw) (running : s.control.mode = .running) (idle : s.command.busy = false)
    {page n : Nat} (size : s.sequencer.deviceSize = some n) (reserved : n ≤ page + 64) (j : Slot) (hj : s.entries[j].page = some page) :
    s.entries[j].state = .free := by
  obtain ⟨-, config, place⟩ := law
  by_contra used
  obtain ⟨m, hm, side⟩ := place.1 j page used hj
  obtain rfl : n = m := Option.some.inj (size.symm.trans hm)
  split at side
  · have busy := ((config.1 (by rw [running]; nofun)).1 j used ‹_›).1
    rw [idle] at busy
    cases busy
  · omega

theorem copyPage_reserved {n : Nat} (h : 64 ≤ n) (c : Copy) : n ≤ copyPage n c + 64 := by
  cases c <;> simp only [copyPage] <;> omega

theorem State.writeConfigCommand_step {s : State} (running : s.control.mode = .running) (idle : s.command.busy = false) :
    s.StagingStep (s.noteCommand (some .writeConfig)).writeConfigCommand := by
  unfold State.writeConfigCommand
  split
  · exact .of_same rfl
  split
  · exact .of_same rfl
  split
  · exact .of_same rfl
  rename_i i free
  have page {n : Nat} (size : s.sequencer.deviceSize = some n) (place : s.PlaceLaw) :
      n ≤ copyPage (s.sequencer.deviceSize.getD 0) s.sequencer.nextTarget + 64 := by
    rw [size]
    exact copyPage_reserved (place.2.2.2.1 n size) _
  refine .inl ⟨i, copyPage (s.sequencer.deviceSize.getD 0) s.sequencer.nextTarget, .config, ⟨_, ?_, running, fun law => ?_, rfl⟩,
    fun place => ?_, fun _ => ⟨idle, rfl, rfl⟩⟩
  · refine ⟨(State.freeSlot_eq_some.mp free).1, .inr rfl, rfl, rfl, rfl, ?_, fun _ => .inl rfl⟩
    exact and_wholePage _
  · intro j hj
    obtain ⟨n, size, -⟩ := law.2.2.2.1 (.inl running)
    exact Entry.not_absorbing_of_free (law.no_config_entry running idle size (page size law.2.2) j hj)
  · obtain ⟨n, size, -⟩ := place.2.1 (.inl running)
    exact ⟨n, size, by simpa using page size place⟩

theorem State.commandOwner_step (s : State) (c : MgmtCommand) : s.StagingStep (s.runCommand c (commandOwner c)) := by
  refine State.runCommand_step fun idle accepts => ?_
  cases c with
  | sync => exact s.acceptSync_step _
  | retryEntry => exact State.retryEntry_step (by simpa [acceptsMode] using accepts) _
  | discardEntry => exact s.discardEntry_step _
  | setRegion => exact .of_same (by simp [commandOwner, State.table])
  | freezeRegion => exact .of_same (by simp [commandOwner, State.table])
  | writeConfig => exact State.writeConfigCommand_step (by simpa [acceptsMode] using accepts) idle
  | reinit => exact .of_same rfl
  | clearCounters => exact .of_same rfl
  | inspectEntry => exact .of_same (by simp [commandOwner, State.table])

/-! ### The management port (R185) -/

theorem State.onPort_step {s : State} {f : State → State} (h : s.StagingStep (f s)) : s.StagingStep (s.onPort f) := by
  unfold State.onPort
  split
  · exact h
  · exact .of_same rfl

theorem State.writeCommand_step (s : State) (c : MgmtCommand) : s.StagingStep (s.writeCommand c (commandOwner c)) :=
  State.onPort_step ((s.commandOwner_step c).congr rfl rfl)

theorem State.writeEffect_step (s : State) (a v : Byte) : s.StagingStep (s.writeEffect a v) := by
  unfold State.writeEffect
  split
  · exact .of_same rfl
  · split
    · unfold State.writeCmd
      split
      · exact s.commandOwner_step _
      · exact .of_same (by simp [State.table])
    · exact .of_same rfl
    · exact .of_same (by simp [State.table])
    · exact .of_same rfl

theorem State.busWrite_step (s : State) (a v : Byte) : s.StagingStep (s.busWrite a v) := (s.writeEffect_step a v).congr rfl rfl

/-! ### Every command but the resets -/

/-- POWER_ON or RESET_N_ASSERTION: the commands that clear the staging table (R28). -/
def clearsTable : Instr → Bool
  | .powerOn _ _ | .resetNAssertion => true
  | _ => false

theorem State.takeHead_step {s t : State} (law : s.StagingLaw) (h : execTakeHead s = .next t) : s.StagingStep t := by
  cases h
  split
  · rename_i may
    simp only [State.mayTake, Bool.and_eq_true, beq_iff_eq] at may
    split
    · exact .inr (State.takeHead_moves law.table may.1 ‹_›)
    · exact .of_same rfl
  · exact .of_same rfl

theorem State.grantEngine_moves (s t : State) {i : Slot} (hand : t.engine.slot = some i) : Table.Moves s t.table (t.grantEngine i).table := by
  unfold State.grantEngine
  split <;> rename_i stage
  · exact .refl
  all_goals exact State.issued_moves (t := t) hand (by rw [stage]; nofun)

theorem State.grantOldest_table (t : State) : t.grantOldest.table = t.table := by simp [State.table]

theorem State.grantClaim_moves (s t : State) {i : Slot} (claim : t.engineClaim = some i) :
    Table.Moves s t.table (t.grantClaim i).table := by
  have hand : t.engine.slot = some i := by
    unfold State.engineClaim at claim
    split at claim
    · exact claim
    · cases claim
  exact State.grantEngine_moves s t hand

theorem execArbiterDecision_step {s t : State} (h : execArbiterDecision s = .next t) : s.StagingStep t := by
  have oldest : s.StagingStep s.grantOldest := .of_same s.grantOldest_table
  have arbitrate : s.StagingStep s.arbitrate := by
    unfold State.arbitrate
    split
    · exact oldest
    · split
      · exact oldest
      · exact .inr (State.grantClaim_moves s s ‹_›)
  have drain : s.StagingStep s.arbitrateDrain := by
    unfold State.arbitrateDrain
    split
    · exact .inr (State.grantClaim_moves s s ‹_›)
    · split
      · exact .of_same rfl
      · exact oldest
  cases h
  split
  · split
    · exact arbitrate
    · exact arbitrate
    · exact drain
    all_goals exact .of_same rfl
  · exact .of_same rfl

theorem State.deliver_moves (s t : State) (owner : Option Owner) (bytes : List Byte) :
    Table.Moves s t.table (t.deliver owner bytes).table := by
  unfold State.deliver
  split
  · exact State.engineBytes_moves s t bytes
  · exact .of_eq (by simp [State.table])
  · exact .of_eq (by simp [State.table])
  · exact .refl
  · exact .refl

theorem execReadCompletion_step {bytes : List Byte} {s t : State} (h : execReadCompletion bytes s = .next t) : s.StagingStep t := by
  cases h
  split
  · split
    · exact .inr (State.deliver_moves s (s.setLink s.link.readEnded) s.link.owner bytes)
    · exact .of_same rfl
  · exact .of_same rfl

theorem State.operationCompletes_moves (s t : State) (failFlag : Bool) : Table.Moves s t.table (t.operationCompletes failFlag).table := by
  have before : (((t.setOpPage (t.operationLeaves failFlag))).setLink t.link.operationOver).table = t.table := by simp [State.table]
  have moved := State.operationResult_moves s (((t.setOpPage (t.operationLeaves failFlag))).setLink t.link.operationOver) failFlag
  rwa [before] at moved

theorem State.takeOwedPoll_table (t : State) : t.takeOwedPoll.table = t.table := by simp [State.table]

/-- A STATUS reply at the staging table. Past a timeout the engine is past FILL, when the whole-page law holds (R58, R71). -/
theorem State.takeReply_moves {s t : State} (link : t.link.opKind = s.link.opKind) (engine : t.engine = s.engine) (cond : DeviceCondition)
    (failFlag : Bool) : Table.Moves s t.table (t.takeReply cond failFlag).table := by
  unfold State.takeReply
  split
  · exact State.operationCompletes_moves s t failFlag
  · exact State.operationCompletes_moves s t failFlag
  · exact .of_eq (by simp [State.table])
  · unfold State.deviceRecovered
    split
    · rename_i op
      refine State.attemptFails_moves (s := s) (t := t.setLink t.link.operationOver) (fun law => ?_) _
      show t.engine.stage ≠ .fill
      rw [engine]
      rcases law.2.2 (link ▸ op) with stage | stage <;> rw [stage] <;> nofun
    · split <;> exact .refl
  · exact .of_eq t.takeOwedPoll_table

theorem execStatusReply_step {cond : DeviceCondition} {failFlag : Bool} {s t : State} (h : execStatusReply cond failFlag s = .next t) :
    s.StagingStep t := by
  cases h
  split
  · split
    · exact .of_same rfl
    · exact .inr (State.takeReply_moves (s := s) (t := s.setLink s.link.ended) rfl rfl cond failFlag)
  · exact .of_same rfl

/-- A command whose frame keeps the entries, the commit queue and the engine. -/
theorem State.StagingStep.of_frame {s t : State} (h : t.entries = s.entries ∧ t.commitQueue = s.commitQueue ∧ t.engine = s.engine) :
    s.StagingStep t := .of_same (State.table_congr h.1 h.2.1 h.2.2)

end Sys2Proof.Machine
end

section
/-! SUPPORT. Every command but the resets is a step on the staging table. -/

namespace Sys2Proof.Machine

theorem execPfailAssertion_step {s t : State} (h : execPfailAssertion s = .next t) : s.StagingStep t := by
  cases h
  split
  · exact .of_same rfl
  · unfold State.pfailAsserts
    split
    · exact .inr (State.drainStart_moves s (s.setPfail true) .pfail)
    all_goals exact .of_same rfl

theorem execDeferredDrainStart_step {s t : State} (h : execDeferredDrainStart s = .next t) : s.StagingStep t := by
  cases h
  split
  · exact .inr (State.drainStart_moves s s .pfail)
  · exact .of_same rfl

theorem execReinitClaim_step {s t : State} (h : execReinitClaim s = .next t) : s.StagingStep t := by
  cases h
  split
  · unfold State.takeReinitClaim
    split
    · exact .inr (State.drainStart_moves s
        (s.setControl { s.control with reinitClaimed := false, reinitPending := true }) .reinit)
    · exact .of_same rfl
    · exact .of_same rfl
    · exact .of_same (by simp [State.table])
    · exact .of_same rfl
  · exact .of_same rfl

theorem execSize_step {asize : BitVec 3} {s t : State} (h : execSize asize s = .next t) : s.StagingStep t := by
  cases h
  split
  · unfold State.takeSize
    split
    · exact .of_same rfl
    · exact .inr (State.enterHalted_moves s s _)
  · exact .of_same rfl

theorem execResetWaitTimerExpiry_step {s t : State} (h : execResetWaitTimerExpiry s = .next t) : s.StagingStep t := by
  cases h
  split
  · exact .inr s.linkDown_moves
  · exact .of_same rfl

theorem timerExpiry_step {s : State} (due : Prop) [Decidable due] (slot : Slot) : s.StagingStep (if due then s.sealSlot slot else s) := by
  split
  · exact .inr (State.sealSlot_moves s s slot)
  · exact .of_same rfl

theorem execWriteRequest_step {req : Requester} {addr : BitVec 24} {len : BitVec 7} {data : List Byte} {s t : State}
    (h : execWriteRequest req addr len data s = .next t) : s.StagingStep t := by
  cases h
  split
  · exact .of_same rfl
  · exact s.takeWrite_step req addr.toNat len.toNat data

theorem execFenceRequest_step {req : Requester} {s t : State} (h : execFenceRequest req s = .next t) : s.StagingStep t := by
  cases h
  split
  · exact .of_same rfl
  · exact s.takeFence_step req

/-- Every command but POWER_ON and RESET_N_ASSERTION is a step on the staging table. -/
theorem exec_step {c : Instr} {s t : State} (law : s.StagingLaw) (hc : clearsTable c = false) (h : exec c s = .next t) : s.StagingStep t := by
  cases c with
  | powerOn | resetNAssertion => cases hc
  | writeRequest req addr len data => exact execWriteRequest_step h
  | fenceRequest req => exact execFenceRequest_step h
  | idleTimerExpiry slot => cases h; exact timerExpiry_step _ slot
  | openAgeTimerExpiry slot => cases h; exact timerExpiry_step _ slot
  | takeHead => exact State.takeHead_step law h
  | arbiterDecision => exact execArbiterDecision_step h
  | readCompletion bytes => exact execReadCompletion_step h
  | statusReply cond failFlag => exact execStatusReply_step h
  | resetWaitTimerExpiry => exact execResetWaitTimerExpiry_step h
  | refreshStep => exact execRefreshStep_step h
  | pfailAssertion => exact execPfailAssertion_step h
  | deferredDrainStart => exact execDeferredDrainStart_step h
  | reinitClaim => exact execReinitClaim_step h
  | size asize => exact execSize_step h
  | sync => cases h; exact s.writeCommand_step .sync
  | retryEntry => cases h; exact s.writeCommand_step .retryEntry
  | discardEntry => cases h; exact s.writeCommand_step .discardEntry
  | setRegion => cases h; exact s.writeCommand_step .setRegion
  | freezeRegion => cases h; exact s.writeCommand_step .freezeRegion
  | writeConfig => cases h; exact s.writeCommand_step .writeConfig
  | reinit => cases h; exact s.writeCommand_step .reinit
  | clearCounters => cases h; exact s.writeCommand_step .clearCounters
  | inspectEntry => cases h; exact s.writeCommand_step .inspectEntry
  | unknownCommand code => cases h; exact State.onPort_step (s.busWrite_step _ _)
  | registerWrite value => cases h; exact State.onPort_step (s.busWrite_step _ _)
  | cfgIndexWrite value => cases h; exact State.onPort_step (s.busWrite_step _ _)
  | cfgDataWrite value => cases h; exact State.onPort_step (s.busWrite_step _ _)
  | readRequest => have := execReadRequest_frame _ _ _ _ _ h; exact .of_frame (by simp [this])
  | invalidKindRequest => have := execInvalidKindRequest_frame _ _ _ _ h; exact .of_frame (by simp [this])
  | longOperationAccepted => have := execLongOperationAccepted_frame _ _ h; exact .of_frame (by simp [this])
  | pollTime => have := execPollTime_frame _ _ h; exact .of_frame (by simp [this])
  | suspendAccepted => have := execSuspendAccepted_frame _ _ h; exact .of_frame (by simp [this])
  | suspendedFetchStep => have := execSuspendedFetchStep_frame _ _ h; exact .of_frame (by simp [this])
  | endSuspension => have := execEndSuspension_frame _ _ h; exact .of_frame (by simp [this])
  | resumeAccepted => have := execResumeAccepted_frame _ _ h; exact .of_frame (by simp [this])
  | operationTimerExpiry => have := execOperationTimerExpiry_frame _ _ h; exact .of_frame (by simp [this])
  | suspendWaitTimerExpiry => have := execSuspendWaitTimerExpiry_frame _ _ h; exact .of_frame (by simp [this])
  | resetAccepted => have := execResetAccepted_frame _ _ h; exact .of_frame (by simp [this])
  | discardTimerExpiry => have := execDiscardTimerExpiry_frame _ _ _ h; exact .of_frame (by simp [this])
  | pfailDeassertion => have := execPfailDeassertion_frame _ _ h; exact .of_frame (by simp [this])
  | drainCompletion => have := execDrainCompletion_frame _ _ h; exact .of_frame (by simp [this])
  | resetNDeassertion => have := execResetNDeassertion_frame _ _ _ _ h; exact .of_frame (by simp [this])
  | deviceReset => have := execDeviceReset_frame _ _ h; exact .of_frame (by simp [this])
  | readA => have := execReadA_frame _ _ h; exact .of_frame (by simp [this])
  | readB => have := execReadB_frame _ _ h; exact .of_frame (by simp [this])
  | apply => have := execApply_frame _ _ h; exact .of_frame (by simp [this])
  | startComplete => have := execStartComplete_frame _ _ h; exact .of_frame (by simp [this])
  | pointerWrite => have := execPointerWrite_frame _ _ _ h; exact .of_frame (by simp [this])
  | evdataRead => have := execEvdataRead_frame _ _ h; exact .of_frame (by simp [this])
  | evlostRead => have := execEvlostRead_frame _ _ h; exact .of_frame (by simp [this])
  | counterLowByteRead => have := execCounterLowByteRead_frame _ _ _ h; exact .of_frame (by simp [this])
  | cfgDataRead => have := execCfgDataRead_frame _ _ h; exact .of_frame (by simp [this])
  | transferEnd => have := execTransferEnd_frame _ _ h; exact .of_frame (by simp [this])

end Sys2Proof.Machine
end

section
/-! SUPPORT. Which parts of the state a command can change, read off the frames of the meanings. -/

namespace Sys2Proof.Machine

/-- The commands that can change the array link or the commit engine. -/
def movesLink : Instr → Bool
  | .powerOn _ _ | .resetNAssertion | .takeHead | .arbiterDecision | .longOperationAccepted | .readCompletion _ | .pollTime | .suspendAccepted
  | .statusReply _ _ | .suspendedFetchStep | .endSuspension | .resumeAccepted | .operationTimerExpiry | .suspendWaitTimerExpiry
  | .resetAccepted | .resetWaitTimerExpiry | .pfailAssertion | .deferredDrainStart | .reinitClaim | .deviceReset | .readA | .readB => true
  | _ => false

/-- The commands that can change the record of the mode controller. -/
def movesControl : Instr → Bool
  | .powerOn _ _ | .resetNAssertion | .resetNDeassertion _ _ | .resetWaitTimerExpiry | .pfailAssertion | .pfailDeassertion
  | .deferredDrainStart | .reinitClaim | .drainCompletion | .size _ | .startComplete | .reinit | .unknownCommand _ | .registerWrite _ => true
  | _ => false

/-- The commands that can change a region descriptor. -/
def movesRegions : Instr → Bool
  | .powerOn _ _ | .resetNAssertion | .apply | .setRegion | .freezeRegion | .unknownCommand _ | .registerWrite _ => true
  | _ => false

/-- The commands that can change the record of the start-up sequencer. -/
def movesSequencer : Instr → Bool
  | .powerOn _ _ | .resetNAssertion | .resetNDeassertion _ _ | .readCompletion _ | .statusReply _ _ | .resetWaitTimerExpiry | .size _
  | .apply | .startComplete | .writeConfig | .unknownCommand _ | .registerWrite _ | .pfailDeassertion | .drainCompletion => true
  | _ => false

/-- The commands that can change the command unit or the SYNC record. -/
def movesCommand : Instr → Bool
  | .powerOn _ _ | .resetNAssertion | .readCompletion _ | .statusReply _ _ | .resetWaitTimerExpiry | .pfailAssertion | .deferredDrainStart
  | .reinitClaim | .size _ | .startComplete | .sync | .retryEntry | .discardEntry | .setRegion | .freezeRegion | .writeConfig | .reinit
  | .clearCounters | .inspectEntry | .unknownCommand _ | .registerWrite _ => true
  | _ => false

/-- The commands that can change the parameters in force or the refresh table. -/
def movesParams : Instr → Bool
  | .powerOn _ _ | .resetNAssertion | .apply | .readCompletion _ | .statusReply _ _ | .refreshStep | .pfailAssertion | .deferredDrainStart
  | .reinitClaim | .resetWaitTimerExpiry => true
  | _ => false

/-- The resets. -/
def isReset : Instr → Bool
  | .powerOn _ _ | .resetNAssertion | .resetNDeassertion _ _ => true
  | _ => false

/-- What the frame of a command's meaning says of the parts of the state that the laws of the staging table rest on. -/
structure Quiet (c : Instr) (s t : State) : Prop where
  link : movesLink c = false → t.link = s.link ∧ t.engine = s.engine
  control : movesControl c = false → t.control = s.control
  regions : movesRegions c = false → t.regions = s.regions
  sequencer : movesSequencer c = false → t.sequencer = s.sequencer
  command : movesCommand c = false → t.command = s.command ∧ t.syncRecord = s.syncRecord
  params : movesParams c = false → t.params = s.params ∧ t.refresh = s.refresh
  reset : isReset c = false → t.resetAsserted = s.resetAsserted

theorem exec_quiet {c : Instr} {s t : State} (h : exec c s = .next t) : Quiet c s t := by
  cases c with
  | writeRequest => have := execWriteRequest_frame _ _ _ _ _ _ h; constructor <;> simp [this, movesLink, movesControl, movesRegions, movesSequencer, movesCommand, movesParams, isReset]
  | readRequest => have := execReadRequest_frame _ _ _ _ _ h; constructor <;> simp [this, movesLink, movesControl, movesRegions, movesSequencer, movesCommand, movesParams, isReset]
  | fenceRequest => have := execFenceRequest_frame _ _ _ h; constructor <;> simp [this, movesLink, movesControl, movesRegions, movesSequencer, movesCommand, movesParams, isReset]
  | invalidKindRequest => have := execInvalidKindRequest_frame _ _ _ _ h; constructor <;> simp [this, movesLink, movesControl, movesRegions, movesSequencer, movesCommand, movesParams, isReset]
  | idleTimerExpiry => have := execIdleTimerExpiry_frame _ _ _ h; constructor <;> simp [this, movesLink, movesControl, movesRegions, movesSequencer, movesCommand, movesParams, isReset]
  | openAgeTimerExpiry => have := execOpenAgeTimerExpiry_frame _ _ _ h; constructor <;> simp [this, movesLink, movesControl, movesRegions, movesSequencer, movesCommand, movesParams, isReset]
  | takeHead => have := execTakeHead_frame _ _ h; constructor <;> simp [this, movesLink, movesControl, movesRegions, movesSequencer, movesCommand, movesParams, isReset]
  | arbiterDecision => have := execArbiterDecision_frame _ _ h; constructor <;> simp [this, movesLink, movesControl, movesRegions, movesSequencer, movesCommand, movesParams, isReset]
  | longOperationAccepted => have := execLongOperationAccepted_frame _ _ h; constructor <;> simp [this, movesLink, movesControl, movesRegions, movesSequencer, movesCommand, movesParams, isReset]
  | readCompletion => have := execReadCompletion_frame _ _ _ h; constructor <;> simp [this, movesLink, movesControl, movesRegions, movesSequencer, movesCommand, movesParams, isReset]
  | pollTime => have := execPollTime_frame _ _ h; constructor <;> simp [this, movesLink, movesControl, movesRegions, movesSequencer, movesCommand, movesParams, isReset]
  | suspendAccepted => have := execSuspendAccepted_frame _ _ h; constructor <;> simp [this, movesLink, movesControl, movesRegions, movesSequencer, movesCommand, movesParams, isReset]
  | statusReply => have := execStatusReply_frame _ _ _ _ h; constructor <;> simp [this, movesLink, movesControl, movesRegions, movesSequencer, movesCommand, movesParams, isReset]
  | suspendedFetchStep => have := execSuspendedFetchStep_frame _ _ h; constructor <;> simp [this, movesLink, movesControl, movesRegions, movesSequencer, movesCommand, movesParams, isReset]
  | endSuspension => have := execEndSuspension_frame _ _ h; constructor <;> simp [this, movesLink, movesControl, movesRegions, movesSequencer, movesCommand, movesParams, isReset]
  | resumeAccepted => have := execResumeAccepted_frame _ _ h; constructor <;> simp [this, movesLink, movesControl, movesRegions, movesSequencer, movesCommand, movesParams, isReset]
  | operationTimerExpiry => have := execOperationTimerExpiry_frame _ _ h; constructor <;> simp [this, movesLink, movesControl, movesRegions, movesSequencer, movesCommand, movesParams, isReset]
  | suspendWaitTimerExpiry => have := execSuspendWaitTimerExpiry_frame _ _ h; constructor <;> simp [this, movesLink, movesControl, movesRegions, movesSequencer, movesCommand, movesParams, isReset]
  | resetAccepted => have := execResetAccepted_frame _ _ h; constructor <;> simp [this, movesLink, movesControl, movesRegions, movesSequencer, movesCommand, movesParams, isReset]
  | resetWaitTimerExpiry => have := execResetWaitTimerExpiry_frame _ _ h; constructor <;> simp [this, movesLink, movesControl, movesRegions, movesSequencer, movesCommand, movesParams, isReset]
  | discardTimerExpiry => have := execDiscardTimerExpiry_frame _ _ _ h; constructor <;> simp [this, movesLink, movesControl, movesRegions, movesSequencer, movesCommand, movesParams, isReset]
  | refreshStep => have := execRefreshStep_frame _ _ h; constructor <;> simp [this, movesLink, movesControl, movesRegions, movesSequencer, movesCommand, movesParams, isReset]
  | pfailAssertion => have := execPfailAssertion_frame _ _ h; constructor <;> simp [this, movesLink, movesControl, movesRegions, movesSequencer, movesCommand, movesParams, isReset]
  | pfailDeassertion => have := execPfailDeassertion_frame _ _ h; constructor <;> simp [this, movesLink, movesControl, movesRegions, movesSequencer, movesCommand, movesParams, isReset]
  | deferredDrainStart => have := execDeferredDrainStart_frame _ _ h; constructor <;> simp [this, movesLink, movesControl, movesRegions, movesSequencer, movesCommand, movesParams, isReset]
  | reinitClaim => have := execReinitClaim_frame _ _ h; constructor <;> simp [this, movesLink, movesControl, movesRegions, movesSequencer, movesCommand, movesParams, isReset]
  | drainCompletion => have := execDrainCompletion_frame _ _ h; constructor <;> simp [this, movesLink, movesControl, movesRegions, movesSequencer, movesCommand, movesParams, isReset]
  | powerOn => constructor <;> simp [movesLink, movesControl, movesRegions, movesSequencer, movesCommand, movesParams, isReset]
  | resetNAssertion => constructor <;> simp [movesLink, movesControl, movesRegions, movesSequencer, movesCommand, movesParams, isReset]
  | resetNDeassertion => have := execResetNDeassertion_frame _ _ _ _ h; constructor <;> simp [this, movesLink, movesControl, movesRegions, movesSequencer, movesCommand, movesParams, isReset]
  | size => have := execSize_frame _ _ _ h; constructor <;> simp [this, movesLink, movesControl, movesRegions, movesSequencer, movesCommand, movesParams, isReset]
  | deviceReset => have := execDeviceReset_frame _ _ h; constructor <;> simp [this, movesLink, movesControl, movesRegions, movesSequencer, movesCommand, movesParams, isReset]
  | readA => have := execReadA_frame _ _ h; constructor <;> simp [this, movesLink, movesControl, movesRegions, movesSequencer, movesCommand, movesParams, isReset]
  | readB => have := execReadB_frame _ _ h; constructor <;> simp [this, movesLink, movesControl, movesRegions, movesSequencer, movesCommand, movesParams, isReset]
  | apply => have := execApply_frame _ _ h; constructor <;> simp [this, movesLink, movesControl, movesRegions, movesSequencer, movesCommand, movesParams, isReset]
  | startComplete => have := execStartComplete_frame _ _ h; constructor <;> simp [this, movesLink, movesControl, movesRegions, movesSequencer, movesCommand, movesParams, isReset]
  | sync => have := execSync_frame _ _ h; constructor <;> simp [this, movesLink, movesControl, movesRegions, movesSequencer, movesCommand, movesParams, isReset]
  | retryEntry => have := execRetryEntry_frame _ _ h; constructor <;> simp [this, movesLink, movesControl, movesRegions, movesSequencer, movesCommand, movesParams, isReset]
  | discardEntry => have := execDiscardEntry_frame _ _ h; constructor <;> simp [this, movesLink, movesControl, movesRegions, movesSequencer, movesCommand, movesParams, isReset]
  | setRegion => have := execSetRegion_frame _ _ h; constructor <;> simp [this, movesLink, movesControl, movesRegions, movesSequencer, movesCommand, movesParams, isReset]
  | freezeRegion => have := execFreezeRegion_frame _ _ h; constructor <;> simp [this, movesLink, movesControl, movesRegions, movesSequencer, movesCommand, movesParams, isReset]
  | writeConfig => have := execWriteConfig_frame _ _ h; constructor <;> simp [this, movesLink, movesControl, movesRegions, movesSequencer, movesCommand, movesParams, isReset]
  | reinit => have := execReinit_frame _ _ h; constructor <;> simp [this, movesLink, movesControl, movesRegions, movesSequencer, movesCommand, movesParams, isReset]
  | clearCounters => have := execClearCounters_frame _ _ h; constructor <;> simp [this, movesLink, movesControl, movesRegions, movesSequencer, movesCommand, movesParams, isReset]
  | inspectEntry => have := execInspectEntry_frame _ _ h; constructor <;> simp [this, movesLink, movesControl, movesRegions, movesSequencer, movesCommand, movesParams, isReset]
  | unknownCommand => have := execUnknownCommand_frame _ _ _ h; constructor <;> simp [this, movesLink, movesControl, movesRegions, movesSequencer, movesCommand, movesParams, isReset]
  | pointerWrite => have := execPointerWrite_frame _ _ _ h; constructor <;> simp [this, movesLink, movesControl, movesRegions, movesSequencer, movesCommand, movesParams, isReset]
  | registerWrite => have := execRegisterWrite_frame _ _ _ h; constructor <;> simp [this, movesLink, movesControl, movesRegions, movesSequencer, movesCommand, movesParams, isReset]
  | evdataRead => have := execEvdataRead_frame _ _ h; constructor <;> simp [this, movesLink, movesControl, movesRegions, movesSequencer, movesCommand, movesParams, isReset]
  | evlostRead => have := execEvlostRead_frame _ _ h; constructor <;> simp [this, movesLink, movesControl, movesRegions, movesSequencer, movesCommand, movesParams, isReset]
  | counterLowByteRead => have := execCounterLowByteRead_frame _ _ _ h; constructor <;> simp [this, movesLink, movesControl, movesRegions, movesSequencer, movesCommand, movesParams, isReset]
  | cfgIndexWrite => have := execCfgIndexWrite_frame _ _ _ h; constructor <;> simp [this, movesLink, movesControl, movesRegions, movesSequencer, movesCommand, movesParams, isReset]
  | cfgDataRead => have := execCfgDataRead_frame _ _ h; constructor <;> simp [this, movesLink, movesControl, movesRegions, movesSequencer, movesCommand, movesParams, isReset]
  | cfgDataWrite => have := execCfgDataWrite_frame _ _ _ h; constructor <;> simp [this, movesLink, movesControl, movesRegions, movesSequencer, movesCommand, movesParams, isReset]
  | transferEnd => have := execTransferEnd_frame _ _ h; constructor <;> simp [this, movesLink, movesControl, movesRegions, movesSequencer, movesCommand, movesParams, isReset]

end Sys2Proof.Machine
end

section
/-! PROOFS. Generations advance at allocation (O53), and every step keeps the protection promise, the written sets and the whole pages (O54). -/

namespace Sys2Proof.Machine

/-! ### What a command does to each slot -/

/-- A command either brings one FREE slot into use and keeps the others, or keeps the use of every slot. -/
theorem State.StagingStep.slots {s t : State} (law : s.StagingLaw) (h : s.StagingStep t) :
    (∃ (i : Slot) (page : Nat) (origin : Origin), s.entries[i].Taken s page origin t.entries[i] ∧
      ∀ j : Slot, j ≠ i → s.entries[j].Kept s t.entries[j]) ∨ ∀ j : Slot, s.entries[j].Kept s t.entries[j] := by
  rcases h with ⟨i, page, origin, ⟨e, taken, -, -, table⟩, -⟩ | moves
  · have entries (j : Slot) : t.entries[j] = (s.table.put i e).entries[j] := congrArg (fun T : Table => T.entries[j]) table
    refine .inl ⟨i, page, origin, ?_, fun j ne => ?_⟩
    · rw [entries, Table.put_same]; exact taken
    · rw [entries, Table.put_other _ _ ne]; exact .refl s _
  · exact .inr (Table.Moves.kept law.table moves)

theorem State.poweredOn_get (s : State) (pfail : Bool) (maddr : BitVec 2) (i : Slot) :
    (s.poweredOn pfail maddr).entries[i] = Entry.initial := Vector.getElem_replicate _

theorem State.resetNAsserted_get (s : State) (i : Slot) : s.resetNAsserted.entries[i] = Entry.initial := Vector.getElem_replicate _

/-- After a command that clears the table every entry is as power-on leaves it, or RESET_N was asserted before and nothing changes (R28). -/
theorem exec_clears {c : Instr} {s t : State} (hc : clearsTable c = true) (h : exec c s = .next t) :
    t = s ∨ (∀ i : Slot, t.entries[i] = Entry.initial) ∧ t.table = State.reset.table ∧ t.link = Link.initial := by
  cases c with
  | powerOn pfail maddr => cases h; exact .inr ⟨s.poweredOn_get pfail maddr, rfl, rfl⟩
  | resetNAssertion =>
    cases h
    split
    · exact .inl rfl
    · exact .inr ⟨s.resetNAsserted_get, rfl, rfl⟩
  | _ => cases hc

/-- A step is a tick or a command; what both do, a step does. -/
theorem step_of_exec {H C : State → Prop} (pop : ∀ (s : State) (rest : List Instr), H s → H { s with pending := rest })
    (tick : ∀ s : State, H s → C s.tick) (exec : ∀ (c : Instr) (s t : State), H s → exec c s = .next t → C t) {s t : State} (hs : H s)
    (h : step s = .next t) : C t := by
  unfold step at h
  split at h
  · exact exec _ _ t (pop s _ hs) h
  · cases h; exact tick s hs

/-! ### Generations (R5) -/

theorem State.tick_generation (s : State) (i : Slot) : s.tick.entries[i].generation = s.entries[i].generation := by
  simp only [State.tick]
  split
  · simp [Entry.tick]
  · rfl

theorem Entry.Kept.free {s : State} {e f : Entry} (h : e.Kept s f) (he : e.state = .free) : f.state = .free := by
  by_contra hf
  exact (h.use hf).1 he

theorem exec_generation {c : Instr} {s t : State} (law : s.StagingLaw) (hc : clearsTable c = false) (h : exec c s = .next t) (i : Slot) :
    t.entries[i].generation =
      if s.entries[i].state = .free ∧ t.entries[i].state ≠ .free then s.entries[i].generation + 1#8 else s.entries[i].generation := by
  have kept (k : s.entries[i].Kept s t.entries[i]) : t.entries[i].generation =
      if s.entries[i].state = .free ∧ t.entries[i].state ≠ .free then s.entries[i].generation + 1#8 else s.entries[i].generation := by
    rw [if_neg fun ⟨hs, ht⟩ => ht (k.free hs)]
    exact k.generation
  rcases State.StagingStep.slots law (exec_step law hc h) with ⟨j, page, origin, taken, others⟩ | all
  · by_cases hij : i = j
    · subst hij
      have used : t.entries[i].state ≠ .free := fun hf => by
        rcases taken.state with st | st <;> rw [hf] at st <;> cases st
      rw [if_pos ⟨taken.wasFree, used⟩]
      exact taken.generation
    · exact kept (others i hij)
  · exact kept (all i)

/-- Settles O53: a slot changes its generation only where it comes into use, by the slot-by-slot account of every command. -/
theorem generationAdvancesAtAllocation : Obligations.GenerationAdvancesAtAllocation := by
  refine ⟨fun c s t i law noPower noReset h => ?_, fun p m s t i h => ?_, fun s t i out h => ?_, fun s t i empty h => ?_⟩
  · refine exec_generation law ?_ h i
    cases c with
    | powerOn p m => exact absurd rfl (noPower p m)
    | resetNAssertion => exact absurd rfl noReset
    | _ => rfl
  · cases h; rw [s.poweredOn_get]; rfl
  · cases h; rw [if_neg (by rw [out]; nofun), s.resetNAsserted_get]; rfl
  · rw [step, empty] at h
    cases h
    exact s.tick_generation i

/-! ### The written set inside the valid set (R6) -/

theorem exec_writtenWithinValid {c : Instr} {s t : State} (law : s.StagingLaw) (hw : s.WrittenWithinValid) (h : exec c s = .next t) :
    t.WrittenWithinValid := by
  cases hc : clearsTable c with
  | false =>
    rcases State.StagingStep.slots law (exec_step law hc h) with ⟨i, page, origin, taken, others⟩ | all <;> intro j
    · by_cases hj : j = i
      · subst hj; exact taken.within
      · exact (others j hj).within (hw j)
    · exact (all j).within (hw j)
  | true =>
    rcases exec_clears hc h with rfl | ⟨initial, -, -⟩
    · exact hw
    · intro j; rw [initial j]; exact BitVec.zero_and

/-! ### The whole page valid (R6) -/

theorem State.wholePageValid_iff (s : State) :
    s.WholePageValid ↔ s.table.Whole ∧ (s.link.opKind.isSome → s.engine.stage = .erase ∨ s.engine.stage = .program) :=
  ⟨fun ⟨failed, hand, op⟩ => ⟨⟨failed, hand⟩, op⟩, fun ⟨⟨failed, hand⟩, op⟩ => ⟨failed, hand, op⟩⟩

theorem State.StagingStep.whole {s t : State} (law : s.StagingLaw) (hw : s.WholePageValid) (h : s.StagingStep t) : t.table.Whole := by
  rcases h with ⟨i, page, origin, alloc, -⟩ | moves
  · exact alloc.whole law.table (s.wholePageValid_iff.mp hw).1
  · exact Table.Moves.whole law.table hw (s.wholePageValid_iff.mp hw).1 moves

/-- A long operation is in progress only in ERASE and PROGRAM (R58). -/
def State.OperationLaw (s : State) : Prop := s.link.opKind.isSome → s.engine.stage = .erase ∨ s.engine.stage = .program

theorem State.OperationLaw.of_same {s t : State} (h : s.OperationLaw) (op : t.link.opKind = s.link.opKind) (engine : t.engine = s.engine) :
    t.OperationLaw := by
  unfold State.OperationLaw at *
  rwa [op, engine]

theorem State.operationLaw_of_none {t : State} (h : t.link.opKind = none) : t.OperationLaw := fun op => by rw [h] at op; cases op

/-! The steps of the link that change its operation, or the engine's stage. -/

theorem State.grantEngine_operation {s : State} (h : s.OperationLaw) (i : Slot) : (s.grantEngine i).OperationLaw := by
  unfold State.grantEngine
  split <;> rename_i stage
  · exact h
  all_goals intro op
  · refine absurd (h ?_) (by rw [stage]; nofun)
    simp only [State.issued_frame, State.setLink_link, Link.issueRead] at op
    split at op <;> exact op
  · refine absurd (h ?_) (by rw [stage]; nofun)
    simp only [State.issued_frame, State.setLink_link, Link.issueRead] at op
    split at op <;> exact op
  · exact .inl stage
  · exact .inr stage

theorem State.grantOldest_operation {s : State} (h : s.OperationLaw) : s.grantOldest.OperationLaw := by
  refine h.of_same ?_ (by simp)
  unfold State.grantOldest State.grantFetch
  split
  · split
    · simp
    · simp only [State.setStreak, State.setLink_link, Link.issueRead]
      split <;> rfl
  · rfl

theorem State.arbitrate_operation {s : State} (h : s.OperationLaw) : s.arbitrate.OperationLaw := by
  unfold State.arbitrate
  split
  · exact State.grantOldest_operation h
  · split
    · exact State.grantOldest_operation h
    · exact State.grantEngine_operation h _

theorem State.arbitrateDrain_operation {s : State} (h : s.OperationLaw) : s.arbitrateDrain.OperationLaw := by
  unfold State.arbitrateDrain
  split
  · exact State.grantEngine_operation h _
  · split
    · exact h
    · exact State.grantOldest_operation h

theorem State.deliver_operation {s : State} (h : s.OperationLaw) (owner : Option Owner) (bytes : List Byte) :
    (s.deliver owner bytes).OperationLaw := by
  intro after
  have op : s.link.opKind.isSome := by simpa using after
  clear after
  unfold State.deliver
  split
  · unfold State.engineBytes
    rcases h op with stage | stage <;> split <;> simp only [stage] <;> simp
  all_goals simpa using h op

theorem State.takeReply_operation {s : State} (h : s.OperationLaw) (cond : DeviceCondition) (failFlag : Bool) :
    (s.takeReply cond failFlag).OperationLaw := by
  unfold State.takeReply
  split
  · exact State.operationLaw_of_none (by simp [State.operationCompletes, Link.operationOver])
  · exact State.operationLaw_of_none (by simp [State.operationCompletes, Link.operationOver])
  · exact h
  · refine State.operationLaw_of_none ?_
    unfold State.deviceRecovered
    split
    · simp [Link.operationOver]
    · split <;> rfl
  · refine h.of_same ?_ (by simp)
    unfold State.takeOwedPoll State.takePoll
    split
    · split <;> rfl
    · rfl

theorem State.linkDown_operation (s : State) : s.linkDown.link.opKind = none := by
  simp only [State.linkDown]
  split
  · simp [State.spendFree_link, Link.lost, Link.initial]
  · simp [Link.lost, Link.initial]

theorem State.drainStart_operation (s : State) (cause : DrainCause) : (s.drainStart cause).link.opKind = s.link.opKind := by
  simp only [State.drainStart, State.setLink_link, Link.endSuspension]
  split <;> rfl

theorem Link.issueRead_opKind (l : Link) (owner : Owner) (addr count : Nat) : (l.issueRead owner addr count).opKind = l.opKind := by
  unfold Link.issueRead; split <;> rfl

theorem State.timeOut_opKind (s : State) (phase : TimeoutPhase) : (s.timeOut phase).link.opKind = s.link.opKind := by
  simp only [State.timeOut]; split <;> rfl

theorem State.takePoll_opKind (s : State) : s.takePoll.link.opKind = s.link.opKind := by
  unfold State.takePoll; split <;> rfl

/-- A command keeps a long operation in ERASE and PROGRAM (R58). -/
theorem exec_operation {c : Instr} {s t : State} (hs : s.OperationLaw) (h : exec c s = .next t) : t.OperationLaw := by
  cases c with
  | powerOn => cases h; exact State.operationLaw_of_none rfl
  | resetNAssertion =>
    cases h
    split
    · exact hs
    · exact State.operationLaw_of_none rfl
  | takeHead =>
    cases h
    split
    · rename_i may
      refine State.operationLaw_of_none ?_
      have idle : s.engine.stage = .idle := by simp only [State.mayTake, Bool.and_eq_true, beq_iff_eq] at may; exact may.1
      have none : s.link.opKind = none := Option.not_isSome_iff_eq_none.mp fun op => by
        rcases hs op with stage | stage <;> rw [idle] at stage <;> cases stage
      split
      · simpa using none
      · exact none
    · exact hs
  | arbiterDecision =>
    cases h
    split
    · split
      · exact State.arbitrate_operation hs
      · exact State.arbitrate_operation hs
      · exact State.arbitrateDrain_operation hs
      all_goals exact hs
    · exact hs
  | longOperationAccepted => cases h; split <;> exact hs
  | readCompletion bytes =>
    cases h
    split
    · split
      · exact State.deliver_operation (s := s.setLink s.link.readEnded) hs _ bytes
      · exact hs
    · exact hs
  | pollTime =>
    cases h
    split
    · split
      · exact hs.of_same s.takePoll_opKind (by simp)
      · exact hs
    · exact hs
  | suspendAccepted =>
    cases h
    split
    · split <;> exact hs
    · exact hs
  | statusReply cond failFlag =>
    cases h
    split
    · split
      · exact hs
      · exact State.takeReply_operation (s := s.setLink s.link.ended) hs cond failFlag
    · exact hs
  | suspendedFetchStep =>
    cases h
    split
    · split
      · refine hs.of_same ?_ (by simp)
        unfold State.serveSuspended
        split
        · simp
        · exact Link.issueRead_opKind _ _ _ _
      · exact hs
    · exact hs
  | endSuspension => cases h; split <;> exact hs
  | resumeAccepted => cases h; split <;> exact hs
  | operationTimerExpiry =>
    cases h
    split
    · exact hs.of_same (s.timeOut_opKind _) (by simp)
    · exact hs
  | suspendWaitTimerExpiry =>
    cases h
    split
    · exact hs.of_same (s.timeOut_opKind _) (by simp)
    · exact hs
  | resetAccepted =>
    cases h
    split
    · refine hs.of_same ?_ (by simp)
      simp only [State.resetTaken]
      split <;> rfl
    · exact hs
  | resetWaitTimerExpiry =>
    cases h
    split
    · exact State.operationLaw_of_none s.linkDown_operation
    · exact hs
  | pfailAssertion =>
    refine hs.of_same ?_ (by simp [execPfailAssertion_frame _ _ h])
    cases h
    split
    · rfl
    · unfold State.pfailAsserts
      split
      · exact State.drainStart_operation _ _
      all_goals rfl
  | deferredDrainStart =>
    refine hs.of_same ?_ (by simp [execDeferredDrainStart_frame _ _ h])
    cases h
    split
    · exact State.drainStart_operation _ _
    · rfl
  | reinitClaim =>
    refine hs.of_same ?_ (by simp [execReinitClaim_frame _ _ h])
    cases h
    split
    · unfold State.takeReinitClaim
      split
      · exact State.drainStart_operation _ _
      · rfl
      · rfl
      · simp
      · rfl
    · rfl
  | deviceReset => cases h; split <;> exact hs
  | readA => cases h; split <;> [exact hs.of_same (Link.issueRead_opKind _ _ _ _) rfl; exact hs]
  | readB => cases h; split <;> [exact hs.of_same (Link.issueRead_opKind _ _ _ _) rfl; exact hs]
  | _ =>
    have frame := (exec_quiet h).link rfl
    exact hs.of_same (congrArg Link.opKind frame.1) frame.2

theorem exec_wholePageValid {c : Instr} {s t : State} (law : s.StagingLaw) (hw : s.WholePageValid) (h : exec c s = .next t) :
    t.WholePageValid := by
  refine t.wholePageValid_iff.mpr ⟨?_, exec_operation (s.wholePageValid_iff.mp hw).2 h⟩
  cases hc : clearsTable c with
  | false => exact State.StagingStep.whole law hw (exec_step law hc h)
  | true =>
    rcases exec_clears hc h with rfl | ⟨-, table, -⟩
    · exact (t.wholePageValid_iff.mp hw).1
    · rw [table]
      exact ⟨fun i hi => absurd ((State.reset.poweredOn_get false 0#2 i).symm ▸ hi) nofun, nofun⟩
/-! ### The protection promise (R138) -/

theorem AccessMode.stricter_eq_readWrite {a b : AccessMode} : a.stricter b = .readWrite ↔ a = .readWrite ∧ b = .readWrite := by
  cases a <;> cases b <;> simp [AccessMode.stricter]

theorem foldl_stricter_eq_readWrite (l : List Region) (m : AccessMode) :
    l.foldl (fun m r => m.stricter r.mode) m = .readWrite ↔ m = .readWrite ∧ ∀ r ∈ l, r.mode = .readWrite := by
  induction l generalizing m with
  | nil => simp
  | cons r l ih => simp only [List.foldl_cons, ih, AccessMode.stricter_eq_readWrite, List.forall_mem_cons, and_assoc]

/-- A page is READ_WRITE when every region that holds it is (R136). -/
theorem effectiveModeOf_eq_readWrite {rs : Vector Region 8} {page : Nat} :
    effectiveModeOf rs page = .readWrite ↔ ∀ n : RegionIndex, rs[n].holds page = true → rs[n].mode = .readWrite := by
  rw [effectiveModeOf, foldl_stricter_eq_readWrite]
  simp only [true_and, List.mem_filter, and_imp, Vector.mem_toList_iff, Vector.mem_iff_getElem]
  constructor
  · exact fun h n => h _ ⟨n.val, n.isLt, rfl⟩
  · rintro h r ⟨n, hn, rfl⟩
    exact h ⟨n, hn⟩

/-- Where staged bytes lie on a READ_WRITE page, the page stays READ_WRITE; the entries stay as they are. -/
def State.KeepsPromises (s t : State) : Prop :=
  t.entries = s.entries ∧ ∀ (j : Slot) (page : Nat), s.entries[j].state ≠ .free → s.entries[j].written ≠ 0#512 →
    s.entries[j].page = some page → s.effectiveMode page = .readWrite → t.effectiveMode page = .readWrite

theorem State.KeepsPromises.of_same {s t : State} (entries : t.entries = s.entries) (regions : t.regions = s.regions) : s.KeepsPromises t :=
  ⟨entries, fun _ _ _ _ _ h => by rwa [State.effectiveMode, regions]⟩

theorem State.KeepsPromises.trans {s t u : State} (h : s.KeepsPromises t) (h' : t.KeepsPromises u) : s.KeepsPromises u := by
  obtain ⟨entries, keeps⟩ := h
  obtain ⟨entries', keeps'⟩ := h'
  refine ⟨entries'.trans entries, fun j page used written hp ok => ?_⟩
  have same : t.entries[j] = s.entries[j] := by rw [entries]
  exact keeps' j page (same ▸ used) (same ▸ written) (same ▸ hp) (keeps j page used written hp ok)

theorem Entry.blocksChange_iff {e : Entry} {old new : Vector Region 8} :
    e.blocksChange old new = true ↔ e.state ≠ .free ∧ e.written ≠ 0#512 ∧
      ∃ page, e.page = some page ∧ effectiveModeOf old page = .readWrite ∧ effectiveModeOf new page ≠ .readWrite := by
  cases hp : e.page with
  | none => simp [Entry.blocksChange, hp]
  | some page => simp [Entry.blocksChange, hp, tightens, and_assoc]

/-- A change that no staged byte blocks (R140). -/
theorem State.keepsPromises_of_not_blocked {s t : State} (entries : t.entries = s.entries)
    (free : ∀ j : Slot, s.entries[j].blocksChange s.regions t.regions = false) : s.KeepsPromises t := by
  refine ⟨entries, fun j page used written hp ok => ?_⟩
  by_contra tightened
  have blocked := Entry.blocksChange_iff.mpr ⟨used, written, page, hp, ok, tightened⟩
  rw [free j] at blocked
  cases blocked

/-- A change of one descriptor that holds no more pages, in a mode that is no stricter where it holds one. -/
theorem State.keepsPromises_of_looser {s t : State} (entries : t.entries = s.entries)
    (looser : ∀ (n : RegionIndex) (page : Nat), t.regions[n].holds page = true →
      s.regions[n].holds page = true ∧ t.regions[n].mode = s.regions[n].mode) : s.KeepsPromises t := by
  refine ⟨entries, fun j page _ _ _ ok => effectiveModeOf_eq_readWrite.mpr fun n hold => ?_⟩
  obtain ⟨held, mode⟩ := looser n page hold
  exact mode.trans (effectiveModeOf_eq_readWrite.mp ok n held)

theorem State.setRegion_get (s : State) (n m : RegionIndex) (r : Region) :
    (s.setRegion n r).regions[m] = if m = n then r else s.regions[m] := getFin_set s.regions n m r

theorem State.keepsPromises_setRegion {s : State} {n : RegionIndex} {r : Region}
    (looser : ∀ page, r.holds page = true → s.regions[n].holds page = true ∧ r.mode = s.regions[n].mode) :
    s.KeepsPromises (s.setRegion n r) := by
  refine State.keepsPromises_of_looser rfl fun m page => ?_
  rw [s.setRegion_get]
  split
  · subst m; exact looser page
  · exact fun h => ⟨h, rfl⟩

/-! SET_REGION and FREEZE_REGION. -/

theorem State.not_blocked_iff {s : State} {new : Vector Region 8} :
    s.blocked new = false ↔ ∀ j : Slot, s.entries[j].blocksChange s.regions new = false := by
  simp only [State.blocked, bne_eq_false_iff_eq, State.slotsWhere_eq_nil]

theorem State.freeze_keepsPromises (s : State) (n : RegionIndex) : s.KeepsPromises (s.freeze n) :=
  (State.keepsPromises_setRegion (n := n) (r := { s.regions[n] with frozen := true }) fun _ h => ⟨h, rfl⟩).trans (.of_same rfl rfl)

/-- Only the frozen flag, which decides nothing of the mode of a page, differs (R136, R141). -/
theorem State.replaceRegion_keepsPromises {s : State} {n : RegionIndex} {r : Region}
    (free : s.blocked (s.regions.set n.val r n.isLt) = false) : s.KeepsPromises (s.replaceRegion n r) := by
  have first : s.KeepsPromises (s.setRegion n r) := State.keepsPromises_of_not_blocked rfl (State.not_blocked_iff.mp free)
  refine first.trans (State.keepsPromises_of_looser rfl fun m page => ?_)
  have regions : (s.replaceRegion n r).regions[m] = if m = n then { r with frozen := s.regions[n].frozen } else s.regions[m] :=
    s.setRegion_get n m _
  rw [regions, s.setRegion_get]
  split <;> exact fun h => ⟨h, rfl⟩

theorem State.setRegionCommand_keepsPromises (s : State) : s.KeepsPromises s.setRegionCommand := by
  have same (r : RefusalReason) : s.KeepsPromises (s.refuse r) := .of_same rfl rfl
  unfold State.setRegionCommand
  split
  · split
    · unfold State.changeRegion
      split
      · exact same _
      · split
        · exact same _
        · exact (State.replaceRegion_keepsPromises (Bool.eq_false_iff.mpr ‹_›)).trans (.of_same rfl rfl)
    · exact same _
  · exact same _

theorem State.freezeRegionCommand_keepsPromises (s : State) : s.KeepsPromises s.freezeRegionCommand := by
  unfold State.freezeRegionCommand
  split
  · exact .of_same rfl rfl
  · split
    · exact .of_same rfl rfl
    · exact (s.freeze_keepsPromises _).trans (.of_same rfl rfl)

/-! The application of a configuration (R145). -/

theorem leastPage_eq_none {l : List Nat} : leastPage l = none ↔ l = [] := by cases l <;> simp [leastPage]

theorem State.applyRegion_keepsPromises {s : State} (settled : ∀ j : Slot, s.entries[j].state = .free ∨ s.entries[j].state = .failed)
    (loaded : Vector Region 8) (n : RegionIndex) : s.KeepsPromises (State.applyRegion loaded s n) := by
  unfold State.applyRegion
  split
  · exact .of_same rfl rfl
  · split
    · rename_i none
      refine State.keepsPromises_of_not_blocked rfl fun j => ?_
      by_contra blocks
      have blocks := Bool.not_eq_false _ ▸ blocks
      obtain ⟨used, -, page, hp, -⟩ := Entry.blocksChange_iff.mp blocks
      have failed := (settled j).resolve_left used
      have held : page ∈ s.heldPages (s.regions.set n.val loaded[n] n.isLt) :=
        List.mem_filterMap.mpr ⟨j, State.mem_slotsWhere.mpr (by rw [failed]; exact blocks), hp⟩
      rw [leastPage_eq_none.mp none] at held
      cases held
    · exact .of_same rfl rfl

theorem Region.holds_clip {r : Region} {window page : Nat} (h : (r.clip window).holds page = true) :
    r.holds page = true ∧ (r.clip window).mode = r.mode := by
  unfold Region.clip at *
  split at h
  · exact ⟨h, by rw [if_pos ‹_›]⟩
  · rw [if_neg ‹_›]
    split at h
    · rw [if_pos ‹_›]
      simp only [Region.holds, Bool.and_eq_true, decide_eq_true_eq] at *
      exact ⟨⟨h.1, by omega⟩, trivial⟩
    · cases h

theorem State.clipRegion_keepsPromises (s : State) (n : RegionIndex) : s.KeepsPromises (s.clipRegion n) := by
  unfold State.clipRegion
  split
  · exact (State.keepsPromises_setRegion (n := n) fun _ => Region.holds_clip).trans (.of_same rfl rfl)
  · exact .of_same rfl rfl

theorem State.applyRegions_keepsPromises {s : State} (settled : ∀ j : Slot, s.entries[j].state = .free ∨ s.entries[j].state = .failed)
    (loaded : Vector Region 8) : s.KeepsPromises (s.applyRegions loaded) := by
  have replaced (l : List RegionIndex) : ∀ t : State, s.KeepsPromises t → s.KeepsPromises (l.foldl (State.applyRegion loaded) t) := by
    induction l with
    | nil => exact fun _ h => h
    | cons n l ih =>
      exact fun t h => ih _ (h.trans (State.applyRegion_keepsPromises (by rw [h.1]; exact settled) loaded n))
  have clipped (l : List RegionIndex) : ∀ t : State, s.KeepsPromises t → s.KeepsPromises (l.foldl State.clipRegion t) := by
    induction l with
    | nil => exact fun _ h => h
    | cons n l ih => exact fun t h => ih _ (h.trans (t.clipRegion_keepsPromises n))
  exact (clipped _ _ (replaced _ s (.of_same rfl rfl))).trans (.of_same rfl rfl)

theorem State.applyRecord_keepsPromises {s : State} (settled : ∀ j : Slot, s.entries[j].state = .free ∨ s.entries[j].state = .failed)
    (source : Source) (r : ConfigRecord) : s.KeepsPromises (s.applyRecord source r) := by
  have params : s.KeepsPromises (s.setParams r.fields.params) := .of_same rfl rfl
  have regions := State.applyRegions_keepsPromises (s := s.setParams r.fields.params) settled (r.regions.map RawRegion.region)
  refine (params.trans regions).trans (.of_same ?_ ?_) <;> simp [State.applyRecord]

theorem execApply_keepsPromises {s t : State} (law : s.StagingLaw) (h : execApply s = .next t) : s.KeepsPromises t := by
  cases h
  split
  · rename_i phase
    have start : s.control.mode = .start := by
      simp only [State.inPhase, Bool.and_eq_true, beq_iff_eq] at phase
      exact phase.1.1
    have defaults : s.KeepsPromises s.noteDefaults := .of_same (by simp) (by simp)
    refine defaults.trans (State.applyRecord_keepsPromises ?_ _ _)
    rw [s.noteDefaults_frame.2.2.2.2.1]
    exact law.table.settled (.inr start)
  · exact .of_same rfl rfl

/-! Every command. -/

theorem State.runCommand_keepsPromises {s : State} {c : MgmtCommand} {owner : State → State}
    (h : (s.noteCommand (some c)).KeepsPromises (owner (s.noteCommand (some c)))) : s.KeepsPromises (s.runCommand c owner) := by
  have noted : s.KeepsPromises (s.noteCommand (some c)) := .of_same rfl rfl
  unfold State.runCommand
  split
  · exact .of_same rfl rfl
  · split
    · exact noted.trans h
    · exact .of_same rfl rfl

/-- The regions stay, or they change where no promise is broken. -/
def State.GuardsRegions (s t : State) : Prop := t.regions = s.regions ∨ s.KeepsPromises t

theorem State.commandOwner_guards (s : State) (c : MgmtCommand) : s.GuardsRegions (s.runCommand c (commandOwner c)) := by
  by_cases same : (s.runCommand c (commandOwner c)).regions = s.regions
  · exact .inl same
  refine .inr (State.runCommand_keepsPromises ?_)
  cases c with
  | setRegion => exact State.setRegionCommand_keepsPromises _
  | freezeRegion => exact State.freezeRegionCommand_keepsPromises _
  | _ =>
    refine absurd ?_ same
    unfold State.runCommand
    split
    · rfl
    · split <;> simp [commandOwner]

theorem State.onPort_guards {s : State} {f : State → State} (h : s.GuardsRegions (f s)) : s.GuardsRegions (s.onPort f) := by
  unfold State.onPort
  split
  · exact h
  · exact .inl rfl

theorem State.GuardsRegions.congr {s t u : State} (h : s.GuardsRegions t) (entries : u.entries = t.entries) (regions : u.regions = t.regions) :
    s.GuardsRegions u := by
  unfold State.GuardsRegions State.KeepsPromises State.effectiveMode at *
  rwa [entries, regions]

theorem State.busWrite_guards (s : State) (a v : Byte) : s.GuardsRegions (s.busWrite a v) := by
  refine State.GuardsRegions.congr (t := s.writeEffect a v) ?_ rfl rfl
  unfold State.writeEffect
  split
  · exact .inl rfl
  · split
    · unfold State.writeCmd
      split
      · exact s.commandOwner_guards _
      · exact .inl (by simp)
    · exact .inl rfl
    · exact .inl (by simp)
    · exact .inl rfl

theorem exec_guards {c : Instr} {s t : State} (law : s.StagingLaw) (hc : clearsTable c = false) (h : exec c s = .next t) :
    s.GuardsRegions t := by
  cases c with
  | powerOn | resetNAssertion => cases hc
  | apply => exact .inr (execApply_keepsPromises law h)
  | setRegion => cases h; exact State.onPort_guards ((s.commandOwner_guards .setRegion).congr rfl rfl)
  | freezeRegion => cases h; exact State.onPort_guards ((s.commandOwner_guards .freezeRegion).congr rfl rfl)
  | unknownCommand code => cases h; exact State.onPort_guards (s.busWrite_guards _ _)
  | registerWrite value => cases h; exact State.onPort_guards (s.busWrite_guards _ _)
  | _ => exact .inl ((exec_quiet h).regions rfl)

theorem exec_protectionPromise {c : Instr} {s t : State} (law : s.StagingLaw) (hp : s.ProtectionPromise) (h : exec c s = .next t) :
    t.ProtectionPromise := by
  cases hc : clearsTable c with
  | false =>
    intro j page used written origin hpage
    rcases exec_guards law hc h with regions | ⟨entries, keeps⟩
    · have kept (k : s.entries[j].Kept s t.entries[j]) : s.effectiveMode page = .readWrite := by
        obtain ⟨was, samePage, sameOrigin, admitted⟩ := k.use used
        rcases admitted written with hw | ok
        · exact hp j page was hw (sameOrigin ▸ origin) (samePage ▸ hpage)
        · exact ok page (samePage ▸ hpage)
      rw [State.effectiveMode, regions]
      rcases State.StagingStep.slots law (exec_step law hc h) with ⟨i, p, o, taken, others⟩ | all
      · by_cases hj : j = i
        · subst hj
          obtain rfl : p = page := Option.some.inj (taken.page.symm.trans hpage)
          exact (taken.admitted written).resolve_left fun ho => origin (by rw [taken.origin, ho])
        · exact kept (others j hj)
      · exact kept (all j)
    · rw [entries] at used written origin hpage
      exact keeps j page used written hpage (hp j page used written origin hpage)
  | true =>
    rcases exec_clears hc h with rfl | ⟨initial, -, -⟩
    · exact hp
    · intro j page used
      rw [initial j] at used
      exact absurd rfl used

/-! ### Every step -/

theorem State.tick_step (s : State) : s.StagingStep s.tick := .inr s.tick_moves

theorem State.tick_writtenWithinValid {s : State} (law : s.StagingLaw) (hw : s.WrittenWithinValid) : s.tick.WrittenWithinValid :=
  fun j => (Table.Moves.kept law.table s.tick_moves j).within (hw j)

theorem State.tick_wholePageValid {s : State} (law : s.StagingLaw) (hw : s.WholePageValid) : s.tick.WholePageValid :=
  s.tick.wholePageValid_iff.mpr ⟨s.tick_step.whole law hw, hw.2.2⟩

theorem State.tick_protectionPromise {s : State} (law : s.StagingLaw) (hp : s.ProtectionPromise) : s.tick.ProtectionPromise := by
  intro j page used written origin hpage
  obtain ⟨was, samePage, sameOrigin, admitted⟩ := (Table.Moves.kept law.table s.tick_moves j).use used
  rcases admitted written with hw | ok
  · exact hp j page was hw (sameOrigin ▸ origin) (samePage ▸ hpage)
  · exact ok page (samePage ▸ hpage)

/-- Settles O54: each of the three laws is kept by the tick and by every command, from the moves that the command makes on the staging table. -/
theorem stepsKeepProtection : Obligations.StepsKeepProtection := by
  refine ⟨fun s t law hw => ?_, fun s t law hw => ?_, fun s t law hp => ?_⟩
  · exact step_of_exec (H := fun s => s.StagingLaw ∧ s.WrittenWithinValid) (fun _ _ => id)
      (fun s h => State.tick_writtenWithinValid h.1 h.2) (fun c s t h => exec_writtenWithinValid h.1 h.2) ⟨law, hw⟩
  · exact step_of_exec (H := fun s => s.StagingLaw ∧ s.WholePageValid) (fun _ _ => id)
      (fun s h => State.tick_wholePageValid h.1 h.2) (fun c s t h => exec_wholePageValid h.1 h.2) ⟨law, hw⟩
  · exact step_of_exec (H := fun s => s.StagingLaw ∧ s.ProtectionPromise) (fun _ _ => id)
      (fun s h => State.tick_protectionPromise h.1 h.2) (fun c s t h => exec_protectionPromise h.1 h.2) ⟨law, hp⟩

end Sys2Proof.Machine
end

section
/-! PROOFS. Every step keeps the laws of the staging table, the mode and RESET_N (O51, first part). -/

namespace Sys2Proof.Machine

/-! ### The mode after a command -/

/-- A new mode asks of the table what the laws say of it: nothing in RUNNING and HALTED. -/
theorem Table.Lawful.change {m m' : Mode} {T : Table} (h : T.Lawful m)
    (ok : m' = m ∨ m' = .running ∨ m' = .halted ∨ (m' = .drain ∧ ∀ i : Slot, T.entries[i].state ≠ .opened) ∨
      ∀ i : Slot, T.entries[i].state = .free ∨ T.entries[i].state = .failed) : T.Lawful m' := by
  refine ⟨h.nodup, h.queued, h.idle_iff, h.idle, h.hand, h.record, fun hm i => ?_, fun hm i => ?_⟩
  · rcases ok with rfl | rfl | rfl | ⟨-, open_⟩ | settled
    · exact h.noOpen hm i
    · cases hm
    · cases hm
    · exact open_ i
    · rcases settled i with st | st <;> rw [st] <;> nofun
  · rcases ok with rfl | rfl | rfl | ⟨rfl, -⟩ | settled
    · exact h.settled hm i
    · rcases hm with hm | hm <;> cases hm
    · rcases hm with hm | hm <;> cases hm
    · rcases hm with hm | hm <;> cases hm
    · exact settled i

/-- What a command does to the mode: the modes' own laws hold after it, and the table is ready for the new mode. -/
def State.ModeStep (s t : State) : Prop :=
  t.control.Lawful ∧
    (t.control.mode = s.control.mode ∨ t.control.mode = .running ∨ t.control.mode = .halted ∨
      (t.control.mode = .drain ∧ ∀ i : Slot, t.entries[i].state ≠ .opened) ∨
      ∀ i : Slot, t.entries[i].state = .free ∨ t.entries[i].state = .failed)

theorem State.ModeStep.of_same {s t : State} (law : s.StagingLaw) (mode : t.control.mode = s.control.mode)
    (cause : t.control.drainCause = s.control.drainCause) (pfail : s.control.mode = .drained → t.control.pfail = s.control.pfail) :
    s.ModeStep t := by
  obtain ⟨hcause, hdrained⟩ := (s.stagingLaw_iff.mp law).2
  exact ⟨⟨by rw [cause, mode]; exact hcause, fun h => by rw [mode] at h; rw [pfail h, hdrained h]⟩, .inl mode⟩

theorem State.ModeStep.of_eq {s t : State} (law : s.StagingLaw) (control : t.control = s.control) : s.ModeStep t :=
  .of_same law (by rw [control]) (by rw [control]) fun _ => by rw [control]

theorem ModeController.lawful_outside {c : ModeController} (drain : c.mode ≠ .drain) (drained : c.mode ≠ .drained)
    (cause : c.drainCause = none) : c.Lawful :=
  ⟨by simp [cause, drain, drained], fun h => absurd h drained⟩

theorem State.enterHalted_control (s : State) (cause : HaltCause) :
    (s.enterHalted cause).control = { s.control with mode := .halted, drainCause := none, reinitPending := false } := by
  simp only [State.enterHalted, State.haltNotice_frame, State.haltMode]
  split <;> simp [State.stopOpenTimers]

theorem State.haltMode_control (s : State) (cause : HaltCause) :
    (s.haltMode cause).control = { s.control with mode := .halted, drainCause := none, reinitPending := false } := by
  simp only [State.haltMode]
  split <;> simp [State.stopOpenTimers]

theorem State.downStep_control (s : State) (i : Slot) (step : DownStep) :
    (s.downStep i step).control = if step = .halt then { s.control with mode := .halted, drainCause := none, reinitPending := false }
      else s.control := by
  cases step with
  | halt => exact s.haltMode_control _
  | _ => simp [State.downStep]

/-- Once HALTED has been entered in a link DOWN, it stays (R169). -/
theorem State.foldl_downStep_control (i : Slot) (l : List DownStep) (s : State)
    (h : DownStep.halt ∈ l ∨ s.control.mode = .halted ∧ s.control.drainCause = none) :
    (l.foldl (State.downStep i) s).control.mode = .halted ∧ (l.foldl (State.downStep i) s).control.drainCause = none := by
  induction l generalizing s with
  | nil => exact h.resolve_left List.not_mem_nil
  | cons step l ih =>
    refine ih _ ?_
    rw [s.downStep_control]
    split
    · exact .inr ⟨rfl, rfl⟩
    · rename_i other
      exact h.imp_left fun mem => (List.mem_cons.mp mem).resolve_left fun h => other h.symm

theorem State.linkDown_control (s : State) : s.linkDown.control.mode = .halted ∧ s.linkDown.control.drainCause = none := by
  simp only [State.linkDown]
  split
  · rw [State.spendFree_control, State.downDuringCommit]
    exact State.foldl_downStep_control _ _ _ (.inl (mem_stepsOf _ _ _))
  · rw [State.enterHalted_control]
    exact ⟨rfl, rfl⟩

theorem State.modeStep_halted {s t : State} (mode : t.control.mode = .halted) (cause : t.control.drainCause = none) : s.ModeStep t :=
  ⟨ModeController.lawful_outside (by rw [mode]; nofun) (by rw [mode]; nofun) cause, .inr (.inr (.inl mode))⟩

/-! The drain start leaves no OPEN entry (R12, R161). -/

theorem State.foldl_dropEntry_state (l : List Slot) (t : State) (j : Slot) :
    (l.foldl State.dropEntry t).entries[j].state = t.entries[j].state ∨ (l.foldl State.dropEntry t).entries[j].state = .free := by
  induction l generalizing t with
  | nil => exact .inl rfl
  | cons i l ih =>
    have first : (t.dropEntry i).entries[j].state = t.entries[j].state ∨ (t.dropEntry i).entries[j].state = .free := by
      rw [t.dropEntry_get]
      split
      · exact .inr rfl
      · exact .inl rfl
    rcases ih (t.dropEntry i) with same | free
    · rw [List.foldl_cons, same]; exact first
    · exact .inr free

theorem State.dropRefresh_state (t : State) (j : Slot) :
    t.dropRefresh.entries[j].state = t.entries[j].state ∨ t.dropRefresh.entries[j].state = .free := by
  simp only [State.dropRefresh]
  split
  · exact .inl rfl
  · exact State.foldl_dropEntry_state _ t j

theorem State.drainStart_no_open (s : State) (cause : DrainCause) (i : Slot) : (s.drainStart cause).entries[i].state ≠ .opened := by
  rw [State.drainStart_eq]
  show (((s.drainBegun cause).sealSlots (s.drainBegun cause).openSlots).dropRefresh).entries[i].state ≠ .opened
  rcases State.dropRefresh_state ((s.drainBegun cause).sealSlots (s.drainBegun cause).openSlots) i with same | free
  · rw [same, State.sealOpen_get]
    split
    · nofun
    · assumption
  · rw [free]; nofun

theorem State.drainStart_control (s : State) (cause : DrainCause) :
    (s.drainStart cause).control = { s.control with mode := .drain, drainCause := some cause } := by
  rw [State.drainStart_eq]
  simp [State.drainBegun]

theorem State.modeStep_drain (s t : State) (cause : DrainCause) : s.ModeStep (t.drainStart cause) := by
  refine ⟨?_, .inr (.inr (.inr (.inl ⟨?_, t.drainStart_no_open cause⟩)))⟩ <;> rw [t.drainStart_control]
  exact ⟨by simp, nofun⟩

/-! The ends of a drain (R163, R166, R167). -/

theorem State.drained_iff {s : State} : s.drained = true ↔ ∀ i : Slot, s.entries[i].state ≠ .sealed ∧ s.entries[i].state ≠ .committing := by
  simp only [State.drained, beq_iff_eq, State.syncSlots, State.slotsWhere_eq_nil, Bool.or_eq_false_iff, beq_eq_false_iff_ne]

/-- In DRAIN with nothing left to commit, and in DRAINED, every entry is FREE or FAILED (R12, R163, R167). -/
theorem State.StagingLaw.settled {s : State} (law : s.StagingLaw)
    (h : s.control.mode = .drain ∧ s.drained = true ∨ s.control.mode = .drained ∨ s.control.mode = .start) (i : Slot) :
    s.entries[i].state = .free ∨ s.entries[i].state = .failed := by
  rcases h with ⟨drain, done⟩ | h
  · have noOpen : s.entries[i].state ≠ .opened := law.table.noOpen drain i
    obtain ⟨noSealed, noCommitting⟩ := State.drained_iff.mp done i
    generalize s.entries[i].state = st at *
    cases st <;> simp_all
  · exact law.table.settled h i

theorem State.leaveDrain_control (s : State) :
    s.leaveDrain.control.drainCause = none ∧ (s.leaveDrain.control.mode = .start ∨ s.leaveDrain.control.mode = .running) := by
  unfold State.leaveDrain
  split
  · exact ⟨rfl, .inl rfl⟩
  · exact ⟨rfl, .inr rfl⟩

theorem State.modeStep_leave {s t : State} (settled : ∀ i : Slot, s.entries[i].state = .free ∨ s.entries[i].state = .failed)
    (entries : t.entries = s.entries) : s.ModeStep t.leaveDrain := by
  obtain ⟨cause, mode⟩ := t.leaveDrain_control
  refine ⟨ModeController.lawful_outside ?_ ?_ cause, .inr (.inr (.inr (.inr ?_)))⟩
  · rcases mode with mode | mode <;> rw [mode] <;> nofun
  · rcases mode with mode | mode <;> rw [mode] <;> nofun
  · rw [t.leaveDrain_frame.2.2.2.1, entries]
    exact settled

theorem execDrainCompletion_mode {s t : State} (law : s.StagingLaw) (h : execDrainCompletion s = .next t) : s.ModeStep t := by
  cases h
  split
  · rename_i ready
    obtain ⟨drain, done⟩ := ready
    have settled := law.settled (.inl ⟨drain, done⟩)
    simp only [State.completeDrain]
    split
    · obtain ⟨hcause, -⟩ := (s.stagingLaw_iff.mp law).2
      refine ⟨⟨?_, fun _ => ‹_›⟩, .inr (.inr (.inr (.inr settled)))⟩
      exact iff_of_true (hcause.mpr (.inl drain)) (.inr rfl)
    · exact State.modeStep_leave settled rfl
  · exact .of_eq law rfl

theorem execPfailAssertion_mode {s t : State} (law : s.StagingLaw) (h : execPfailAssertion s = .next t) : s.ModeStep t := by
  obtain ⟨hcause, -⟩ := (s.stagingLaw_iff.mp law).2
  cases h
  split
  · exact .of_eq law rfl
  · rename_i level
    unfold State.pfailAsserts
    split
    · exact State.modeStep_drain s _ _
    · rename_i drain
      exact ⟨⟨iff_of_true rfl (.inl drain), fun _ => rfl⟩, .inl rfl⟩
    all_goals rename_i mode
    · exact .of_same law rfl rfl fun h => by rw [mode] at h; cases h
    · exact absurd (.inr ((s.stagingLaw_iff.mp law).2.2 mode)) level
    · exact .of_same law rfl rfl fun h => by rw [mode] at h; cases h

theorem execPfailDeassertion_mode {s t : State} (law : s.StagingLaw) (h : execPfailDeassertion s = .next t) : s.ModeStep t := by
  cases h
  split
  · exact .of_eq law rfl
  · unfold State.pfailDeasserts
    split
    · exact State.modeStep_leave (law.settled (.inr (.inl ‹_›))) rfl
    · exact .of_same law rfl rfl fun h => absurd h ‹_›

theorem execReinitClaim_mode {s t : State} (law : s.StagingLaw) (h : execReinitClaim s = .next t) : s.ModeStep t := by
  cases h
  split
  · unfold State.takeReinitClaim
    split
    · exact State.modeStep_drain s _ _
    · exact .of_same law rfl rfl fun _ => rfl
    · exact .of_same law rfl rfl fun _ => rfl
    · exact .of_same law (by simp) (by simp) fun _ => by simp
    · exact .of_eq law rfl
  · exact .of_eq law rfl

theorem execSize_mode {asize : BitVec 3} {s t : State} (law : s.StagingLaw) (h : execSize asize s = .next t) : s.ModeStep t := by
  cases h
  split
  · unfold State.takeSize
    split
    · exact .of_eq law rfl
    · exact State.modeStep_halted (by rw [s.enterHalted_control]) (by rw [s.enterHalted_control])
  · exact .of_eq law rfl

theorem State.StagingLaw.no_cause {s : State} (law : s.StagingLaw) (drain : s.control.mode ≠ .drain) (drained : s.control.mode ≠ .drained) :
    s.control.drainCause = none := by
  obtain ⟨hcause, -⟩ := (s.stagingLaw_iff.mp law).2
  refine Option.not_isSome_iff_eq_none.mp fun some => ?_
  exact (hcause.mp some).elim drain drained

theorem State.inPhase_iff {s : State} {p : Phase} : s.inPhase p = true ↔ s.control.mode = .start ∧ s.sequencer.phase = p := by
  simp [State.inPhase]

theorem execStartComplete_mode {s t : State} (law : s.StagingLaw) (h : execStartComplete s = .next t) : s.ModeStep t := by
  cases h
  split
  · rename_i ready
    obtain ⟨start, -⟩ := State.inPhase_iff.mp ready.1
    have control : s.completeStart.control = { s.control with mode := .running } := by simp [State.completeStart, State.setMode]
    have cause := law.no_cause (by rw [start]; nofun) (by rw [start]; nofun)
    refine ⟨?_, .inr (.inl ?_)⟩ <;> rw [control]
    exact ModeController.lawful_outside nofun nofun cause
  · exact .of_eq law rfl

theorem State.commandOwner_control (s : State) (c : MgmtCommand) :
    (s.runCommand c (commandOwner c)).control.mode = s.control.mode ∧
    (s.runCommand c (commandOwner c)).control.drainCause = s.control.drainCause ∧
    (s.runCommand c (commandOwner c)).control.pfail = s.control.pfail := by
  unfold State.runCommand
  split
  · exact ⟨rfl, rfl, rfl⟩
  · split
    · cases c <;> simp [commandOwner, State.acceptReinit]
    · exact ⟨rfl, rfl, rfl⟩

theorem State.writeEffect_control (s : State) (a v : Byte) :
    (s.writeEffect a v).control.mode = s.control.mode ∧ (s.writeEffect a v).control.drainCause = s.control.drainCause ∧
    (s.writeEffect a v).control.pfail = s.control.pfail := by
  unfold State.writeEffect
  split
  · exact ⟨rfl, rfl, rfl⟩
  · split
    · unfold State.writeCmd
      split
      · exact s.commandOwner_control _
      · simp
    · exact ⟨rfl, rfl, rfl⟩
    · simp
    · exact ⟨rfl, rfl, rfl⟩

theorem State.onPort_mode {s : State} (law : s.StagingLaw) {f : State → State}
    (h : (f s).control.mode = s.control.mode ∧ (f s).control.drainCause = s.control.drainCause ∧ (f s).control.pfail = s.control.pfail) :
    s.ModeStep (s.onPort f) := by
  unfold State.onPort
  split
  · exact .of_same law h.1 h.2.1 fun _ => h.2.2
  · exact .of_eq law rfl

/-- What every command but the resets does to the mode. -/
theorem exec_mode {c : Instr} {s t : State} (law : s.StagingLaw) (hc : isReset c = false) (h : exec c s = .next t) : s.ModeStep t := by
  cases c with
  | powerOn | resetNAssertion | resetNDeassertion => cases hc
  | resetWaitTimerExpiry =>
    cases h
    split
    · exact State.modeStep_halted s.linkDown_control.1 s.linkDown_control.2
    · exact .of_eq law rfl
  | pfailAssertion => exact execPfailAssertion_mode law h
  | pfailDeassertion => exact execPfailDeassertion_mode law h
  | deferredDrainStart =>
    cases h
    split
    · exact State.modeStep_drain s s _
    · exact .of_eq law rfl
  | reinitClaim => exact execReinitClaim_mode law h
  | drainCompletion => exact execDrainCompletion_mode law h
  | size asize => exact execSize_mode law h
  | startComplete => exact execStartComplete_mode law h
  | reinit => cases h; exact State.onPort_mode law (s.commandOwner_control .reinit)
  | unknownCommand code => cases h; exact State.onPort_mode law (s.writeEffect_control _ _)
  | registerWrite value => cases h; exact State.onPort_mode law (s.writeEffect_control _ _)
  | _ => exact .of_eq law ((exec_quiet h).control rfl)

theorem State.reset_lawful : State.reset.table.Lawful .start := by
  have free (i : Slot) : State.reset.entries[i].state = .free := congrArg Entry.state (State.reset.poweredOn_get false 0#2 i)
  refine ⟨List.nodup_nil, fun i => ?_, by decide, fun _ => rfl, fun i => ?_, nofun, nofun, fun _ i => .inl (free i)⟩
  · exact iff_of_false nofun fun h => by rw [show State.reset.table.entries[i].state = _ from free i] at h; cases h
  · exact iff_of_false nofun fun h => by rw [show State.reset.table.entries[i].state = _ from free i] at h; cases h

theorem clearsTable_of_not_reset {c : Instr} (hc : isReset c = false) : clearsTable c = false := by
  cases c with
  | powerOn | resetNAssertion => cases hc
  | _ => rfl

theorem exec_stagingLaw {c : Instr} {s t : State} (law : s.StagingLaw) (reset : s.ResetLaw) (h : exec c s = .next t) : t.StagingLaw := by
  cases hc : isReset c with
  | false =>
    have clears := clearsTable_of_not_reset hc
    obtain ⟨control, mode⟩ := exec_mode law hc h
    refine t.stagingLaw_iff.mpr ⟨Table.Lawful.change ?_ mode, control⟩
    rcases exec_step law clears h with ⟨i, page, origin, alloc, -⟩ | moves
    · exact alloc.lawful law.table
    · exact Table.Moves.lawful law.table moves
  | true =>
    cases c with
    | powerOn pfail maddr =>
      cases h
      exact State.stagingLaw_iff _ |>.mpr ⟨State.reset_lawful, ModeController.lawful_outside nofun nofun rfl⟩
    | resetNAssertion =>
      cases h
      split
      · exact law
      · exact State.stagingLaw_iff _ |>.mpr ⟨State.reset_lawful, ModeController.lawful_outside nofun nofun rfl⟩
    | resetNDeassertion pfail maddr =>
      cases h
      split
      · rename_i asserted
        have start := (reset asserted).1
        have cause := law.no_cause (by rw [start]; nofun) (by rw [start]; nofun)
        refine State.stagingLaw_iff _ |>.mpr ⟨?_, ModeController.lawful_outside nofun nofun cause⟩
        have table := law.table
        rw [start] at table
        exact table
      · exact law
    | _ => cases hc

theorem State.tick_stagingLaw {s : State} (law : s.StagingLaw) : s.tick.StagingLaw := by
  have table : s.tick.table.Lawful s.control.mode := Table.Moves.lawful law.table s.tick_moves
  exact s.tick.stagingLaw_iff.mpr ⟨table, (s.stagingLaw_iff.mp law).2⟩

end Sys2Proof.Machine
end

section
/-! SUPPORT. A WRITE that the checks let through (R86): what the staging table and the delayed reads make of it. -/

namespace Sys2Proof.Machine

/-! ### The checks (R79) -/

theorem formatOk_iff {addr len : Nat} : formatOk addr len = true ↔ 1 ≤ len ∧ addr % 64 + len ≤ 64 := by
  simp only [formatOk, Bool.and_eq_true, decide_eq_true_eq]
  omega

theorem State.rangeOk_iff {s : State} {addr : Nat} : s.rangeOk addr = true ↔ addr < s.params.windowPages * 512 := decide_eq_true_iff

theorem exec_writeRequest_admitted {s : State} {addr : BitVec 24} {len : BitVec 7} (h : s.AdmitsWrite addr len) (req : Requester)
    (data : List Byte) : exec (.writeRequest req addr len data) s = .next (s.writePath req addr.toNat data) := by
  obtain ⟨reset, running, positive, block, range, mode⟩ := h
  have format : formatOk addr.toNat len.toNat = true := formatOk_iff.mpr ⟨positive, block⟩
  have range : s.rangeOk addr.toNat = true := State.rangeOk_iff.mpr range
  have mode : s.effectiveMode (pageOf addr.toNat) = .readWrite := mode
  show Host.Outcome.next (if s.resetAsserted then _ else s.takeWrite req addr.toNat len.toNat data) = _
  simp [reset, State.takeWrite, format, range, State.gateWrite, running, State.protectWrite, mode]

/-- The offset of an admitted request and its length stay inside the page. -/
theorem State.AdmitsWrite.inPage {s : State} {addr : BitVec 24} {len : BitVec 7} (h : s.AdmitsWrite addr len) :
    len.toNat ≤ 64 ∧ addr.toNat % 512 + len.toNat ≤ 512 := by
  obtain ⟨_, _, _, block, _⟩ := h
  omega

/-! ### Runs of offsets -/

theorem runSet_getLsbD {off len : Nat} (h : off + len ≤ 512) (o : Nat) :
    (runSet off len).getLsbD o = decide (off ≤ o ∧ o < off + len) := by
  rw [runSet, wholePage, BitVec.getLsbD_shiftLeft, BitVec.getLsbD_ushiftRight, BitVec.getLsbD_allOnes, Bool.eq_iff_iff]
  simp only [Bool.and_eq_true, Bool.not_eq_true', decide_eq_true_eq, decide_eq_false_iff_not]
  omega

/-- A run that leaves an offset out is not the whole page. -/
theorem runSet_ne_wholePage {off len : Nat} (h : off + len ≤ 512) (small : len < 512) : runSet off len ≠ wholePage := by
  intro whole
  have first : (runSet off len).getLsbD 0 = true := by rw [whole]; simp [wholePage]
  have last : (runSet off len).getLsbD 511 = true := by rw [whole]; simp [wholePage]
  rw [runSet_getLsbD h, decide_eq_true_eq] at first last
  omega

theorem imageByte_writeRun {p : PageImage} {off : Nat} {data : List Byte} (h : off + data.length ≤ 512) (o : Nat) :
    imageByte (writeRun p off data) o =
      if off ≤ o ∧ o < off + data.length then data.getD (o - off) 0#8 else imageByte p o := by
  unfold imageByte
  by_cases inPage : o < 512
  · simp [inPage, writeRun]
  · rw [dif_neg inPage, dif_neg inPage, if_neg (by omega)]

/-! ### The outcomes of a write claim (R7) -/

theorem State.stageWrite_opened {s : State} {page : Nat} {i : Slot} (h : s.absorbingSlot page = some i) (hi : s.entries[i].state = .opened)
    (off : Nat) (data : List Byte) (req : Requester) :
    s.stageWrite page off data req = (.absorbed, s.absorbOpen i off data req) := by
  rw [State.stageWrite, h]
  exact if_pos hi

theorem State.stageWrite_sealed {s : State} {page : Nat} {i : Slot} (h : s.absorbingSlot page = some i) (hi : s.entries[i].state = .sealed)
    (off : Nat) (data : List Byte) (req : Requester) :
    s.stageWrite page off data req = (.absorbed, s.absorbSealed i off data req) := by
  rw [State.stageWrite, h]
  exact if_neg (by rw [hi]; decide)

theorem State.stageWrite_free {s : State} {page : Nat} {i : Slot} (h : s.absorbingSlot page = none) (free : s.freeSlot = some i)
    (off : Nat) (data : List Byte) (req : Requester) :
    s.stageWrite page off data req = (.absorbed, s.allocHost i page off data req) := by
  simp only [State.stageWrite, h, free]

section
variable {s : State} {page : Nat} (h : s.absorbingSlot page = none) (full : s.freeSlot = none) (off : Nat) (data : List Byte) (req : Requester)
include h full

theorem State.stageWrite_pressure {i : Slot} (oldest : s.pressureSlot = some i) :
    s.stageWrite page off data req = (.pressure, s.sealSlot i) := by
  simp only [State.stageWrite, h, full, oldest]

theorem State.stageWrite_exhausted (none : s.pressureSlot = none) (failed : s.failedCount = 16) :
    s.stageWrite page off data req = (.exhausted, s) := by
  simp only [State.stageWrite, h, full, none, failed, if_true]

theorem State.stageWrite_busy (none : s.pressureSlot = none) (failed : s.failedCount ≠ 16) :
    s.stageWrite page off data req = (.busy, s) := by
  simp only [State.stageWrite, h, full, none, failed, if_false]

end

/-! ### The patch of READY reads (R110) -/

theorem State.patchReady_get (s : State) (page off : Nat) (data : List Byte) (d : DttIndex) :
    (s.patchReady page off data).dtt[d] = s.dtt[d].patch page off data := by
  simp [State.patchReady]

/-- What a write leaves of a READY read of its page: the bytes the two have in common are the write's. -/
theorem DttEntry.patch_ready {d : DttEntry} {w a : Nat} {bytes data : List Byte} (ready : d.state = .ready) (kind : d.kind = some .read)
    (result : d.result = some .data) (address : d.address = some a) (bytes_eq : d.data = some bytes) (page : a / 512 = w / 512) :
    ∃ new : List Byte, d.patch (w / 512) (w % 512) data = { d with data := some new } ∧ new.length = bytes.length ∧
      ∀ k < bytes.length, new[k]? = if w ≤ a + k ∧ a + k < w + data.length then data[a + k - w]? else bytes[k]? := by
  have addr : d.addr = a := by simp [DttEntry.addr, address]
  refine ⟨bytes.mapIdx fun k b => if w % 512 ≤ offsetOf d.addr + k ∧ offsetOf d.addr + k < w % 512 + data.length then
    data.getD (offsetOf d.addr + k - w % 512) b else b, ?_, List.length_mapIdx, fun k hk => ?_⟩
  · rw [DttEntry.patch, if_pos ⟨ready, kind, result, by rw [addr]; exact page⟩, bytes_eq]
    rfl
  · have place : offsetOf d.addr + k - w % 512 = a + k - w := by rw [addr, offsetOf]; omega
    have within : w % 512 ≤ offsetOf d.addr + k ∧ offsetOf d.addr + k < w % 512 + data.length ↔ w ≤ a + k ∧ a + k < w + data.length := by
      rw [addr, offsetOf]; omega
    rw [List.getElem?_mapIdx, List.getElem?_eq_getElem hk, Option.map_some]
    simp only [within, place]
    split
    · rw [List.getElem?_eq_getElem (by omega), List.getD_eq_getElem _ _ (by omega)]
    · rfl

theorem DttEntry.patch_other {d : DttEntry} {page : Nat}
    (h : d.state ≠ .ready ∨ d.kind ≠ some .read ∨ d.result ≠ some .data ∨ ∃ a, d.address = some a ∧ a / 512 ≠ page)
    (off : Nat) (data : List Byte) : d.patch page off data = d := by
  rw [DttEntry.patch, if_neg]
  rintro ⟨ready, kind, result, here⟩
  rcases h with h | h | h | ⟨a, address, h⟩
  · exact h ready
  · exact h kind
  · exact h result
  · exact h (by simpa [DttEntry.addr, address, pageOf] using here)

/-! ### Coverage after a write (R24) -/

theorem State.firstSlot_congr {s t : State} {p : Entry → Bool} (h : ∀ j : Slot, p t.entries[j] = p s.entries[j]) :
    t.firstSlot p = s.firstSlot p := by
  simp only [State.firstSlot, h]

/-- Slot `i` takes a write for a page: it is the page's absorbing entry, or it is FREE and the page has none (R7). -/
def State.TakesWrite (s : State) (i : Slot) (page : Nat) : Prop :=
  s.absorbingSlot page = some i ∨ s.absorbingSlot page = none ∧ s.entries[i].state = .free

theorem Entry.not_retired {e : Entry} (h : e.IsAbsorbing ∨ e.state = .free) : e.retired = false := by
  rcases h with (h | h) | h <;> simp [Entry.retired, h]

theorem State.TakesWrite.not_retired {s : State} {i : Slot} {page : Nat} (h : s.TakesWrite i page) : s.entries[i].retired = false :=
  Entry.not_retired (h.imp (fun h => (State.absorbingSlot_eq_some h).1) fun h => h.2)

theorem State.TakesWrite.not_absorbing_at {s : State} {i : Slot} {page p : Nat} (h : s.TakesWrite i page) (hp : p ≠ page) :
    (s.entries[i].absorbing && s.entries[i].page == some p) = false := by
  rcases h with h | ⟨_, h⟩
  · rw [(State.absorbingSlot_eq_some h).2]; simp [Ne.symm hp]
  · simp only [Entry.absorbing, h]; rfl

/-- The slots that hold the bytes of a page, after slot `i` has taken a write for its page. -/
theorem State.coverSlots_put {s t : State} {i : Slot} {e : Entry} {page : Nat}
    (entries : ∀ j : Slot, t.entries[j] = if j = i then e else s.entries[j]) (absorbing : e.IsAbsorbing) (here : e.page = some page)
    (takes : s.TakesWrite i page) (p : Nat) :
    t.absorbingSlot p = (if p = page then some i else s.absorbingSlot p) ∧ t.retiredSlot p = s.retiredSlot p := by
  have new : e.absorbing = true := Entry.absorbing_iff.mpr absorbing
  refine ⟨?_, ?_⟩
  · by_cases hp : p = page
    · subst hp
      rw [if_pos rfl, State.absorbingSlot, State.firstSlot_eq_some]
      refine ⟨by rw [entries, if_pos rfl, new, here]; simp, fun j hj => ?_⟩
      rw [entries, if_neg hj.ne]
      rcases takes with h | ⟨h, _⟩
      · exact (State.firstSlot_eq_some.mp h).2 j hj
      · exact State.firstSlot_eq_none.mp h j
    · rw [if_neg hp]
      refine State.firstSlot_congr fun j => ?_
      rw [entries]
      split
      · subst j
        rw [takes.not_absorbing_at hp, here]
        simp [Ne.symm hp]
      · rfl
  · refine State.firstSlot_congr fun j => ?_
    rw [entries]
    split
    · subst j
      rw [Entry.not_retired (.inl absorbing), takes.not_retired]
      rfl
    · rfl

/-- The coverage lookup after slot `i` has taken a write of the run `off`, `data` for its page (R24). -/
theorem State.coveredByte_put {s t : State} {i : Slot} {e : Entry} {page off : Nat} {data : List Byte}
    (entries : ∀ j : Slot, t.entries[j] = if j = i then e else s.entries[j]) (absorbing : e.IsAbsorbing) (here : e.page = some page)
    (takes : s.TakesWrite i page)
    (covers : ∀ o, e.covers o =
      if off ≤ o ∧ o < off + data.length then data[o - off]? else s.slotCovers (s.absorbingSlot page) o) (p o : Nat) :
    t.coveredByte p o = if p = page ∧ off ≤ o ∧ o < off + data.length then data[o - off]? else s.coveredByte p o := by
  obtain ⟨absorbingSlot, retiredSlot⟩ := State.coverSlots_put entries absorbing here takes p
  have other (k : Option Slot) (hk : k ≠ some i) : t.slotCovers k o = s.slotCovers k o := by
    cases k with
    | none => rfl
    | some j => simp only [State.slotCovers]; rw [entries, if_neg fun h => hk (congrArg some h)]
  have retired : s.retiredSlot p ≠ some i := fun h => by
    have taken := (State.firstSlot_eq_some.mp h).1
    rw [takes.not_retired] at taken
    cases taken
  rw [State.coveredByte, State.coveredByte, absorbingSlot, retiredSlot, other _ retired]
  by_cases hp : p = page
  · have now : t.slotCovers (some i) o = e.covers o := by simp only [State.slotCovers]; rw [entries, if_pos rfl]
    rw [if_pos hp, now, covers]
    subst hp
    by_cases run : off ≤ o ∧ o < off + data.length
    · rw [if_pos run, if_pos ⟨rfl, run⟩, List.getElem?_eq_getElem (by omega)]
      rfl
    · rw [if_neg run, if_neg fun h => run h.2]
  · have absent : s.absorbingSlot p ≠ some i := fun h => by
      have taken := (State.firstSlot_eq_some.mp h).1
      rw [takes.not_absorbing_at hp] at taken
      cases taken
    rw [if_neg hp, if_neg fun h => hp h.1, other _ absent]

/-- What an entry covers once a run has been written into it. -/
theorem Entry.covers_writeRun {e f : Entry} {off : Nat} {data : List Byte} (inPage : off + data.length ≤ 512)
    (buffer : f.buffer = writeRun e.buffer off data) (valid : f.valid = e.valid ||| runSet off data.length) (o : Nat) :
    f.covers o = if off ≤ o ∧ o < off + data.length then data[o - off]? else e.covers o := by
  rw [Entry.covers, Entry.covers, buffer, valid, BitVec.getLsbD_or, runSet_getLsbD inPage, imageByte_writeRun inPage]
  by_cases run : off ≤ o ∧ o < off + data.length
  · rw [decide_eq_true run, Bool.or_true, if_pos rfl, if_pos run, if_pos run, List.getElem?_eq_getElem (by omega), List.getD_eq_getElem _ _ (by omega)]
  · rw [decide_eq_false run, Bool.or_false, if_neg run, if_neg run]

/-! ### No slot left (R16, R89) -/

theorem State.pressureSlot_eq_some {s : State} {i : Slot} (opened : s.entries[i].state = .opened)
    (oldest : ∀ j : Slot, s.entries[j].state = .opened → s.entries[i].lastWrite.getD 0 < s.entries[j].lastWrite.getD 0 ∨
      (s.entries[i].lastWrite.getD 0 = s.entries[j].lastWrite.getD 0 ∧ i ≤ j)) : s.pressureSlot = some i := by
  have mem : i ∈ sortSlots (fun i => s.entries[i].lastWrite.getD 0) s.openSlots :=
    (sortSlots_perm _ _).mem_iff.mpr (State.mem_openSlots.mpr opened)
  have sorted := sortSlots_pairwise (fun i => s.entries[i].lastWrite.getD 0) s.openSlots
  have all (j : Slot) (h : j ∈ sortSlots (fun i => s.entries[i].lastWrite.getD 0) s.openSlots) : s.entries[j].state = .opened :=
    State.mem_openSlots.mp ((sortSlots_perm _ _).mem_iff.mp h)
  rw [State.pressureSlot]
  generalize sortSlots (fun i => s.entries[i].lastWrite.getD 0) s.openSlots = l at mem sorted all
  cases l with
  | nil => cases mem
  | cons j l =>
    rw [List.head?_cons]
    rcases List.mem_cons.mp mem with rfl | later
    · rfl
    · have first := (List.pairwise_cons.mp sorted).1 i later
      have lowest := oldest j (all j (by simp))
      refine congrArg some (Fin.ext ?_)
      simp only [Fin.le_def] at first lowest
      omega

theorem State.pressureSlot_eq_none {s : State} (h : ∀ j : Slot, s.entries[j].state ≠ .opened) : s.pressureSlot = none := by
  have empty : s.openSlots = [] := State.slotsWhere_eq_nil.mpr fun j => beq_eq_false_iff_ne.mpr (h j)
  rw [State.pressureSlot, empty]
  rfl

theorem State.failedCount_eq_all {s : State} : s.failedCount = 16 ↔ ∀ j : Slot, s.entries[j].state = .failed := by
  have all : s.failedCount = (List.finRange 16).length ↔ ∀ j ∈ List.finRange 16, (s.entries[j].state == .failed) = true :=
    List.length_filter_eq_length_iff
  rw [List.length_finRange] at all
  rw [all]
  simp

end Sys2Proof.Machine
end

section
/-! PROOFS. WRITE requests that the checks let through (O6, O7, O8). -/

namespace Sys2Proof.Machine

theorem exec_write_absorbed {s t : State} {addr : BitVec 24} {len : BitVec 7} (h : s.AdmitsWrite addr len) {req : Requester}
    {data : List Byte} (staged : s.stageWrite (addr.toNat / 512) (addr.toNat % 512) data req = (.absorbed, t)) :
    exec (.writeRequest req addr len data) s =
      .next ((t.patchReady (addr.toNat / 512) (addr.toNat % 512) data).respond .done) := by
  rw [exec_writeRequest_admitted h, State.writePath]
  simp only [pageOf, offsetOf, staged, State.answerWrite]

theorem exec_write_retried {s t : State} {addr : BitVec 24} {len : BitVec 7} (h : s.AdmitsWrite addr len) {req : Requester}
    {data : List Byte} {o : WriteOutcome} (ho : o = .pressure ∨ o = .busy)
    (staged : s.stageWrite (addr.toNat / 512) (addr.toNat % 512) data req = (o, t)) :
    exec (.writeRequest req addr len data) s = .next (t.countStagingRetry.respond .retry) := by
  rw [exec_writeRequest_admitted h, State.writePath]
  simp only [pageOf, offsetOf, staged]
  rcases ho with rfl | rfl <;> rfl

/-- An admitted write is shorter than a page, so it never seals the entry it allocates. -/
theorem State.allocHost_admitted {s : State} {addr : BitVec 24} {len : BitVec 7} (h : s.AdmitsWrite addr len) {data : List Byte}
    (length : data.length = len.toNat) (i : Slot) (req : Requester) :
    s.allocHost i (addr.toNat / 512) (addr.toNat % 512) data req =
      s.setEntry i (s.hostEntry i (addr.toNat / 512) (addr.toNat % 512) data req) := by
  obtain ⟨short, inPage⟩ := h.inPage
  rw [State.allocHost_eq, if_neg (runSet_ne_wholePage (by omega) (by omega))]

/-- Settles O6: the closed forms of an allocation and of a write into an absorbing entry. -/
theorem writeIsAbsorbed : Obligations.WriteIsAbsorbed := by
  unfold Obligations.WriteIsAbsorbed
  intro patched
  have patchedBy {s t : State} {addr : BitVec 24} {len : BitVec 7} {data : List Byte} (length : data.length = len.toNat)
      (dtt : ∀ d : DttIndex, t.dtt[d] = s.dtt[d].patch (addr.toNat / 512) (addr.toNat % 512) data) : patched s t addr len data := by
    intro d
    rw [dtt, ← length]
    exact ⟨fun a bytes ready kind result address data page => DttEntry.patch_ready ready kind result address data page,
      fun h => DttEntry.patch_other h _ _⟩
  refine ⟨fun s req addr len data i admits length noAbsorbing free lowest => ?_, fun s req addr len data i admits length absorbing => ?_⟩
  · have none : s.absorbingSlot (addr.toNat / 512) = none :=
      State.absorbingSlot_eq_none.mpr fun j hj h => h.elim (noAbsorbing j hj).1 (noAbsorbing j hj).2
    have slot : s.freeSlot = some i := State.freeSlot_eq_some.mpr ⟨free, lowest⟩
    have staged := State.stageWrite_free none slot (addr.toNat % 512) data req
    rw [State.allocHost_admitted admits length] at staged
    refine ⟨_, exec_write_absorbed admits staged, patchedBy length fun d => State.patchReady_get _ _ _ _ d, ?_⟩
    simp only [State.hostEntry, length]
    rfl
  · intro e
    have entry : s.entries[i].absorb (addr.toNat % 512) data req s.now = e := by simp only [Entry.absorb, length, e]
    rcases (State.absorbingSlot_eq_some absorbing).1 with state | state
    · have staged := State.stageWrite_opened absorbing state (addr.toNat % 512) data req
      rw [State.absorbOpen_eq state, State.openEntry, entry] at staged
      by_cases full : e.written = wholePage
      · rw [if_pos full] at staged
        refine ⟨_, exec_write_absorbed admits staged, patchedBy length fun d => State.patchReady_get _ _ _ _ d,
          fun h => absurd (state.symm.trans h) (by decide), fun _ h => absurd full h, fun _ _ => rfl⟩
      · rw [if_neg full] at staged
        refine ⟨_, exec_write_absorbed admits staged, patchedBy length fun d => State.patchReady_get _ _ _ _ d,
          fun h => absurd (state.symm.trans h) (by decide), fun _ _ => rfl, fun _ h => absurd h full⟩
    · have staged := State.stageWrite_sealed absorbing state (addr.toNat % 512) data req
      rw [State.absorbSealed, entry] at staged
      refine ⟨_, exec_write_absorbed admits staged, patchedBy length fun d => State.patchReady_get _ _ _ _ d,
        fun _ => rfl, fun h => absurd (state.symm.trans h) (by decide), fun h => absurd (state.symm.trans h) (by decide)⟩

/-- A write that staging takes puts one absorbing entry of its page in place, which covers the run and what was covered before. -/
theorem State.stageWrite_takes {s : State} {addr : BitVec 24} {len : BitVec 7} (admits : s.AdmitsWrite addr len) {data : List Byte}
    (length : data.length = len.toNat) (req : Requester) (h : (s.absorbingSlot (addr.toNat / 512)).isSome ∨ s.freeSlot.isSome) :
    ∃ (t : State) (i : Slot) (e : Entry), s.stageWrite (addr.toNat / 512) (addr.toNat % 512) data req = (.absorbed, t) ∧
      (∀ j : Slot, t.entries[j] = if j = i then e else s.entries[j]) ∧ e.IsAbsorbing ∧ e.page = some (addr.toNat / 512) ∧
      s.TakesWrite i (addr.toNat / 512) ∧ ∀ o, e.covers o =
        if addr.toNat % 512 ≤ o ∧ o < addr.toNat % 512 + data.length then data[o - addr.toNat % 512]?
        else s.slotCovers (s.absorbingSlot (addr.toNat / 512)) o := by
  have inPage : addr.toNat % 512 + data.length ≤ 512 := length ▸ admits.inPage.2
  cases absorbing : s.absorbingSlot (addr.toNat / 512) with
  | some i =>
    obtain ⟨isAbsorbing, page⟩ := State.absorbingSlot_eq_some absorbing
    have covers {f : Entry} (buffer : f.buffer = writeRun s.entries[i].buffer (addr.toNat % 512) data)
        (valid : f.valid = s.entries[i].valid ||| runSet (addr.toNat % 512) data.length) := Entry.covers_writeRun inPage buffer valid
    rcases isAbsorbing with state | state
    · have staged := State.stageWrite_opened absorbing state (addr.toNat % 512) data req
      rw [State.absorbOpen_eq state] at staged
      split at staged
      · exact ⟨_, i, _, staged, fun j => s.setEntry_get i j _, .inr (by simp only [Entry.closed]),
          by simp only [Entry.closed, State.openEntry, Entry.absorb, page], .inl absorbing,
          covers (by simp only [Entry.closed, State.openEntry, Entry.absorb]) (by simp only [Entry.closed, State.openEntry, Entry.absorb])⟩
      · exact ⟨_, i, _, staged, fun j => s.setEntry_get i j _, .inl (by simp only [State.openEntry, Entry.absorb, state]),
          by simp only [State.openEntry, Entry.absorb, page], .inl absorbing,
          covers (by simp only [State.openEntry, Entry.absorb]) (by simp only [State.openEntry, Entry.absorb])⟩
    · exact ⟨_, i, _, State.stageWrite_sealed absorbing state _ data req, fun j => s.setEntry_get i j _,
        .inr (by simp only [Entry.absorb, state]), by simp only [Entry.absorb, page], .inl absorbing,
        covers (by simp only [Entry.absorb]) (by simp only [Entry.absorb])⟩
  | none =>
    obtain ⟨i, slot⟩ := Option.isSome_iff_exists.mp (h.resolve_left (by simp [absorbing]))
    have staged := State.stageWrite_free absorbing slot (addr.toNat % 512) data req
    rw [State.allocHost_admitted admits length] at staged
    refine ⟨_, i, _, staged, fun j => s.setEntry_get i j _, .inl (by simp only [State.hostEntry]),
      by simp only [State.hostEntry], .inr ⟨absorbing, (State.freeSlot_eq_some.mp slot).1⟩, fun o => ?_⟩
    rw [Entry.covers_writeRun (e := { s.entries[i] with valid := 0#512 }) inPage (by simp only [State.hostEntry])
      (by simp only [State.hostEntry, BitVec.zero_or])]
    simp [Entry.covers, State.slotCovers]

/-- Settles O7: the entry that takes the write is the page's absorbing entry, and no other entry changes. -/
theorem absorbedWriteIsCovered : Obligations.AbsorbedWriteIsCovered := by
  unfold Obligations.AbsorbedWriteIsCovered
  intro s req addr len data admits length room
  obtain ⟨t, i, e, staged, entries, absorbing, page, takes, covers⟩ := State.stageWrite_takes admits length req room
  refine ⟨_, exec_write_absorbed admits staged, rfl, fun p o => ?_⟩
  rw [← length]
  exact State.coveredByte_put entries absorbing page takes covers p o

/-- Settles O8: the table is full, and the OPEN and FAILED entries decide. -/
theorem writeFindsNoSlot : Obligations.WriteFindsNoSlot := by
  unfold Obligations.WriteFindsNoSlot
  intro s req addr len data admits length absorbing used
  have full : s.freeSlot = none := State.freeSlot_eq_none.mpr used
  refine ⟨fun i opened oldest => ?_, fun failed => ?_, fun noOpen someOther => ?_⟩
  · rw [exec_write_retried admits (.inl rfl)
      (State.stageWrite_pressure absorbing full _ data req (State.pressureSlot_eq_some opened oldest)), State.sealSlot_of_opened opened]
    rfl
  · have none : s.pressureSlot = none := State.pressureSlot_eq_none fun j h => by rw [failed j] at h; cases h
    rw [exec_writeRequest_admitted admits, State.writePath, pageOf, offsetOf,
      State.stageWrite_exhausted absorbing full _ data req none (State.failedCount_eq_all.mpr failed)]
    rfl
  · obtain ⟨j, notFailed⟩ := someOther
    rw [exec_write_retried admits (.inr rfl) (State.stageWrite_busy absorbing full _ data req (State.pressureSlot_eq_none noOpen)
      fun h => notFailed (State.failedCount_eq_all.mp h j))]
    rfl

end Sys2Proof.Machine
end

section
/-! PROOFS. Reads that staging covers, fences that wait, the staging timers and the take of the head (O10, O15, O17, O18). -/

namespace Sys2Proof.Machine

/-! ### READ requests -/

/-- Settles O10: the coverage lookup gives every byte, so the answer is made of them. -/
theorem coveredReadReturnsStagedBytes : Obligations.CoveredReadReturnsStagedBytes := by
  unfold Obligations.CoveredReadReturnsStagedBytes
  intro s req addr len bytes admits unmatched length covered
  obtain ⟨reset, notStart, positive, block, range, mode⟩ := admits
  have format : formatOk addr.toNat len.toNat = true := formatOk_iff.mpr ⟨positive, block⟩
  have range : s.rangeOk addr.toNat = true := State.rangeOk_iff.mpr range
  have mode : s.effectiveMode (pageOf addr.toNat) ≠ .noAccess := mode
  have full : s.fullyCovered (pageOf addr.toNat) (offsetOf addr.toNat) len.toNat = true := by
    rw [State.fullyCovered, List.all_eq_true]
    intro k hk
    rw [pageOf, offsetOf, covered k (by rw [length]; exact List.mem_range.mp hk)]
    rfl
  have read : s.coveredBytes (pageOf addr.toNat) (offsetOf addr.toNat) len.toNat = bytes := by
    refine List.ext_getElem (by simp [State.coveredBytes, length]) fun k _ hk => ?_
    simp only [State.coveredBytes, pageOf, offsetOf, List.getElem_map, List.getElem_range, covered k hk, Option.getD_some]
  have path : s.takeRead req addr.toNat len.toNat = s.readPath req addr.toNat len.toNat := by
    simp [State.takeRead, format, range, State.gateRead, notStart, State.protectRead]
  have answer : s.readPath req addr.toNat len.toNat = s.respond (.data bytes) := by
    simp only [State.readPath, unmatched, full, if_true, read]
  show Host.Outcome.next (if s.resetAsserted then _ else s.takeRead req addr.toNat len.toNat) = _
  rw [if_neg (by simp [reset]), path, answer]
  rfl

/-! ### FENCE requests -/

theorem exec_fenceRequest_unmatched {s : State} {req : Requester} (admits : s.AdmitsFence) (unmatched : s.matchDtt (.fence req) = none) :
    exec (.fenceRequest req) s = .next (s.decideFence req) := by
  obtain ⟨reset, mode⟩ := admits
  show Host.Outcome.next (if s.resetAsserted then _ else s.takeFence req) = _
  rcases mode with mode | mode | mode <;>
    simp only [reset, State.takeFence, mode, State.fencePath, unmatched, Bool.false_eq_true, if_false]

theorem State.recordSlot_eq_some {s : State} {req : Requester} {d : DttIndex} (room : s.heldBy req < 2) (free : s.dtt[d].state = .free)
    (lowest : ∀ j : DttIndex, j < d → s.dtt[j].state ≠ .free) : s.recordSlot req = some d := by
  rw [State.recordSlot, if_pos room]
  exact find?_finRange_eq_some.mpr ⟨beq_iff_eq.mpr free, fun j hj => beq_eq_false_iff_ne.mpr (lowest j hj)⟩

/-- Where no FAILED entry has bytes of the requester, its fence waits on every entry in use that has some (R122, R123). -/
theorem State.mem_fenceSlots {s : State} {req : Requester}
    (noFailed : ∀ i : Slot, s.entries[i].state = .failed → s.entries[i].writers.getLsbD req.val = false) {i : Slot} :
    i ∈ s.fenceSlots req ↔ s.entries[i].state ≠ .free ∧ s.entries[i].writers.getLsbD req.val = true := by
  rw [State.fenceSlots, State.mem_slotsWhere, Entry.waitable, Entry.writtenBy]
  have := noFailed i
  cases state : s.entries[i].state <;> simp_all

theorem State.failedFor_eq_none {s : State} {req : Requester}
    (noFailed : ∀ i : Slot, s.entries[i].state = .failed → s.entries[i].writers.getLsbD req.val = false) : s.failedFor req = none := by
  refine State.firstSlot_eq_none.mpr fun i => Bool.eq_false_iff.mpr fun h => ?_
  obtain ⟨failed, written⟩ := Bool.and_eq_true_iff.mp h
  rw [Entry.writtenBy, noFailed i (beq_iff_eq.mp failed)] at written
  cases written

theorem State.pairOf_injective (s : State) : Function.Injective s.pairOf := fun _ _ h => congrArg WaitPair.slot h

theorem State.mem_map_pairOf {s : State} {l : List Slot} {p : WaitPair} :
    p ∈ l.map s.pairOf ↔ p.generation = s.entries[p.slot].generation ∧ p.slot ∈ l := by
  rw [List.mem_map]
  refine ⟨?_, fun ⟨generation, mem⟩ => ⟨p.slot, mem, by rw [State.pairOf, ← generation]⟩⟩
  rintro ⟨i, mem, rfl⟩
  exact ⟨rfl, mem⟩

/-- Settles O15: the wait set is taken before the OPEN entries of it are sealed. -/
theorem fenceRecordsItsWaitSet : Obligations.FenceRecordsItsWaitSet := by
  unfold Obligations.FenceRecordsItsWaitSet
  intro s req d admits unmatched noFailed someEntry room free lowest
  obtain ⟨i, used, written⟩ := someEntry
  have waits : s.fenceSlots req ≠ [] := List.ne_nil_of_mem ((State.mem_fenceSlots noFailed).mpr ⟨used, written⟩)
  let ws := (s.fenceSlots req).map s.pairOf
  let opens := (s.fenceSlots req).filter fun i => s.entries[i].state == .opened
  let recorded := s.setDtt d (recordedFence req ws)
  have mem_opens (i : Slot) : i ∈ opens ↔ s.entries[i].state = .opened ∧ s.entries[i].writers.getLsbD req.val = true := by
    rw [List.mem_filter, State.mem_fenceSlots noFailed, beq_iff_eq]
    exact ⟨fun h => ⟨h.2, h.1.2⟩, fun h => ⟨⟨by rw [h.1]; decide, h.2⟩, h.1⟩⟩
  have nodup : opens.Nodup := (s.nodup_slotsWhere _).filter _
  have opened : ∀ i ∈ opens, recorded.entries[i].state = .opened := fun i hi => ((mem_opens i).mp hi).1
  have run : exec (.fenceRequest req) s = .next ((recorded.sealSlots opens).respond .retry) := by
    rw [exec_fenceRequest_unmatched admits unmatched]
    simp only [State.decideFence, State.failedFor_eq_none noFailed, waits, if_false, State.recordFence,
      State.recordSlot_eq_some room free lowest]
    rfl
  have dtt : (recorded.sealSlots opens).dtt = recorded.dtt := by simp
  refine ⟨_, recorded.sealingOrder opens, ws, run, ?_, ?_, fun j hj => ?_, (s.nodup_slotsWhere _).map s.pairOf_injective, fun p => ?_,
    recorded.nodup_sealingOrder nodup, fun i => ?_, sortSlots_strict _ nodup, fun i => ?_⟩
  · rw [State.sealSlots_eq, State.sealSlots_queue nodup opened]
    rfl
  · show (recorded.sealSlots opens).dtt[d] = _
    rw [dtt, s.setDtt_get, if_pos rfl]
    rfl
  · show (recorded.sealSlots opens).dtt[j] = _
    rw [dtt, s.setDtt_get, if_neg hj]
  · rw [State.mem_map_pairOf, State.mem_fenceSlots noFailed]
    tauto
  · rw [State.mem_sealingOrder, mem_opens]
  · show (recorded.sealSlots opens).entries[i] = _
    rw [State.sealSlots_get nodup opened]
    simp only [State.mem_sealingOrder]
    rfl

/-! ### The staging timers -/

/-- Settles O17: an expiry seals the slot when its timer stands at 0, and sealing acts on OPEN entries alone. -/
theorem timersSealTheOpenEntry : Obligations.TimersSealTheOpenEntry := by
  unfold Obligations.TimersSealTheOpenEntry
  intro s i after
  have idle : exec (.idleTimerExpiry i) s = .next (if s.openTimersRun ∧ s.entries[i].idleTimer = some 0 then s.sealSlot i else s) := rfl
  have age : exec (.openAgeTimerExpiry i) s = .next (if s.openTimersRun ∧ s.entries[i].ageTimer = some 0 then s.sealSlot i else s) := rfl
  rw [idle, age]
  refine ⟨fun mode opened => ?_, fun notOpen => ?_, fun running => by rw [if_neg fun h => running h.2],
    fun running => by rw [if_neg fun h => running h.2]⟩
  · have run : s.openTimersRun = true := by simpa [State.openTimersRun] using mode
    have sealing : s.sealSlot i = after := State.sealSlot_of_opened opened
    exact ⟨fun timer => by rw [if_pos ⟨run, timer⟩, sealing], fun timer => by rw [if_pos ⟨run, timer⟩, sealing]⟩
  · rw [State.sealSlot_of_not_opened notOpen, ite_self, ite_self]
    exact ⟨rfl, rfl⟩

/-! ### The take of the head -/

theorem exec_takeHead {s : State} {i : Slot} {rest : List Slot} (idle : s.engine.stage = .idle)
    (mode : s.control.mode = .running ∨ s.control.mode = .drain) (head : s.commitQueue = i :: rest) :
    exec .takeHead s = .next (s.takeHead i) := by
  have may : s.mayTake = true := by simpa [State.mayTake, idle] using mode
  show Host.Outcome.next (if s.mayTake then match s.commitQueue with | i :: _ => s.takeHead i | [] => s else s) = _
  rw [if_pos may, head]

theorem firstStage_alone (elide : Bool) (e : Entry) : firstStage false elide e =
    if (e.origin = some .host ∧ elide = true) ∨ e.valid ≠ wholePage then .fill else .erase := by
  simp only [firstStage, Bool.false_eq_true, if_false]
  by_cases host : e.origin = some .host ∧ elide = true
  · rw [if_pos host, if_pos (.inl host)]
  · by_cases part : e.valid ≠ wholePage
    · rw [if_neg host, if_pos part, if_pos (.inr part)]
    · rw [if_neg host, if_neg part, if_neg (not_or.mpr ⟨host, part⟩)]

/-- The FAILED entry of a page, where there is one alone. -/
theorem State.predecessorOf_unique {s : State} {i j : Slot} {page : Nat} (pagei : s.entries[i].page = some page)
    (failed : s.entries[j].state = .failed) (pagej : s.entries[j].page = some page)
    (alone : ∀ k : Slot, s.entries[k].page = some page → s.entries[k].state = .failed → k = j) : s.predecessorOf i = some j := by
  simp only [State.predecessorOf, pagei]
  cases found : s.failedSlot page with
  | none => exact absurd failed (State.failedSlot_eq_none.mp found j pagej)
  | some k =>
    obtain ⟨hk, pagek⟩ := State.failedSlot_eq_some found
    rw [alone k pagek hk]

theorem Entry.freed_eq (e : Entry) : e.freed = { Entry.initial with generation := e.generation, buffer := e.buffer } := rfl

/-- Settles O18: the take of the head, with and without a FAILED entry of its page. -/
theorem headIsTakenForCommit : Obligations.HeadIsTakenForCommit := by
  unfold Obligations.HeadIsTakenForCommit
  refine ⟨fun s i rest page idle mode head pagei noFailed => ?_, fun s i j rest page idle mode head sealed pagei failed pagej alone => ?_⟩
  · have none : s.predecessorOf i = none := by
      simp only [State.predecessorOf, pagei]
      exact State.failedSlot_eq_none.mpr noFailed
    have generation : (s.takeSlot i).entries[i].generation = s.entries[i].generation := by rw [s.takeSlot_get, if_pos rfl]
    rw [exec_takeHead idle mode head, State.takeHead_alone none, State.holdCommit, generation, firstStage_alone]
    simp only [State.takeSlot, State.setEngine, State.setQueue, head, List.tail_cons]
  · have ne : j ≠ i := fun h => by rw [h, sealed] at failed; cases failed
    rw [exec_takeHead idle mode head, State.takeHead_over (State.predecessorOf_unique pagei failed pagej alone)]
    have ati : (s.takeSlot i).entries[i] = { s.entries[i] with state := .committing, attempts := 0 } := by rw [s.takeSlot_get, if_pos rfl]
    have atj : (s.takeSlot i).entries[j] = s.entries[j] := by rw [s.takeSlot_get, if_neg ne]
    have entries (k : Slot) : ((s.takeSlot i).absorbFailed i j).entries[k] = if k = j then s.entries[j].freed else if k = i then
        Entry.absorbPredecessor { s.entries[i] with state := .committing, attempts := 0 } s.entries[j] else s.entries[k] := by
      rw [State.absorbFailed, ati, atj, State.freeEntry_get, State.setEntry_get, State.setEntry_get, if_neg ne, atj]
      split_ifs with _ hk
      · rfl
      · rfl
      · rw [s.takeSlot_get, if_neg hk]
    have newi := entries i
    rw [if_neg ne.symm, if_pos rfl] at newi
    refine ⟨_, rfl, ?_, ?_, ?_, fun o => ?_, ?_, fun k hi hj => ?_⟩
    · simp only [State.holdCommit, State.absorbFailed, State.freeEntry, State.takeSlot, State.setEngine, State.setQueue, State.setEntry,
        head, List.tail_cons]
    · simp only [State.holdCommit, State.setEngine, newi, Entry.absorbPredecessor]
    · simp only [State.holdCommit, State.setEngine, newi, Entry.absorbPredecessor]
    · simp only [State.holdCommit, State.setEngine, newi, Entry.absorbPredecessor, mergeImage, Fin.getElem_fin, Vector.getElem_ofFn]
    · show ((s.takeSlot i).absorbFailed i j).entries[j] = _
      rw [entries, if_pos rfl, Entry.freed_eq]
    · show ((s.takeSlot i).absorbFailed i j).entries[k] = _
      rw [entries, if_neg hj, if_neg hi]

end Sys2Proof.Machine
end

section
/-! PROOFS. The commands of the staging table at the management port (O43, O44). -/

namespace Sys2Proof.Machine

/-! ### A command that the idle unit takes (R185, R187) -/

theorem State.writeCommand_admitted {s : State} (h : s.AdmitsCommand) {c : MgmtCommand} (ok : acceptsMode c s.control.mode = true)
    (owner : State → State) : s.writeCommand c owner = (owner (s.noteCommand (some c))).wrote cmdAddr := by
  obtain ⟨reset, maddr, idle⟩ := h
  have answers : s.portAnswers = true := by simp [State.portAnswers, reset, maddr]
  simp only [State.writeCommand, State.onPort, answers, if_true, State.runCommand, idle, Bool.false_eq_true, if_false, ok]

/-- The record that an ended command leaves in the unit (R187). -/
def endedCommand (c : MgmtCommand) (r : CmdResult) (detail : Nat) : CommandUnit :=
  { busy := false, last := some c, result := r, detail := detail, overrun := false }

/-! ### SYNC (R131) -/

theorem State.failedCount_congr {s t : State} (h : ∀ i : Slot, t.entries[i].state = .failed ↔ s.entries[i].state = .failed) :
    t.failedCount = s.failedCount := by
  have same : ∀ i ∈ List.finRange 16, (t.entries[i].state == .failed) = (s.entries[i].state == .failed) := fun i _ =>
    Bool.eq_iff_iff.mpr (by rw [beq_iff_eq, beq_iff_eq, h i])
  exact congrArg List.length (List.filter_congr same)

theorem State.failedCount_eq_zero {s : State} : s.failedCount = 0 ↔ ∀ i : Slot, s.entries[i].state ≠ .failed := by
  rw [State.failedCount, List.length_eq_zero_iff, State.slotsWhere_eq_nil]
  exact forall_congr' fun i => beq_eq_false_iff_ne

theorem State.mem_syncSlots {s : State} {i : Slot} :
    i ∈ s.syncSlots ↔ s.entries[i].state = .sealed ∨ s.entries[i].state = .committing := by
  simp only [State.syncSlots, State.mem_slotsWhere, Bool.or_eq_true, beq_iff_eq]

/-- The SYNC record and the command unit, which the end of SYNC's acceptance leaves (R131). -/
def State.syncOutcome (s : State) : SyncRecord × CommandUnit :=
  if s.failedCount ≠ 0 then (.idle s.failedCount, endedCommand .sync .failed s.failedCount)
  else if s.syncSlots = [] then (.idle 0, endedCommand .sync .done 0)
  else (.waiting (s.syncSlots.map s.pairOf) 0, { busy := true, last := some .sync, result := .busy, detail := 0, overrun := false })

theorem State.awaitSync_eq {s : State} (last : s.command.last = some .sync) (overrun : s.command.overrun = false) :
    s.awaitSync = { s with syncRecord := s.syncOutcome.1, command := s.syncOutcome.2 } := by
  unfold State.awaitSync State.syncOutcome
  split
  · simp only [State.endCommand, State.setCommand, State.setSync, endedCommand, last, overrun]
  split
  · simp only [State.finish, State.endCommand, State.setCommand, State.setSync, endedCommand, last, overrun]
  · simp only [State.beginLong, State.setCommand, State.setSync, last, overrun]

/-- What sealing every OPEN entry does to the state of an entry. -/
theorem State.sealOpen_state (s : State) (i : Slot) : (s.sealSlots s.openSlots).entries[i].state =
    if s.entries[i].state = .opened then .sealed else s.entries[i].state := by
  rw [State.sealOpen_get]
  split <;> rfl

theorem State.sealOpen_generation (s : State) (i : Slot) :
    (s.sealSlots s.openSlots).entries[i].generation = s.entries[i].generation := by
  rw [State.sealOpen_get]
  split <;> rfl

theorem State.sealOpen_failedCount (s : State) : (s.sealSlots s.openSlots).failedCount = s.failedCount := by
  refine State.failedCount_congr fun i => ?_
  rw [State.sealOpen_state]
  split
  · rename_i h
    rw [h]
    simp
  · rfl

/-- Once the OPEN entries are sealed, SYNC waits on every entry in use, when none is FAILED. -/
theorem State.mem_sealOpen_syncSlots {s : State} (noFailed : ∀ i : Slot, s.entries[i].state ≠ .failed) {i : Slot} :
    i ∈ (s.sealSlots s.openSlots).syncSlots ↔ s.entries[i].state ≠ .free := by
  rw [State.mem_syncSlots, State.sealOpen_state]
  have := noFailed i
  cases state : s.entries[i].state <;> simp_all

/-- Settles O43: the OPEN entries are sealed first, and what is left decides. -/
theorem syncSealsAndWaits : Obligations.SyncSealsAndWaits := by
  unfold Obligations.SyncSealsAndWaits
  intro s admits running
  let u := s.noteCommand (some .sync)
  let v := u.sealSlots u.openSlots
  have command : v.command = u.command := by simp [v]
  have run : exec .sync s = .next ({ v with syncRecord := v.syncOutcome.1, command := v.syncOutcome.2 }.wrote cmdAddr) := by
    rw [← State.awaitSync_eq (by rw [command]; rfl) (by rw [command]; rfl)]
    exact congrArg _ (State.writeCommand_admitted admits (by simp [acceptsMode, running]) _)
  have count : v.failedCount = s.failedCount := u.sealOpen_failedCount
  refine ⟨_, u.sealingOrder u.openSlots, run, ?_, u.nodup_sealingOrder u.nodup_openSlots, fun i => ?_,
    sortSlots_strict _ u.nodup_openSlots, fun i => u.sealOpen_get i, fun n failed => ?_, fun free => ?_, fun noFailed used => ?_⟩
  · show State.wrote { v with syncRecord := v.syncOutcome.1, command := v.syncOutcome.2 } cmdAddr = _
    rw [show v = { u with entries := v.entries, commitQueue := u.commitQueue ++ u.sealingOrder u.openSlots } from
      u.sealOpen_queue ▸ u.sealSlots_eq _]
    rfl
  · rw [State.mem_sealingOrder, State.mem_openSlots]
    rfl
  · have outcome : v.syncOutcome = (.idle (n + 1), endedCommand .sync .failed (n + 1)) := by
      rw [State.syncOutcome, count, failed, if_pos (by omega)]
    exact ⟨congrArg Prod.fst outcome, congrArg Prod.snd outcome⟩
  · have noFailed (i : Slot) : s.entries[i].state ≠ .failed := by rw [free i]; decide
    have none : v.syncSlots = [] :=
      List.eq_nil_iff_forall_not_mem.mpr fun i h => (State.mem_sealOpen_syncSlots (s := u) noFailed).mp h (free i)
    have outcome : v.syncOutcome = (.idle 0, endedCommand .sync .done 0) := by
      rw [State.syncOutcome, count, State.failedCount_eq_zero.mpr noFailed, if_neg (by simp), if_pos none]
    exact ⟨congrArg Prod.fst outcome, congrArg Prod.snd outcome⟩
  · have member {i : Slot} : i ∈ v.syncSlots ↔ s.entries[i].state ≠ .free :=
      State.mem_sealOpen_syncSlots (s := u) (State.failedCount_eq_zero.mp noFailed)
    obtain ⟨i, used⟩ := used
    have outcome : v.syncOutcome = (.waiting (v.syncSlots.map v.pairOf) 0,
        { busy := true, last := some .sync, result := .busy, detail := 0, overrun := false }) := by
      rw [State.syncOutcome, count, noFailed, if_neg (by simp), if_neg (List.ne_nil_of_mem (member.mpr used))]
    refine ⟨congrArg Prod.snd outcome, v.syncSlots.map v.pairOf, congrArg Prod.fst outcome,
      (v.nodup_slotsWhere _).map v.pairOf_injective, fun p => ?_⟩
    rw [State.mem_map_pairOf, member, u.sealOpen_generation]
    rfl

/-! ### RETRY_ENTRY and DISCARD_ENTRY (R25, R26) -/

theorem State.argSlot_eq_none {s : State} (h : 16 ≤ (s.port.args[0]).toNat) : s.argSlot = none := dif_neg (not_lt.mpr h)

theorem State.argSlot_eq_some {s : State} {i : Slot} (h : (s.port.args[0]).toNat = i.val) : s.argSlot = some i := by
  have small : s.arg 0 < 16 := by rw [State.arg]; exact h ▸ i.isLt
  rw [State.argSlot, dif_pos small]
  exact congrArg some (Fin.ext h)

theorem State.hasSuccessor_eq_true {s : State} {i j : Slot} {page : Nat} (hi : s.entries[i].page = some page)
    (hj : s.entries[j].page = some page) (absorbing : s.entries[j].IsAbsorbing) : s.hasSuccessor i = true := by
  rw [State.hasSuccessor, hi, Option.bind_some, Option.isSome_iff_ne_none]
  exact fun none => State.absorbingSlot_eq_none.mp none j hj absorbing

theorem State.hasSuccessor_eq_false_of {s : State} {i : Slot}
    (alone : ∀ j : Slot, s.entries[j].page = s.entries[i].page → ¬ s.entries[j].IsAbsorbing) : s.hasSuccessor i = false := by
  rw [State.hasSuccessor]
  cases page : s.entries[i].page with
  | none => rfl
  | some p =>
    rw [Option.bind_some, State.absorbingSlot_eq_none.mpr fun j hj => alone j (hj.trans page.symm)]
    rfl

/-- Settles O44: the tables of R25 and R26. -/
theorem retryAndDiscardOfAFailedEntry : Obligations.RetryAndDiscardOfAFailedEntry := by
  unfold Obligations.RetryAndDiscardOfAFailedEntry
  intro s admits ended
  have retry (running : s.control.mode = .running) :
      exec .retryEntry s = .next ((s.noteCommand (some .retryEntry)).retryEntry.wrote cmdAddr) :=
    congrArg _ (State.writeCommand_admitted admits (by simp [acceptsMode, running]) _)
  have discard (mode : s.control.mode = .running ∨ s.control.mode = .drained ∨ s.control.mode = .halted) :
      exec .discardEntry s = .next ((s.noteCommand (some .discardEntry)).discardEntry.wrote cmdAddr) :=
    congrArg _ (State.writeCommand_admitted admits (by simpa [acceptsMode, or_assoc] using mode) _)
  refine ⟨fun beyond => ?_, fun i arg => ?_⟩
  · have none (c : MgmtCommand) : (s.noteCommand (some c)).argSlot = none := State.argSlot_eq_none beyond
    refine ⟨fun running => ?_, fun mode => ?_⟩
    · rw [retry running, State.retryEntry, none]
      rfl
    · rw [discard mode, State.discardEntry, none]
      rfl
  · have slot (c : MgmtCommand) : (s.noteCommand (some c)).argSlot = some i := State.argSlot_eq_some arg
    refine ⟨fun running failed alone => ?_, fun running refused => ?_, fun mode => ⟨fun failed => ?_, fun notFailed => ?_⟩⟩
    · have none : (s.noteCommand (some .retryEntry)).hasSuccessor i = false :=
        State.hasSuccessor_eq_false_of fun j hj h => h.elim (alone j hj).1 (alone j hj).2
      rw [retry running, State.retryEntry, slot]
      simp only
      rw [if_neg (by rw [none]; simpa using failed)]
      rfl
    · have refused : (s.noteCommand (some .retryEntry)).entries[i].state ≠ .failed ∨
          (s.noteCommand (some .retryEntry)).hasSuccessor i = true := by
        refine refused.imp id ?_
        rintro ⟨j, page, hi, hj, absorbing⟩
        exact State.hasSuccessor_eq_true hi hj absorbing
      rw [retry running, State.retryEntry, slot]
      simp only
      rw [if_pos refused]
      rfl
    · rw [discard mode, State.discardEntry, slot]
      simp only
      rw [if_neg (by simpa using failed)]
      rfl
    · rw [discard mode, State.discardEntry, slot]
      simp only
      rw [if_pos (by simpa using notFailed)]
      rfl

end Sys2Proof.Machine
end

section
/-! PROOFS. The bytes of a configuration record and of the page image that holds it (R182, 12.2), and WRITE_CONFIG (O46). -/

namespace Sys2Proof.Machine

/-! ### Fields behind the first fields -/

theorem at8_append_right (l l' : List Byte) (i : Nat) : at8 (l ++ l') (l.length + i) = at8 l' i := by
  rw [at8, List.getD_append_right _ _ _ _ (Nat.le_add_right _ _), Nat.add_sub_cancel_left, at8]

theorem at16_append_right (l l' : List Byte) (i : Nat) : at16 (l ++ l') (l.length + i) = at16 l' i := by
  rw [at16, Nat.add_assoc, at8_append_right, at8_append_right, at16]

theorem at32_append_right (l l' : List Byte) (i : Nat) : at32 (l ++ l') (l.length + i) = at32 l' i := by
  rw [at32, Nat.add_assoc, at16_append_right, at16_append_right, at32]

theorem rawRegionAt_append_right (l l' : List Byte) (i : Nat) : rawRegionAt (l ++ l') (l.length + i) = rawRegionAt l' i := by
  simp only [rawRegionAt, Nat.add_assoc, at16_append_right, at8_append_right]

/-! ### What a field's bytes spell -/

theorem at16_of_bytes16 (x : BitVec 16) (l : List Byte) : at16 (bytes16 x ++ l) 0 = x := by
  show x.extractLsb' 8 8 ++ x.extractLsb' 0 8 = x
  rw [BitVec.extractLsb'_append_extractLsb'_eq_extractLsb' (by omega), BitVec.extractLsb'_eq_self]

theorem at32_of_bytes32 (x : BitVec 32) (l : List Byte) : at32 (bytes32 x ++ l) 0 = x := by
  show (x.extractLsb' 24 8 ++ x.extractLsb' 16 8) ++ (x.extractLsb' 8 8 ++ x.extractLsb' 0 8) = x
  rw [BitVec.extractLsb'_append_extractLsb'_eq_extractLsb' (by omega), BitVec.extractLsb'_append_extractLsb'_eq_extractLsb' (by omega),
    BitVec.extractLsb'_append_extractLsb'_eq_extractLsb' (by omega), BitVec.extractLsb'_eq_self]

theorem RawRegion.length_bytes (r : RawRegion) : r.bytes.length = 6 := rfl

theorem rawRegionAt_bytes (r : RawRegion) (l : List Byte) : rawRegionAt (r.bytes ++ l) 0 = r := by
  have first : at16 (r.bytes ++ l) 0 = r.first := at16_of_bytes16 r.first _
  have last : at16 (r.bytes ++ l) 2 = r.last := at16_of_bytes16 r.last ([r.mode, r.flags] ++ l)
  cases r
  simp only [rawRegionAt, first, last]
  rfl

/-- The descriptors of a list lie six bytes apart. -/
theorem rawRegionAt_flatMap {rs : List RawRegion} {n : Nat} (h : n < rs.length) (l : List Byte) :
    rawRegionAt (rs.flatMap RawRegion.bytes ++ l) (6 * n) = rs[n] := by
  induction rs generalizing n with
  | nil => cases h
  | cons r rs ih =>
    rw [List.flatMap_cons, List.append_assoc]
    cases n with
    | zero => exact rawRegionAt_bytes r _
    | succ n =>
      rw [Nat.mul_succ, Nat.add_comm, ← r.length_bytes, rawRegionAt_append_right, r.length_bytes]
      exact ih (Nat.lt_of_succ_lt_succ h)

/-! ### The image of a record -/

theorem RecordFields.length_bytes (f : RecordFields) : f.bytes.length = 30 := rfl

theorem length_flatMap_bytes (rs : List RawRegion) : (rs.flatMap RawRegion.bytes).length = 6 * rs.length := by
  induction rs with
  | nil => rfl
  | cons r rs ih => rw [List.flatMap_cons, List.length_append, r.length_bytes, ih, List.length_cons]; omega

theorem length_recordBody (f : RecordFields) (rs : Vector RawRegion 8) : (recordBody f rs).length = 78 := by
  rw [recordBody, List.length_append, f.length_bytes, length_flatMap_bytes, Vector.length_toList]

theorem ConfigRecord.length_bytes (r : ConfigRecord) : r.bytes.length = 82 := by
  rw [ConfigRecord.bytes, List.length_append, length_recordBody]
  rfl

theorem recordImage_getElem (r : ConfigRecord) (o : Nat) (h : o < 512) : (recordImage r)[o] = r.bytes.getD o 0xFF#8 :=
  Vector.getElem_ofFn h

theorem recordImage_toList (r : ConfigRecord) : (recordImage r).toList = r.bytes ++ List.replicate 430 0xFF#8 := by
  refine List.ext_getElem (by rw [Vector.length_toList, List.length_append, r.length_bytes, List.length_replicate]) fun o ho _ => ?_
  have inPage : o < 512 := Vector.length_toList (xs := recordImage r) ▸ ho
  rw [Vector.getElem_toList, recordImage_getElem r o inPage, List.getElem_append, List.getD_eq_getElem?_getD]
  split
  · rw [List.getElem?_eq_getElem ‹_›, Option.getD_some]
  · rw [List.getElem?_eq_none (by omega), List.getElem_replicate, Option.getD_none]

theorem recordImage_beyond (r : ConfigRecord) {o : Fin 512} (h : 82 ≤ o.val) : (recordImage r)[o] = 0xFF#8 := by
  rw [Fin.getElem_fin, recordImage_getElem, List.getD_eq_getElem?_getD, List.getElem?_eq_none (by rw [r.length_bytes]; exact h),
    Option.getD_none]

theorem recordImage_fields (r : ConfigRecord) {o : Fin 512} (h : o.val < 30) : (recordImage r)[o] = at8 r.fields.bytes o.val := by
  have inFields : o.val < r.fields.bytes.length := h
  rw [Fin.getElem_fin, recordImage_getElem, ConfigRecord.bytes, recordBody, List.append_assoc, at8,
    List.getD_append _ _ _ _ inFields, List.getD_eq_getElem _ _ inFields, List.getD_eq_getElem _ _ inFields]

theorem recordImage_region (r : ConfigRecord) (n : RegionIndex) : rawRegionAt (recordImage r).toList (30 + 6 * n.val) = r.regions[n] := by
  rw [recordImage_toList, ConfigRecord.bytes, recordBody, List.append_assoc, List.append_assoc, ← r.fields.length_bytes,
    rawRegionAt_append_right, rawRegionAt_flatMap (by rw [Vector.length_toList]; exact n.isLt), Vector.getElem_toList]
  rfl

theorem recordImage_crc (r : ConfigRecord) : at32 (recordImage r).toList 78 = r.crc := by
  rw [recordImage_toList, ConfigRecord.bytes, List.append_assoc, ← length_recordBody r.fields r.regions]
  exact (at32_append_right _ _ 0).trans (at32_of_bytes32 _ _)

theorem recordImage_body (r : ConfigRecord) : (recordImage r).toList.take 78 = recordBody r.fields r.regions := by
  rw [recordImage_toList, ConfigRecord.bytes, List.append_assoc, List.take_left' (length_recordBody _ _)]

/-! ### WRITE_CONFIG (R182) -/

theorem State.shadowOk_iff {s : State} : s.shadowOk = true ↔ s.shadow.fields.rangeOk = true ∧ s.shadow.fields.orderOk = true ∧
    s.shadow.fields.windowOk (s.sequencer.deviceSize.getD 0) = true := by
  rw [State.shadowOk, Bool.and_eq_true, Bool.and_eq_true, and_assoc]

/-- The fields that an accepted WRITE_CONFIG changes (R182). -/
theorem State.stageConfig_eq (s : State) (i : Slot) : s.stageConfig i = { s with
    entries := (s.stageConfig i).entries
    commitQueue := s.commitQueue ++ [i]
    shadow := (s.stageConfig i).shadow
    sequencer := { s.sequencer with writeTarget := some s.sequencer.nextTarget }
    command := { s.command with busy := true, result := .busy, detail := 0 } } := by
  unfold State.stageConfig
  generalize recordImage s.nextRecord = image
  generalize s.nextRecord = record
  rfl

/-- Settles O46: the rows of R182, and the image field by field. -/
theorem writeConfigStagesTheRecord : Obligations.WriteConfigStagesTheRecord := by
  unfold Obligations.WriteConfigStagesTheRecord
  intro s pages sequence admits running size loaded good refused
  let u := s.noteCommand (some .writeConfig)
  have run : exec .writeConfig s = .next (u.writeConfigCommand.wrote cmdAddr) :=
    congrArg _ (State.writeCommand_admitted admits (by simp [acceptsMode, running]) _)
  have shadowOk : u.shadowOk = true ↔ good := by
    rw [State.shadowOk_iff, show u.sequencer.deviceSize = some pages from size]
    rfl
  have last : u.sequencer.loadedSequence = some (BitVec.allOnes 32) ↔ sequence = 0xFFFFFFFF#32 := by
    rw [show u.sequencer.loadedSequence = some sequence from loaded, Option.some.injEq]
    rfl
  rw [State.writeConfigCommand] at run
  refine ⟨fun bad => ?_, fun ok full => ?_, fun ok more used => ?_, fun i ok more free lowest => ?_⟩
  · rw [if_pos (by rwa [← Bool.not_eq_true, shadowOk])] at run
    exact run
  · rw [if_neg (by rw [shadowOk.mpr ok]; decide), if_pos (last.mpr full)] at run
    exact run
  · rw [if_neg (by rw [shadowOk.mpr ok]; decide), if_neg (mt last.mp more),
      show u.freeSlot = none from State.freeSlot_eq_none.mpr used] at run
    exact run
  · rw [if_neg (by rw [shadowOk.mpr ok]; decide), if_neg (mt last.mp more),
      show u.freeSlot = some i from State.freeSlot_eq_some.mpr ⟨free, lowest⟩] at run
    let image := recordImage u.nextRecord
    let staged : Entry := { s.entries[i].allocated .sealed (copyPage (s.sequencer.deviceSize.getD 0) s.sequencer.nextTarget) .config s.now with
      buffer := image, written := wholePage, valid := wholePage }
    let t := (u.stageConfig i).wrote cmdAddr
    have entries (j : Slot) : t.entries[j] = if j = i then staged else s.entries[j] := s.setEntry_get i j staged
    have here : t.entries[i] = staged := by rw [entries, if_pos rfl]
    have fields : u.nextRecord.fields = { s.shadow.fields with magic := magicValue, version := 1#8, sequence := sequence + 1#32 } := by
      show u.nextFields = _
      rw [State.nextFields, show u.sequencer.loadedSequence = some sequence from loaded]
      rfl
    have buffer : t.entries[i].buffer = image := by rw [here]
    refine ⟨t, run, (congrArg (State.wrote · cmdAddr) (u.stageConfig_eq i)).trans rfl, fun j hj => by rw [entries, if_neg hj], by rw [here]; rfl, by rw [here]; rfl, by rw [here]; rfl, ?_,
      by rw [here], by rw [here], by rw [here]; rfl, ?_, fun o ho => ?_, fun o ho => ?_, fun n => ?_, ?_, ?_⟩
    · rw [here]
      show some (copyPage (s.sequencer.deviceSize.getD 0) s.sequencer.nextTarget) = _
      rw [size, Option.getD_some, Sequencer.nextTarget]
      split <;> rfl
    · show { s.shadow.fields with sequence := u.nextRecord.fields.sequence } = _
      rw [fields]
    · rw [buffer, recordImage_beyond _ ho]
    · rw [buffer, recordImage_fields _ ho, fields]
    · rw [buffer, recordImage_region]
      simp [u, State.nextRecord, State.imageRegions]
    · rw [buffer, recordImage_crc, recordImage_body]
      rfl
    · rw [buffer, recordImage_body]
      rfl

end Sys2Proof.Machine
end

section
/-! PROOFS. The tick, the resets and the state after power-on (O3, O4, O5). -/

namespace Sys2Proof.Machine

/-! ### What falls on a tick (1.6) -/

theorem State.mem_tickCommands {s : State} {c : Instr} :
    c ∈ s.tickCommands ↔ c ∈ s.entryExpiries ∨ c ∈ s.discardExpiries ∨ c ∈ s.linkExpiries := by
  rw [State.tickCommands, arrange, List.mem_insertionSort, List.mem_append, List.mem_append, or_assoc]

theorem endsNow_iff {t : Option Nat} : endsNow t = true ↔ t = some 1 := beq_iff_eq

theorem State.mem_discardExpiries {s : State} {c : Instr} :
    c ∈ s.discardExpiries ↔ ∃ d : DttIndex, s.dtt[d].discard = some 1 ∧ c = .discardTimerExpiry d := by
  simp only [State.discardExpiries, List.mem_filterMap, List.mem_finRange, true_and, Option.ite_none_right_eq_some, endsNow_iff,
    Option.some.injEq, eq_comm (b := c)]

theorem State.mem_entryExpiries {s : State} {c : Instr} : c ∈ s.entryExpiries ↔ s.entryTimersRun = true ∧ ∃ i : Slot,
    (s.entries[i].idleTimer = some 1 ∧ c = .idleTimerExpiry i) ∨ (s.entries[i].ageTimer = some 1 ∧ c = .openAgeTimerExpiry i) := by
  have one (p : Prop) [Decidable p] (d : Instr) : c ∈ (if p then [d] else []) ↔ p ∧ c = d := by split <;> simp [*]
  cases run : s.entryTimersRun
  · simp only [State.entryExpiries, run, Bool.false_eq_true, if_false, List.not_mem_nil, false_and]
  · simp only [State.entryExpiries, run, if_true, List.mem_flatMap, List.mem_finRange, true_and, List.mem_append, one, endsNow_iff]

theorem State.mem_linkExpiries {s : State} {c : Instr} : c ∈ s.linkExpiries ↔
    ((s.link.operationRuns && reached s.operationLimit s.link.opTimer) = true ∧ c = .operationTimerExpiry) ∨
    (s.link.suspendWait = some 99 ∧ c = .suspendWaitTimerExpiry) ∨ (s.link.resetWait = some 999 ∧ c = .resetWaitTimerExpiry) ∨
    (s.link.pollTimer = some 1 ∧ c = .pollTime) := by
  have one (p : Prop) [Decidable p] (d : Instr) : c ∈ (if p then [d] else []) ↔ p ∧ c = d := by split <;> simp [*]
  simp only [State.linkExpiries, List.mem_append, one, endsNow_iff, beq_iff_eq, or_assoc]

theorem State.idleExpiry_falls {s : State} {i : Slot} :
    .idleTimerExpiry i ∈ s.tickCommands ↔ s.entryTimersRun = true ∧ s.entries[i].idleTimer = some 1 := by
  simp [State.mem_tickCommands, State.mem_entryExpiries, State.mem_discardExpiries, State.mem_linkExpiries]

theorem State.ageExpiry_falls {s : State} {i : Slot} :
    .openAgeTimerExpiry i ∈ s.tickCommands ↔ s.entryTimersRun = true ∧ s.entries[i].ageTimer = some 1 := by
  simp [State.mem_tickCommands, State.mem_entryExpiries, State.mem_discardExpiries, State.mem_linkExpiries]

theorem State.discardExpiry_falls {s : State} {d : DttIndex} :
    .discardTimerExpiry d ∈ s.tickCommands ↔ s.dtt[d].discard = some 1 := by
  simp [State.mem_tickCommands, State.mem_entryExpiries, State.mem_discardExpiries, State.mem_linkExpiries]

theorem State.operationExpiry_falls {s : State} :
    .operationTimerExpiry ∈ s.tickCommands ↔ (s.link.operationRuns && reached s.operationLimit s.link.opTimer) = true := by
  simp [State.mem_tickCommands, State.mem_entryExpiries, State.mem_discardExpiries, State.mem_linkExpiries]

theorem State.suspendExpiry_falls {s : State} : .suspendWaitTimerExpiry ∈ s.tickCommands ↔ s.link.suspendWait = some 99 := by
  simp [State.mem_tickCommands, State.mem_entryExpiries, State.mem_discardExpiries, State.mem_linkExpiries]

theorem State.resetExpiry_falls {s : State} : .resetWaitTimerExpiry ∈ s.tickCommands ↔ s.link.resetWait = some 999 := by
  simp [State.mem_tickCommands, State.mem_entryExpiries, State.mem_discardExpiries, State.mem_linkExpiries]

theorem State.poll_falls {s : State} : .pollTime ∈ s.tickCommands ↔ s.link.pollTimer = some 1 := by
  simp [State.mem_tickCommands, State.mem_entryExpiries, State.mem_discardExpiries, State.mem_linkExpiries]

theorem State.tick_entries_get (s : State) (i : Slot) :
    s.tick.entries[i] = if s.entryTimersRun then s.entries[i].tick else s.entries[i] := by
  simp only [State.tick]
  split
  · simp only [Fin.getElem_fin, Vector.getElem_map]
  · rfl

theorem State.tick_dtt_get (s : State) (d : DttIndex) : s.tick.dtt[d] = s.dtt[d].tick := by
  simp only [State.tick, Fin.getElem_fin, Vector.getElem_map]

/-- Settles O3: the tick counts each timer, and the commands that fall on it are the expiries alone. -/
theorem emptyQueueTicks : Obligations.EmptyQueueTicks := by
  unfold Obligations.EmptyQueueTicks
  intro s empty
  have pending : s.tick.pending = s.tickCommands := by rw [State.tick, empty]; rfl
  have runs (mode : s.control.mode = .running ∨ s.control.mode = .drain) : s.entryTimersRun = true := by
    simpa [State.entryTimersRun] using mode
  refine ⟨s.tick, by rw [step, empty], rfl, rfl, rfl, rfl, rfl, rfl, rfl, fun i n mode timer => ?_, fun i n mode timer => ?_,
    fun notRunning notDrain => ?_, fun d n timer => ?_, fun n timer state => ?_, fun notBusy notSuspending => ?_, fun n timer small => ?_,
    fun n timer small => ?_, fun n timer => ?_⟩
  · rw [s.tick_entries_get, if_pos (runs mode), Entry.tick, pending, State.idleExpiry_falls, timer]
    simp [countDown, runs mode]
  · rw [s.tick_entries_get, if_pos (runs mode), Entry.tick, pending, State.ageExpiry_falls, timer]
    simp [countDown, runs mode]
  · exact if_neg (by simp [State.entryTimersRun, notRunning, notDrain])
  · rw [s.tick_dtt_get, DttEntry.tick, pending, State.discardExpiry_falls, timer]
    simp [countDown]
  · have running : s.link.operationRuns = true := by simpa [Link.operationRuns] using state
    rw [pending, State.operationExpiry_falls]
    simp only [State.tick, Link.tick, timer, running, reached, countUp, if_true, Bool.true_and, Option.map_some, decide_eq_true_eq,
      true_and, Option.some.injEq, Bool.or_eq_true, Bool.or_eq_left_iff_imp]
    refine ⟨fun below => ⟨if_pos below, fun h => absurd h (by omega)⟩, fun beyond => ⟨if_neg (by omega), .inr beyond⟩⟩
  · have stopped : s.link.operationRuns = false := by simp [Link.operationRuns, notBusy, notSuspending]
    simp [State.tick, Link.tick, stopped]
  · rw [pending, State.suspendExpiry_falls, timer]
    simp [State.tick, Link.tick, countUp, timer, suspendWaitLimit, small]
  · rw [pending, State.resetExpiry_falls, timer]
    simp [State.tick, Link.tick, countUp, timer, resetWaitLimit, small]
  · rw [pending, State.poll_falls, timer]
    simp [State.tick, Link.tick, countDown, timer]

/-! ### The resets -/

/-- Settles O4: each reset sets its block's fields as its table lists them. -/
theorem resetsLeaveTheListedValues : Obligations.ResetsLeaveTheListedValues := by
  unfold Obligations.ResetsLeaveTheListedValues
  intro free
  have initial (e : Entry) (h : e = Entry.initial) : free e := by rw [h]; exact ⟨rfl, rfl, rfl, rfl, rfl, rfl, rfl, rfl, rfl, rfl, rfl, rfl⟩
  have dtt (d : DttIndex) : State.reset.dtt[d] = DttEntry.initial := Vector.getElem_replicate _
  refine ⟨fun pfail maddr s => ?_, fun s asserted => ?_, fun pfail maddr s asserted => ?_⟩
  · refine ⟨_, rfl, rfl, rfl, rfl, fun i => initial _ (s.poweredOn_get pfail maddr i), rfl, rfl, rfl, dtt, rfl,
      fun n => Vector.getElem_replicate _, rfl, rfl, ?_, rfl, rfl, rfl, rfl, rfl, rfl⟩
    show ∀ b : Fin 32, defaultAttnMask.getLsbD b.val = _
    decide
  · have run : exec .resetNAssertion s = .next s.resetNAsserted := congrArg _ (if_neg (by simp [asserted]))
    refine ⟨_, run, rfl, rfl, rfl, rfl, rfl, rfl, rfl, fun i => initial _ (s.resetNAsserted_get i), rfl, rfl, rfl, dtt, rfl, fun n => ?_,
      rfl, rfl, rfl, rfl, rfl, rfl⟩
    simp only [State.resetNAsserted, keepFrozen, Fin.getElem_fin, Vector.getElem_map]
  · exact congrArg _ (if_pos asserted)

/-! ### The state after power-on -/

theorem State.reset_entry (i : Slot) : State.reset.entries[i] = Entry.initial := Vector.getElem_replicate _

theorem State.reset_dtt (d : DttIndex) : State.reset.dtt[d] = DttEntry.initial := Vector.getElem_replicate _

theorem State.reset_free (i : Slot) : State.reset.entries[i].state = .free := congrArg Entry.state (State.reset_entry i)

theorem State.reset_page (i : Slot) : State.reset.entries[i].page = none := congrArg Entry.page (State.reset_entry i)

/-- Settles O5: after power-on every entry is FREE, every block has its initial value, and the device size is not known. -/
theorem resetStateMeetsTheLaws : Obligations.ResetStateMeetsTheLaws := by
  unfold Obligations.ResetStateMeetsTheLaws
  have used {p : Prop} (i : Slot) (h : State.reset.entries[i].state ≠ .free) : p := absurd (State.reset_free i) h
  refine ⟨State.stagingLaw_iff _ |>.mpr ⟨State.reset_lawful, ModeController.lawful_outside nofun nofun rfl⟩, nofun, ⟨?_, ?_, ?_⟩, ?_, ?_,
    ?_, ?_, ?_, ?_, ?_, .nil⟩
  · exact fun i _ _ hi => by rw [State.reset_page] at hi; cases hi
  · exact ⟨fun _ => ⟨fun i h => used i h, fun i _ h => used i h⟩, nofun⟩
  · refine ⟨fun i _ h => used i h, ?_, ?_, nofun, fun _ => rfl, fun _ h => absurd rfl h, fun _ => State.reset_free⟩
    · rintro (h | h | h | h) <;> cases h
    · rintro r (h | h) <;> cases h
  · exact fun i => by rw [State.reset_entry]; exact BitVec.zero_and
  · refine ⟨fun i h => ?_, nofun, nofun⟩
    rw [State.reset_free] at h
    cases h
  · exact fun i _ h => used i h
  · refine ⟨fun r => ?_, fun _ i _ h => absurd (congrArg DttEntry.state (State.reset_dtt i)) h⟩
    have none : (List.finRange 8).filter (fun i => State.reset.dtt[i].state != .free && State.reset.dtt[i].requester == some r) = [] :=
      List.filter_eq_nil_iff.mpr fun i _ => by rw [State.reset_dtt]; simp [DttEntry.initial]
    rw [State.heldBy, none]
    decide
  · refine ⟨fun i _ => State.reset_dtt i, fun i _ => by rw [State.reset_dtt]; rfl, fun i h => ?_, fun i _ h => ?_⟩
    · rw [State.reset_dtt] at h; cases h
    · rw [State.reset_dtt] at h; cases h
  · exact ⟨Nat.zero_le _, nofun, fun _ => rfl⟩
  · refine ⟨nofun, ?_, nofun⟩
    rintro (h | h | h | h | h | h | ⟨_, h⟩ | ⟨_, _, h⟩) <;> cases h

end Sys2Proof.Machine
end

section
/-! PROOFS. Reports to SYNC (R132), and the drain start (O34). -/

namespace Sys2Proof.Machine

/-! ### A report or a drop at the SYNC record (R132) -/

theorem State.SyncTakesReport.congr {s s' t t' : State} {p : WaitPair} {failed : Bool} (h : s.SyncTakesReport p failed t)
    (sync : s'.syncRecord = s.syncRecord) (command : s'.command = s.command) (sync' : t'.syncRecord = t.syncRecord)
    (command' : t'.command = t.command) : s'.SyncTakesReport p failed t' := by
  unfold State.SyncTakesReport at *
  rwa [sync, command, sync', command']

theorem State.syncReport_takes (s : State) (p : WaitPair) (failed : Bool) : s.SyncTakesReport p failed (s.syncReport p failed) := by
  unfold State.syncReport
  split
  · rename_i n idle
    refine ⟨fun _ h => ⟨h, rfl⟩, fun ws n waiting => ?_⟩
    rw [idle] at waiting
    cases waiting
  · rename_i ws n waiting
    refine ⟨fun _ idle => by (rw [waiting] at idle; cases idle), fun ws' n' h => ?_⟩
    injection waiting.symm.trans h with hws hn
    subst hws hn
    have more : (ws.filter (· != p) = []) ↔ ∀ q ∈ ws, q = p := by simp [List.filter_eq_nil_iff]
    have same : ws.filter (· != p) = ws.filter (· ≠ p) := List.filter_congr fun q _ => by simp [bne, beq_eq_decide]
    by_cases mem : p ∈ ws
    · have contains : ws.contains p = true := by simpa using mem
      by_cases last : ∀ q ∈ ws, q = p
      · rw [if_pos contains, if_pos (more.mpr last)]
        exact ⟨fun h => absurd mem h, fun _ ⟨q, hq, ne⟩ => absurd (last q hq) ne, fun _ _ => ⟨rfl, rfl⟩⟩
      · rw [if_pos contains, if_neg (mt more.mp last), same]
        exact ⟨fun h => absurd mem h, fun _ _ => ⟨rfl, rfl⟩, fun _ h => absurd h last⟩
    · have contains : ¬ ws.contains p = true := by simpa using mem
      rw [if_neg contains]
      exact ⟨fun _ => ⟨rfl, rfl⟩, fun h => absurd h mem, fun h => absurd h mem⟩

/-! ### The drop of queued refreshes (R155, R156) -/

theorem State.dropEntry_sync (s : State) (i : Slot) : s.SyncTakesReport (s.pairOf i) false (s.dropEntry i) :=
  (State.syncReport_takes _ _ _).congr (by simp) (by simp) rfl rfl

theorem State.dropEntry_refresh (s : State) (i : Slot) : (s.dropEntry i).refresh =
    { s.refresh with records := s.refresh.records.modify (sectorOf (s.entries[i].page.getD 0)) RefreshRecord.owed } := by
  simp [State.dropEntry, State.modifyRecord, State.setRefresh]

theorem State.dropEntry_queue (s : State) (i : Slot) : (s.dropEntry i).commitQueue = s.commitQueue.filter (· != i) :=
  congrArg Table.queue (s.dropEntry_table i)

theorem State.dropEntry_pairOf (s : State) (i j : Slot) : (s.dropEntry i).pairOf j = s.pairOf j := by
  have generation : (s.dropEntry i).entries[j].generation = s.entries[j].generation := by
    rw [s.dropEntry_get]
    split
    · rename_i h
      rw [h]
      rfl
    · rfl
  rw [State.pairOf, generation, State.pairOf]

theorem State.foldl_dropEntry_queue (l : List Slot) (t : State) :
    (l.foldl State.dropEntry t).commitQueue = t.commitQueue.filter fun j => j ∉ l := by
  induction l generalizing t with
  | nil => simp
  | cons i l ih =>
    rw [List.foldl_cons, ih, t.dropEntry_queue, List.filter_filter]
    exact List.filter_congr fun j _ => by by_cases h : j = i <;> simp [h]

theorem State.foldl_dropEntry_get {l : List Slot} (hl : l.Nodup) (t : State) (j : Slot) :
    (l.foldl State.dropEntry t).entries[j] = if j ∈ l then t.entries[j].freed else t.entries[j] := by
  induction l generalizing t with
  | nil => simp
  | cons i l ih =>
    obtain ⟨notin, hl⟩ := List.nodup_cons.mp hl
    rw [List.foldl_cons, ih hl, t.dropEntry_get]
    by_cases hj : j = i
    · subst hj
      rw [if_neg notin, if_pos rfl, if_pos List.mem_cons_self]
    · rw [if_neg hj]
      simp only [List.mem_cons, hj, false_or]

theorem State.foldl_dropEntry_scan (l : List Slot) (t : State) : (l.foldl State.dropEntry t).refresh.scan = t.refresh.scan ∧
    (l.foldl State.dropEntry t).refresh.records.length = t.refresh.records.length := by
  induction l generalizing t with
  | nil => exact ⟨rfl, rfl⟩
  | cons i l ih =>
    rw [List.foldl_cons, (ih _).1, (ih _).2, t.dropEntry_refresh]
    exact ⟨rfl, List.length_modify _ _ _⟩

/-- A sector is owed a step for each of its entries among those dropped. -/
theorem State.foldl_dropEntry_records {l : List Slot} (hl : l.Nodup) (t : State) (sector : Nat) :
    (l.foldl State.dropEntry t).refresh.records[sector]? = t.refresh.records[sector]?.map
      RefreshRecord.owed^[(l.filter fun i => sectorOf (t.entries[i].page.getD 0) = sector).length] := by
  induction l generalizing t with
  | nil => simp
  | cons i l ih =>
    obtain ⟨notin, hl⟩ := List.nodup_cons.mp hl
    have rest : (l.filter fun j => sectorOf ((t.dropEntry i).entries[j].page.getD 0) = sector) =
        l.filter fun j => sectorOf (t.entries[j].page.getD 0) = sector := by
      refine List.filter_congr fun j hj => ?_
      rw [t.dropEntry_get, if_neg (ne_of_mem_of_not_mem hj notin)]
    rw [List.foldl_cons, ih hl, rest, t.dropEntry_refresh, List.getElem?_modify, Option.map_eq_map, Option.map_map, List.filter_cons]
    by_cases here : sectorOf (t.entries[i].page.getD 0) = sector
    · simp only [here, decide_true, if_true, List.length_cons, Function.iterate_succ]
    · simp only [here, decide_false, Bool.false_eq_true, if_false]
      rfl

/-- A sector owed `k` steps: its cursor `k` places back, its pending flag set when there was one. -/
theorem RefreshRecord.owed_iterate (k : Nat) (r : RefreshRecord) : (RefreshRecord.owed^[k] r).count = r.count ∧
    (RefreshRecord.owed^[k] r).pending = (r.pending || decide (k ≠ 0)) ∧ ((RefreshRecord.owed^[k] r).cursor.val + k) % 64 = r.cursor.val := by
  induction k generalizing r with
  | zero => simp [Nat.mod_eq_of_lt r.cursor.isLt]
  | succ k ih =>
    obtain ⟨count, pending, cursor⟩ := ih r.owed
    rw [Function.iterate_succ_apply, count, pending]
    refine ⟨rfl, by simp [RefreshRecord.owed], ?_⟩
    have back : r.owed.cursor.val = (r.cursor.val + 63) % 64 := by
      show (r.cursor - 1).val = _
      rw [Fin.sub_def]
      show (64 - 1 + r.cursor.val) % 64 = _
      omega
    omega

theorem State.foldl_dropEntry_idle (l : List Slot) {t : State} {n : Nat} (idle : t.syncRecord = .idle n) :
    (l.foldl State.dropEntry t).syncRecord = .idle n ∧ (l.foldl State.dropEntry t).command = t.command := by
  induction l generalizing t with
  | nil => exact ⟨idle, rfl⟩
  | cons i l ih =>
    obtain ⟨sync, command⟩ := (t.dropEntry_sync i).1 n idle
    obtain ⟨sync', command'⟩ := ih sync
    exact ⟨sync', command'.trans command⟩

/-- A SYNC that waits loses the pair of every entry dropped, and ends when none is left (R132). -/
theorem State.foldl_dropEntry_sync (l : List Slot) {t : State} {ws : List WaitPair} {n : Nat} (waiting : t.syncRecord = .waiting ws n)
    (nonempty : ws ≠ []) :
    (ws.filter (fun p => p ∉ l.map t.pairOf) ≠ [] →
      (l.foldl State.dropEntry t).syncRecord = .waiting (ws.filter fun p => p ∉ l.map t.pairOf) n ∧
      (l.foldl State.dropEntry t).command = t.command) ∧
    (ws.filter (fun p => p ∉ l.map t.pairOf) = [] → (l.foldl State.dropEntry t).syncRecord = .idle 0 ∧
      (l.foldl State.dropEntry t).command = { t.command with busy := false, result := if n = 0 then .done else .failed, detail := n }) := by
  induction l generalizing t ws with
  | nil => simpa [nonempty] using waiting
  | cons i l ih =>
    obtain ⟨absent, more, last⟩ := (t.dropEntry_sync i).2 ws n waiting
    have pairs : l.map (t.dropEntry i).pairOf = l.map t.pairOf := List.map_congr_left fun j _ => t.dropEntry_pairOf i j
    have split : ws.filter (fun p => p ∉ (i :: l).map t.pairOf) =
        (ws.filter (· ≠ t.pairOf i)).filter fun p => p ∉ l.map t.pairOf := by
      rw [List.filter_filter]
      exact List.filter_congr fun p _ => by simp [Bool.and_comm]
    rw [split, List.foldl_cons]
    by_cases mem : t.pairOf i ∈ ws
    · by_cases only : ∀ p ∈ ws, p = t.pairOf i
      · obtain ⟨sync, command⟩ := last mem only
        have none : ws.filter (· ≠ t.pairOf i) = [] := List.filter_eq_nil_iff.mpr fun p hp => by simpa using only p hp
        obtain ⟨sync', command'⟩ := State.foldl_dropEntry_idle l sync
        rw [none]
        exact ⟨fun h => absurd rfl h, fun _ => ⟨sync', command'.trans command⟩⟩
      · have other : ∃ p ∈ ws, p ≠ t.pairOf i := by simpa using only
        obtain ⟨sync, command⟩ := more mem other
        obtain ⟨p, hp, ne⟩ := other
        have left : ws.filter (· ≠ t.pairOf i) ≠ [] := List.ne_nil_of_mem (List.mem_filter.mpr ⟨hp, by simpa using ne⟩)
        have rest := ih sync left
        rwa [pairs, command] at rest
    · obtain ⟨sync, command⟩ := absent mem
      have all : ws.filter (· ≠ t.pairOf i) = ws := List.filter_eq_self.mpr fun p hp => by
        simpa using ne_of_mem_of_not_mem hp mem
      have rest := ih (sync.trans waiting) nonempty
      rwa [pairs, command, ← all] at rest

/-! ### Drain start (R161) -/

theorem State.foldl_dropEntry_events (l : List Slot) (t : State) : (l.foldl State.dropEntry t).events = t.events := by
  induction l generalizing t with
  | nil => rfl
  | cons i l ih => rw [List.foldl_cons, ih]; simp

/-- The drops, and REFRESH_DROPPED where there was one (R156). -/
theorem State.dropRefresh_eq (t : State) : t.dropRefresh = { (t.slotsWhere Entry.droppable).foldl State.dropEntry t with
    events := if (t.slotsWhere Entry.droppable).length = 0 then t.events
      else t.events.append (.refreshDropped (t.slotsWhere Entry.droppable).length) none none none } := by
  simp only [State.dropRefresh, List.length_eq_zero_iff]
  split
  · rename_i none
    rw [none]
    rfl
  · rw [State.appendEvent, State.setEvents, State.foldl_dropEntry_events]

section
variable (t : State)

theorem State.mem_droppable {i : Slot} : i ∈ t.slotsWhere Entry.droppable ↔ t.entries[i].droppable = true := State.mem_slotsWhere

theorem State.dropRefresh_queue : t.dropRefresh.commitQueue = t.commitQueue.filter fun i => ¬ t.entries[i].droppable = true := by
  rw [State.dropRefresh_eq]
  refine (State.foldl_dropEntry_queue _ t).trans (List.filter_congr fun i _ => ?_)
  simp only [State.mem_droppable]

theorem State.dropRefresh_get (i : Slot) :
    t.dropRefresh.entries[i] = if t.entries[i].droppable = true then t.entries[i].freed else t.entries[i] := by
  rw [State.dropRefresh_eq]
  refine (State.foldl_dropEntry_get (t.nodup_slotsWhere _) t i).trans ?_
  simp only [State.mem_droppable]

theorem State.dropRefresh_scan :
    t.dropRefresh.refresh.scan = t.refresh.scan ∧ t.dropRefresh.refresh.records.length = t.refresh.records.length := by
  rw [State.dropRefresh_eq]
  exact State.foldl_dropEntry_scan _ t

theorem State.dropRefresh_records (sector : Nat) : t.dropRefresh.refresh.records[sector]? = t.refresh.records[sector]?.map
    RefreshRecord.owed^[((List.finRange 16).filter fun i =>
      t.entries[i].droppable = true ∧ sectorOf (t.entries[i].page.getD 0) = sector).length] := by
  have both : ((List.finRange 16).filter fun i => t.entries[i].droppable = true ∧ sectorOf (t.entries[i].page.getD 0) = sector) =
      (t.slotsWhere Entry.droppable).filter fun i => sectorOf (t.entries[i].page.getD 0) = sector := by
    rw [State.slotsWhere, List.filter_filter]
    exact List.filter_congr fun i _ => by simp [and_comm]
  rw [both, State.dropRefresh_eq]
  exact State.foldl_dropEntry_records (t.nodup_slotsWhere _) t sector

theorem State.dropRefresh_sync {ws : List WaitPair} {n : Nat} (waiting : t.syncRecord = .waiting ws n) (nonempty : ws ≠ [])
    {left : List WaitPair} (hleft : left = ws.filter fun p => ¬ (t.entries[p.slot].droppable = true ∧
      p.generation = t.entries[p.slot].generation)) :
    (left ≠ [] → t.dropRefresh.syncRecord = .waiting left n ∧ t.dropRefresh.command = t.command) ∧
    (left = [] → t.dropRefresh.syncRecord = .idle 0 ∧
      t.dropRefresh.command = { t.command with busy := false, result := if n = 0 then .done else .failed, detail := n }) := by
  have same : left = ws.filter fun p => p ∉ (t.slotsWhere Entry.droppable).map t.pairOf := by
    rw [hleft]
    exact List.filter_congr fun p _ => Bool.eq_iff_iff.mpr (by
      rw [decide_eq_true_iff, decide_eq_true_iff, State.mem_map_pairOf, State.mem_droppable, and_comm])
  rw [State.dropRefresh_eq, same]
  exact State.foldl_dropEntry_sync _ waiting nonempty

end

/-- An entry that drain start drops, as it stands before the OPEN entries are sealed (R155). -/
def Entry.Drops (e : Entry) : Prop := (e.state = .opened ∨ e.state = .sealed) ∧ e.origin = some .refresh ∧ e.written = 0#512

theorem Entry.droppable_iff_drops (e : Entry) : (if e.state = .opened then e.closed else e).droppable = true ↔ e.Drops := by
  rw [Entry.droppable_iff, Entry.Drops]
  split
  · rename_i opened
    simp [Entry.closed, opened]
  · rename_i notOpened
    simp [notOpened]

/-- The drain starts from a state that differs from `s` in its mode controller alone. -/
theorem exec_drainStart {s : State} {c : Instr} {cause : DrainCause} (running : s.control.mode = .running)
    (h : (c = .pfailAssertion ∧ s.resetAsserted = false ∧ s.control.pfail = false ∧ cause = .pfail) ∨
      (c = .deferredDrainStart ∧ s.control.pfail = true ∧ cause = .pfail) ∨
      (c = .reinitClaim ∧ s.control.reinitClaimed = true ∧ cause = .reinit)) :
    ∃ m : ModeController, exec c s = .next ((s.setControl m).drainStart cause) ∧
      (c ≠ .reinitClaim → m.pfail = true ∧ m.reinitPending = s.control.reinitPending) ∧
      (c = .reinitClaim → m.pfail = s.control.pfail ∧ m.reinitPending = true ∧ m.reinitClaimed = false) := by
  rcases h with ⟨rfl, reset, low, rfl⟩ | ⟨rfl, high, rfl⟩ | ⟨rfl, claimed, rfl⟩
  · refine ⟨{ s.control with pfail := true }, ?_, fun _ => ⟨rfl, rfl⟩, nofun⟩
    show Host.Outcome.next (if s.resetAsserted ∨ s.control.pfail then s else s.pfailAsserts) = _
    rw [if_neg (by simp [reset, low]), State.pfailAsserts, running]
    rfl
  · refine ⟨s.control, ?_, fun _ => ⟨high, rfl⟩, nofun⟩
    exact congrArg _ (if_pos ⟨running, high⟩)
  · refine ⟨{ s.control with reinitClaimed := false, reinitPending := true }, ?_, fun h => absurd rfl h, fun _ => ⟨rfl, rfl, rfl⟩⟩
    show Host.Outcome.next (if s.control.reinitClaimed then s.takeReinitClaim else s) = _
    rw [if_pos claimed, State.takeReinitClaim, running]

/-- Settles O34: the OPEN entries are sealed, then the droppable ones among all the SEALED entries are dropped. -/
theorem drainStartSealsAndDrops : Obligations.DrainStartSealsAndDrops := by
  unfold Obligations.DrainStartSealsAndDrops
  intro s c cause running starts dropped number begun
  obtain ⟨m, drain, pfail, claim⟩ := exec_drainStart running starts
  let u := (s.setControl m).drainBegun cause
  let v := u.sealSlots u.openSlots
  have run : exec c s = .next (v.dropRefresh.setLink s.link.endSuspension) := drain
  have entry (i : Slot) : v.entries[i] = if s.entries[i].state = .opened then s.entries[i].closed else s.entries[i] := u.sealOpen_get i
  have droppable (i : Slot) : v.entries[i].droppable = true ↔ dropped i := by rw [entry]; exact s.entries[i].droppable_iff_drops
  have page (i : Slot) : v.entries[i].page = s.entries[i].page := by rw [entry]; split <;> rfl
  have generation (i : Slot) : v.entries[i].generation = s.entries[i].generation := by rw [entry]; split <;> rfl
  have queue : v.commitQueue = s.commitQueue ++ u.sealingOrder u.openSlots := u.sealOpen_queue
  have refresh : v.refresh = s.refresh := by simp [v, u, State.drainBegun]
  have sync : v.syncRecord = s.syncRecord := by simp [v, u, State.drainBegun]
  have command : v.command = s.command := by simp [v, u, State.drainBegun]
  have events : v.events = begun := by simp [v, u, State.drainBegun, begun, State.appendEvent, State.setEvents]
  have control : v.control = { m with mode := .drain, drainCause := some cause } := by simp [v, u, State.drainBegun, State.setControl]
  clear_value v
  have after : (v.dropRefresh.setLink s.link.endSuspension).control = { m with mode := .drain, drainCause := some cause } := by
    simp [control]
  refine ⟨_, u.sealingOrder u.openSlots, run, congrArg ModeController.mode after, congrArg ModeController.drainCause after,
    fun h => ?_, fun h => ?_, u.nodup_sealingOrder u.nodup_openSlots, fun i => ?_, sortSlots_strict _ u.nodup_openSlots, ?_,
    fun i drop => ?_, fun i keep => ?_, ?_, ?_, ?_, fun pages sector r record => ?_, fun ws n waiting nonempty => ?_, ?_⟩
  · rw [after]
    exact pfail h
  · rw [after]
    exact claim h
  · rw [State.mem_sealingOrder, State.mem_openSlots]
    rfl
  · show v.dropRefresh.commitQueue = _
    rw [State.dropRefresh_queue, queue]
    exact List.filter_congr fun i _ => by simp only [droppable]
  · show v.dropRefresh.entries[i].state = _ ∧ v.dropRefresh.entries[i].generation = _
    rw [State.dropRefresh_get, if_pos ((droppable i).mpr drop)]
    exact ⟨rfl, generation i⟩
  · show v.dropRefresh.entries[i] = _
    rw [State.dropRefresh_get, if_neg (mt (droppable i).mp keep), entry]
    rfl
  · have count : (v.slotsWhere Entry.droppable).length = number :=
      congrArg List.length (List.filter_congr fun i _ => Bool.eq_iff_iff.mpr ((droppable i).trans decide_eq_true_iff.symm))
    show v.dropRefresh.events = _
    rw [State.dropRefresh_eq, count, events]
  · exact v.dropRefresh_scan.1.trans (congrArg Refresh.scan refresh)
  · exact v.dropRefresh_scan.2.trans (congrArg (fun r => r.records.length) refresh)
  · intro back
    have steps : ((List.finRange 16).filter fun i =>
        v.entries[i].droppable = true ∧ sectorOf (v.entries[i].page.getD 0) = sector).length = back := by
      refine congrArg List.length (List.filter_congr fun i _ => Bool.eq_iff_iff.mpr ?_)
      rw [decide_eq_true_iff, decide_eq_true_iff, droppable, page]
      refine and_congr_right fun drop => ?_
      obtain ⟨p, here⟩ := Option.isSome_iff_exists.mp (pages i drop)
      rw [here, Option.getD_some, Option.map_some, Option.some.injEq, sectorOf]
    refine ⟨RefreshRecord.owed^[back] r, ?_, r.owed_iterate back⟩
    exact (v.dropRefresh_records sector).trans (by rw [refresh, record, steps, Option.map_some])
  · intro left
    rw [← command]
    exact v.dropRefresh_sync (sync.trans waiting) nonempty (List.filter_congr fun p _ => by simp only [droppable, generation])
  · show Link.endSuspension s.link = _
    simp only [Link.endSuspension, Link.quiet, beq_iff_eq]
    rfl

end Sys2Proof.Machine
end

section
/-! SUPPORT. What the outcome of a commit does at the fences (R125, R126), at the refresh table (R149) and in the array (R52). -/

namespace Sys2Proof.Machine

/-! ### Fences that wait on a pair (R125) -/

theorem DttEntry.waitsOn_iff {d : DttEntry} {p : WaitPair} :
    d.waitsOn p = true ↔ d.state = .waiting ∧ d.kind = some .fence ∧ p ∈ d.waitSet.getD [] := by
  simp only [DttEntry.waitsOn, Bool.and_eq_true, beq_iff_eq, List.contains_iff_mem, and_assoc]

theorem DttEntry.dropPair_other {d : DttEntry} (h : d.state ≠ .waiting ∨ d.kind ≠ some .fence) (start : Option Nat) (p : WaitPair) :
    d.dropPair start p = d :=
  if_neg fun waits => h.elim (· (DttEntry.waitsOn_iff.mp waits).1) (· (DttEntry.waitsOn_iff.mp waits).2.1)

/-- A fence that waits loses the pair, and is READY with DONE when that was the last. -/
theorem DttEntry.dropPair_waiting {d : DttEntry} {ws : List WaitPair} (state : d.state = .waiting) (kind : d.kind = some .fence)
    (waitSet : d.waitSet = some ws) (start : Option Nat) (p : WaitPair) :
    (p ∉ ws → d.dropPair start p = d) ∧
    (p ∈ ws → (∀ q ∈ ws, q = p) →
      d.dropPair start p = { d with state := .ready, result := some .done, waitSet := none, discard := start }) ∧
    ((∃ q ∈ ws, q ≠ p) → d.dropPair start p = { d with waitSet := some (ws.filter (· ≠ p)) }) := by
  have waits : d.waitsOn p = true ↔ p ∈ ws := by simp [DttEntry.waitsOn_iff, state, kind, waitSet]
  have rest : (d.waitSet.getD []).filter (· != p) = ws.filter (· ≠ p) := by
    rw [waitSet, Option.getD_some]
    exact List.filter_congr fun q _ => by simp [bne, beq_eq_decide]
  have empty : ws.filter (· ≠ p) = [] ↔ ∀ q ∈ ws, q = p := by simp [List.filter_eq_nil_iff]
  unfold DttEntry.dropPair
  rw [rest]
  refine ⟨fun absent => if_neg (mt waits.mp absent), fun mem last => ?_, fun ⟨q, hq, ne⟩ => ?_⟩
  · rw [if_pos (waits.mpr mem), if_pos (empty.mpr last)]
  · split
    · exact if_neg fun none => ne (empty.mp none q hq)
    · rename_i notWaits
      have all : ws.filter (· ≠ p) = ws := List.filter_eq_self.mpr fun q hq => by
        simpa using ne_of_mem_of_not_mem hq (mt waits.mpr notWaits)
      rw [all, ← waitSet]

theorem State.reportCommitted_dtt (s : State) (p : WaitPair) (d : DttIndex) :
    (s.reportCommitted p).dtt[d] = s.dtt[d].dropPair s.discardStart p := by
  have same : (s.reportCommitted p).dtt = (s.fenceCommitted p).dtt := by simp [State.reportCommitted]
  rw [same, State.fenceCommitted]
  simp only [Fin.getElem_fin, Vector.getElem_map]

theorem State.reportCommitted_sync (s : State) (p : WaitPair) : s.SyncTakesReport p false (s.reportCommitted p) :=
  (State.syncReport_takes _ p false).congr (by simp) (by simp) rfl rfl

/-! ### Fences that wait on a failed commit (R126) -/

/-- A fence whose entry has failed: READY with FAULT DURABILITY (R126). -/
def DttEntry.failedFence (start : Option Nat) (d : DttEntry) : DttEntry :=
  { d with state := .ready, result := some (.fault .durability), waitSet := none, discard := start }

theorem State.fenceFailedAt_waits {s : State} {p : WaitPair} {i : DttIndex} (h : s.dtt[i].waitsOn p = true) (page : Option Nat) :
    State.fenceFailedAt p page s i = { s with
      dtt := (s.setDtt i (s.dtt[i].failedFence s.discardStart)).dtt
      events := s.events.append (.fenceFault .durability .wait) page (some p.slot) s.dtt[i].requester } := by
  rw [State.fenceFailedAt, if_pos h]
  rfl

theorem State.fenceFailedAt_other {s : State} {p : WaitPair} {i : DttIndex} (h : ¬ s.dtt[i].waitsOn p = true) (page : Option Nat) :
    State.fenceFailedAt p page s i = s := if_neg h

/-- The fences of a list that wait on the pair, each failed with its record. -/
theorem State.foldl_fenceFailedAt {l : List DttIndex} (hl : l.Nodup) (p : WaitPair) (page : Option Nat) (s : State) :
    (∀ d : DttIndex, (l.foldl (State.fenceFailedAt p page) s).dtt[d] =
      if d ∈ l ∧ s.dtt[d].waitsOn p = true then s.dtt[d].failedFence s.discardStart else s.dtt[d]) ∧
    (l.foldl (State.fenceFailedAt p page) s).events = (l.filter fun d => s.dtt[d].waitsOn p).foldl
      (fun q d => q.append (.fenceFault .durability .wait) page (some p.slot) s.dtt[d].requester) s.events := by
  induction l generalizing s with
  | nil => simp
  | cons i l ih =>
    obtain ⟨notin, hl⟩ := List.nodup_cons.mp hl
    rw [List.foldl_cons, List.filter_cons]
    by_cases waits : s.dtt[i].waitsOn p = true
    · have step := State.fenceFailedAt_waits waits page
      have dtt (d : DttIndex) : (State.fenceFailedAt p page s i).dtt[d] = if d = i then s.dtt[i].failedFence s.discardStart else s.dtt[d] := by
        rw [step]; exact s.setDtt_get i d _
      have start : (State.fenceFailedAt p page s i).discardStart = s.discardStart := by rw [step]; rfl
      have later (d : DttIndex) (hd : d ∈ l) : (State.fenceFailedAt p page s i).dtt[d] = s.dtt[d] := by
        rw [dtt, if_neg (ne_of_mem_of_not_mem hd notin)]
      obtain ⟨rest, events⟩ := ih hl (State.fenceFailedAt p page s i)
      refine ⟨fun d => ?_, ?_⟩
      · rw [rest, start, dtt]
        by_cases hd : d = i
        · subst hd
          rw [if_neg fun h => notin h.1, if_pos rfl, if_pos ⟨List.mem_cons_self, waits⟩]
        · rw [if_neg hd]
          simp only [List.mem_cons, hd, false_or]
      · have same : (l.filter fun d => (State.fenceFailedAt p page s i).dtt[d].waitsOn p) = l.filter fun d => s.dtt[d].waitsOn p :=
          List.filter_congr fun d hd => by rw [later d hd]
        rw [events, same, if_pos waits, List.foldl_cons, step]
        refine List.foldl_ext _ _ _ fun q d hd => ?_
        have := later d (List.mem_filter.mp hd).1
        rw [step] at this
        rw [this]
    · rw [State.fenceFailedAt_other waits, if_neg waits]
      obtain ⟨rest, events⟩ := ih hl s
      refine ⟨fun d => ?_, events⟩
      rw [rest]
      by_cases hd : d = i
      · subst hd
        rw [if_neg fun h => notin h.1, if_neg fun h => waits h.2]
      · simp only [List.mem_cons, hd, false_or]

/-- The order in which a failed commit's fences are taken (log entry 8). -/
def State.fenceOrder (s : State) : List DttIndex := arrange (Config.fenceOrder s.freeIndex) (List.finRange 8)

theorem State.nodup_fenceOrder (s : State) : s.fenceOrder.Nodup :=
  (List.perm_insertionSort _ _).nodup_iff.mpr (List.nodup_finRange 8)

theorem State.mem_fenceOrder (s : State) (d : DttIndex) : d ∈ s.fenceOrder :=
  (List.perm_insertionSort _ _).mem_iff.mpr (List.mem_finRange d)

theorem State.reportFailed_dtt (s : State) (p : WaitPair) (page : Option Nat) (d : DttIndex) : (s.reportFailed p page).dtt[d] =
    if s.dtt[d].waitsOn p = true then s.dtt[d].failedFence s.discardStart else s.dtt[d] := by
  have same : (s.reportFailed p page).dtt = (s.fenceFailed p page).dtt := by simp [State.reportFailed]
  rw [same]
  refine ((State.foldl_fenceFailedAt s.nodup_fenceOrder p page s).1 d).trans ?_
  simp only [s.mem_fenceOrder, true_and]

theorem State.reportFailed_events (s : State) (p : WaitPair) (page : Option Nat) : (s.reportFailed p page).events =
    (s.fenceOrder.filter fun d => s.dtt[d].waitsOn p).foldl
      (fun q d => q.append (.fenceFault .durability .wait) page (some p.slot) s.dtt[d].requester) s.events := by
  have same : (s.reportFailed p page).events = (s.fenceFailed p page).events := by simp [State.reportFailed]
  rw [same]
  exact (State.foldl_fenceFailedAt s.nodup_fenceOrder p page s).2

theorem State.reportFailed_sync (s : State) (p : WaitPair) (page : Option Nat) :
    s.SyncTakesReport p true (s.reportFailed p page) :=
  (State.syncReport_takes _ p true).congr (by simp) (by simp) rfl rfl

/-! ### Appends keep the records (R190) -/

theorem EventQueue.append_extends (q : EventQueue) (ev : Event) (page : Option Nat) (slot : Option Slot) (req : Option Requester) :
    ∃ later, (q.append ev page slot req).records = q.records ++ later := by
  unfold EventQueue.append
  split
  · exact ⟨_, rfl⟩
  · exact ⟨[], (List.append_nil _).symm⟩

theorem EventQueue.foldl_append_extends {α : Type} (f : EventQueue → α → EventQueue)
    (hf : ∀ (q : EventQueue) (a : α), ∃ later, (f q a).records = q.records ++ later) (l : List α) (q : EventQueue) :
    ∃ later, (l.foldl f q).records = q.records ++ later := by
  induction l generalizing q with
  | nil => exact ⟨[], (List.append_nil _).symm⟩
  | cons a l ih =>
    obtain ⟨first, hfirst⟩ := hf q a
    obtain ⟨later, hlater⟩ := ih (f q a)
    exact ⟨first ++ later, by rw [List.foldl_cons, hlater, hfirst, List.append_assoc]⟩

/-! ### Counting a commit (R149) -/

theorem State.modifyRecord_refresh (s : State) (sector : Nat) (f : RefreshRecord → RefreshRecord) :
    (s.modifyRecord sector f).refresh = { s.refresh with records := s.refresh.records.modify sector f } := rfl

theorem State.countCommit_inert {s : State} {page : Nat} (h : s.params.refreshInterval = 0 ∨ s.refresh.records.length ≤ page / 64) :
    (s.countCommit page).refresh = s.refresh := by
  unfold State.countCommit
  split
  · rfl
  · rename_i active
    have beyond := h.resolve_left active
    rw [State.modifyRecord_refresh, List.modify_eq_self (by simpa [sectorOf] using beyond)]

theorem State.countCommit_counts {s : State} {page : Nat} {r : RefreshRecord} (active : s.params.refreshInterval ≠ 0)
    (record : s.refresh.records[page / 64]? = some r) : (s.countCommit page).refresh =
      { s.refresh with records := s.refresh.records.set (page / 64) (r.counted s.params.refreshInterval) } := by
  rw [State.countCommit, if_neg active, State.modifyRecord_refresh, sectorOf, List.modify_eq_set_getElem?, record]
  rfl

/-! ### Images -/

theorem imageOf_eq_iff {bytes : List Byte} {p : PageImage} : imageOf bytes = p ↔ ∀ o : Fin 512, bytes.getD o.val 0#8 = p[o] := by
  refine ⟨fun h o => ?_, fun h => Vector.ext fun o ho => ?_⟩
  · rw [← h, Fin.getElem_fin, imageOf, Vector.getElem_ofFn]
  · rw [imageOf, Vector.getElem_ofFn]
    exact h ⟨o, ho⟩

/-- The merge of FILL gives the array's own bytes when every valid byte is there already (R33). -/
theorem mergeImage_eq_imageOf {valid : OffsetSet} {buffer : PageImage} {bytes : List Byte}
    (h : ∀ o : Fin 512, valid.getLsbD o.val = true → buffer[o] = bytes.getD o.val 0#8) :
    mergeImage valid buffer (imageOf bytes) = imageOf bytes := by
  refine Vector.ext fun o ho => ?_
  rw [mergeImage, Vector.getElem_ofFn]
  split
  · rw [h ⟨o, ho⟩ ‹_›, imageOf, Vector.getElem_ofFn]
  · rfl

end Sys2Proof.Machine
end

section
/-! PROOFS. The end of an attempt and of a commit (O25, O26). -/

namespace Sys2Proof.Machine

/-! ### The command that ends an attempt or a commit (R52, R57, R59, R67, R71) -/

theorem State.setOpPage_eq (s : State) (c : PageContent) : s.setOpPage c = { s with array := (s.setOpPage c).array } := by
  unfold State.setOpPage
  split <;> rfl

theorem State.setOpPage_array {s : State} {page : Nat} (h : s.link.opPage = some page) (c : PageContent) :
    (s.setOpPage c).array = insertPage page c s.array := by
  simp only [State.setOpPage, h, State.setPage]

theorem exec_statusReply {s : State} (inFlight : s.link.inFlight = some .status) (owed : s.link.resetOwed = false) (cond : DeviceCondition)
    (failFlag : Bool) : exec (.statusReply cond failFlag) s = .next ((s.setLink s.link.ended).takeReply cond failFlag) := by
  show Host.Outcome.next (if s.link.inFlight = some .status then if s.link.resetOwed then _ else _ else _) = _
  rw [if_pos inFlight, if_neg (by simp [owed])]

/-- The pages of the device once the operation in progress has ended. -/
def State.pagesAfter (s : State) (failFlag : Bool) : List (Nat × PageContent) :=
  ((s.setLink s.link.ended).setOpPage ((s.setLink s.link.ended).operationLeaves failFlag)).array

/-- The reply that ends a long operation: the link IDLE, the page with what the operation leaves, the result at the engine. -/
theorem exec_operationCompletes {s : State} (h : s.AwaitsResult) (failFlag : Bool) : exec (.statusReply .ready failFlag) s =
    .next (State.operationResult { s with link := s.link.afterOperation, array := s.pagesAfter failFlag } failFlag) := by
  obtain ⟨inFlight, owed, state⟩ := h
  have reply : (s.setLink s.link.ended).takeReply .ready failFlag = (s.setLink s.link.ended).operationCompletes failFlag := by
    have same : (s.setLink s.link.ended).link.state = s.link.state := rfl
    rcases state with state | state <;> simp only [State.takeReply, same, state]
  rw [exec_statusReply inFlight owed, reply, State.operationCompletes, State.setOpPage_eq]
  rfl

theorem exec_engineBytes {s : State} {bytes : List Byte} (h : s.AwaitsBytes bytes) :
    exec (.readCompletion bytes) s = .next (State.engineBytes { s with link := s.link.afterRead } bytes) := by
  obtain ⟨⟨addr, inFlight⟩, owner, length⟩ := h
  have run : exec (.readCompletion bytes) s = .next (match s.link.inFlight with
    | some (.read _ count) => if bytes.length = count then (s.setLink s.link.readEnded).deliver s.link.owner bytes else s
    | _ => s) := rfl
  rw [run, inFlight]
  simp only [length, if_true, owner, State.deliver]
  rfl

/-- The command that fails an attempt brings the failure to the engine, the link and the page as R41, R57, R59, R67 and R71 say. -/
theorem exec_attemptFails {s : State} {c : Instr} {i : Slot} {cause : CommitCause} (h : s.AttemptFailsBy c i cause) :
    ∃ (l : Link) (a : List (Nat × PageContent)), exec c s = .next (State.attemptFails { s with link := l, array := a } cause) ∧
      s.AttemptLeaves c i { s with link := l, array := a } := by
  obtain ⟨slot, ⟨awaits, rfl, ended⟩ | ⟨inFlight, owed, resetting, op, rfl, failFlag, rfl⟩ |
    ⟨bytes, rfl, awaits, stage, rfl, o, differs⟩⟩ := h
  · refine ⟨s.link.afterOperation, s.pagesAfter true, (exec_operationCompletes awaits true).trans (congrArg _ ?_), nofun, fun cond failFlag reply => ?_⟩
    · rcases ended with ⟨stage, rfl⟩ | ⟨stage, rfl⟩ <;> simp only [State.operationResult, slot, stage, if_true]
    · refine ⟨rfl, fun resetting => ?_, fun _ page opPage => State.setOpPage_array (s := s.setLink s.link.ended) opPage _⟩
      rcases awaits.2.2 with state | state <;> rw [state] at resetting <;> cases resetting
  · have reply : (s.setLink s.link.ended).takeReply .ready failFlag = (s.setLink s.link.ended).deviceRecovered := by
      have same : (s.setLink s.link.ended).link.state = s.link.state := rfl
      simp only [State.takeReply, same, resetting]
    refine ⟨s.link.afterOperation, s.array, ?_, nofun, fun _ _ _ => ⟨rfl, fun _ => rfl, fun other => absurd resetting other⟩⟩
    rw [exec_statusReply inFlight owed, reply, State.deviceRecovered]
    exact congrArg _ (if_pos op)
  · refine ⟨s.link.afterRead, insertPage (s.entries[i].page.getD 0) .undefined s.array, (exec_engineBytes awaits).trans (congrArg _ ?_),
      fun _ _ => ⟨rfl, fun page here => by rw [here]; rfl⟩, nofun⟩
    have mismatch : imageOf bytes ≠ s.entries[i].buffer := fun h => differs (imageOf_eq_iff.mp h o)
    simp only [State.engineBytes, slot, stage, State.verifyCompletes, mismatch, if_false]
    rfl

/-- The command that ends a commit with its bytes in the array: elided at FILL, or a success. -/
theorem exec_commitEnds {s : State} {c : Instr} {i : Slot} (h : s.CommitEndsBy c i) :
    ∃ (l : Link) (a : List (Nat × PageContent)), s.CommitLeaves c i { s with link := l, array := a } ∧
      ((s.engine.stage = .fill ∧ ∃ e : Entry, e.generation = s.entries[i].generation ∧
          exec c s = .next (State.commitElided (State.setEntry { s with link := l, array := a } i e) i)) ∨
        (s.engine.stage ≠ .fill ∧ exec c s = .next (State.commitSucceeds { s with link := l, array := a } i))) := by
  obtain ⟨slot, ⟨bytes, rfl, awaits, stage, host, elide, equal⟩ | ⟨awaits, rfl, stage, verify, origin⟩ | ⟨bytes, rfl, awaits, stage, equal⟩⟩ := h
  · refine ⟨s.link.afterRead, s.array, ⟨fun _ _ => ⟨rfl, rfl⟩, nofun⟩, .inl ⟨stage, s.entries[i].filled (imageOf bytes), by simp only [Entry.filled],
      (exec_engineBytes awaits).trans (congrArg _ ?_)⟩⟩
    have tested : State.elisionTested { s with link := s.link.afterRead } i = true := by
      simp only [State.elisionTested, elide, Bool.and_true]
      exact beq_iff_eq.mpr host
    have filled : (s.entries[i].filled (imageOf bytes)).buffer = imageOf bytes := mergeImage_eq_imageOf equal
    simp only [State.engineBytes, slot, stage, State.fillCompletes, tested, filled, decide_true, Bool.and_self, if_true]
  · refine ⟨s.link.afterOperation, s.pagesAfter false, ⟨nofun, fun cond failFlag _ => ⟨rfl, fun page program opPage => ?_⟩⟩, .inr ⟨by rw [stage]; nofun,
      (exec_operationCompletes awaits false).trans (congrArg _ ?_)⟩⟩
    · have leaves : (s.setLink s.link.ended).operationLeaves false = .image s.entries[i].buffer := by
        have kind : (s.setLink s.link.ended).link.opKind = some .program := program
        have hand : (s.setLink s.link.ended).engine.slot = some i := slot
        simp only [State.operationLeaves, kind, hand, Bool.false_eq_true, if_false]
        rfl
      exact (State.setOpPage_array (s := s.setLink s.link.ended) opPage _).trans (by rw [leaves]; rfl)
    · have required : ¬ State.verifyRequired { s with link := s.link.afterOperation, array := s.pagesAfter false } i = true := by
        simp only [State.verifyRequired, verify, Bool.false_or]
        exact mt beq_iff_eq.mp origin
      simp only [State.operationResult, slot, stage, Bool.false_eq_true, if_false]
      exact if_neg required
  · refine ⟨s.link.afterRead, s.array, ⟨fun _ _ => ⟨rfl, rfl⟩, nofun⟩, .inr ⟨by rw [stage]; nofun,
      (exec_engineBytes awaits).trans (congrArg _ ?_)⟩⟩
    have same : imageOf bytes = s.entries[i].buffer := imageOf_eq_iff.mpr equal
    simp only [State.engineBytes, slot, stage, State.verifyCompletes, same, if_true]

theorem State.AttemptLeaves.congr {s t u : State} {c : Instr} {i : Slot} (h : s.AttemptLeaves c i t) (link : u.link = t.link)
    (array : u.array = t.array) : s.AttemptLeaves c i u := by
  unfold State.AttemptLeaves at *
  rwa [link, array]

theorem State.CommitLeaves.congr {s t u : State} {c : Instr} {i : Slot} (h : s.CommitLeaves c i t) (link : u.link = t.link)
    (array : u.array = t.array) : s.CommitLeaves c i u := by
  unfold State.CommitLeaves at *
  rwa [link, array]

/-! ### The last failed attempt (R41, R42) -/

/-- The state in which the failure of slot `i` is reported: the entry FAILED, COMMIT_FAILED appended, the engine IDLE (R41). -/
def State.commitLost (s : State) (i : Slot) (cause : CommitCause) (n : Nat) : State :=
  { s.setEntry i { s.entries[i] with state := .failed, valid := wholePage, attempts := n } with
    engine := Engine.initial
    events := s.events.append (.commitFailed cause n) s.entries[i].page (some i) none }

theorem State.attemptFails_last {s : State} {i : Slot} {n : Nat} (slot : s.engine.slot = some i) (attempts : s.entries[i].attempts = n)
    (attempt : s.engine.attempt = some (n + 1)) (last : s.params.commitTries ≤ n + 1) (origin : s.entries[i].origin ≠ some .config)
    (cause : CommitCause) :
    s.attemptFails cause = (s.commitLost i cause (n + 1)).reportFailed ⟨i, s.entries[i].generation⟩ s.entries[i].page := by
  have counted : (s.countAttempt i).entries[i] = { s.entries[i] with attempts := n + 1 } := by
    rw [State.countAttempt_get, ← attempts]
  have final : ¬ s.engine.attempt.getD 0 < s.params.commitTries := by
    rw [attempt, Option.getD_some]
    omega
  simp only [State.attemptFails, slot, final, if_false]
  rw [State.commitFails, State.failEntry, State.pairOf, counted, if_neg origin, State.countAttempt, State.setEntry_setEntry]
  rfl

/-- Settles O25: the entry fails, COMMIT_FAILED is appended, and the report goes to the fences and then to SYNC. -/
theorem lastFailedAttemptFailsTheEntry : Obligations.LastFailedAttemptFailsTheEntry := by
  unfold Obligations.LastFailedAttemptFailsTheEntry
  intro s c i cause n fails attempts attempt last origin pair
  obtain ⟨l, a, run, leaves⟩ := exec_attemptFails fails
  let u : State := { s with link := l, array := a }
  let x : State := u.commitLost i cause (n + 1)
  rw [State.attemptFails_last (s := u) fails.1 attempts attempt last origin cause] at run
  have entries (j : Slot) : (x.reportFailed pair s.entries[i].page).entries[j] =
      if j = i then { s.entries[i] with state := .failed, valid := wholePage, attempts := n + 1 } else s.entries[j] := by
    have same : (x.reportFailed pair s.entries[i].page).entries = x.entries := by simp
    rw [same]
    exact u.setEntry_get i j _
  have events : (x.reportFailed pair s.entries[i].page).events = (x.fenceOrder.filter fun d => s.dtt[d].waitsOn pair).foldl
      (fun q d => q.append (.fenceFault .durability .wait) s.entries[i].page (some i) s.dtt[d].requester)
      (s.events.append (.commitFailed cause (n + 1)) s.entries[i].page (some i) none) := x.reportFailed_events pair _
  refine ⟨_, run, by simp [State.commitLost, u], by simp [State.commitLost, u], by rw [entries, if_pos rfl],
    fun j hj => by rw [entries, if_neg hj], fun d => ?_, fun room => ?_, ⟨_, x.nodup_fenceOrder.filter _, fun d => ?_, events⟩,
    (x.reportFailed_sync pair s.entries[i].page).congr rfl rfl rfl rfl, by simp [State.commitLost, u],
    leaves.congr (by simp [State.commitLost, u]) (by simp [State.commitLost, u])⟩
  · refine (x.reportFailed_dtt pair s.entries[i].page d).trans ?_
    simp only [DttEntry.waitsOn_iff]
    rfl
  · obtain ⟨later, more⟩ := EventQueue.foldl_append_extends
      (fun q d => q.append (.fenceFault .durability .wait) s.entries[i].page (some i) s.dtt[d].requester)
      (fun q d => q.append_extends _ _ _ _) (x.fenceOrder.filter fun d => s.dtt[d].waitsOn pair)
      (s.events.append (.commitFailed cause (n + 1)) s.entries[i].page (some i) none)
    refine ⟨later, (congrArg EventQueue.records events).trans (more.trans ?_)⟩
    rw [EventQueue.append, if_pos room, List.append_assoc, List.singleton_append]
  · rw [List.mem_filter, DttEntry.waitsOn_iff]
    exact and_iff_right (x.mem_fenceOrder d)

/-! ### The end of a commit (R34, R42, R43, R149) -/

/-- What the end of the commit of slot `i`, its bytes in the array, does at the staging table, the engine, the fences and SYNC (R42, R43). -/
structure State.Committed (s : State) (i : Slot) (t : State) : Prop where
  engine : t.engine = Engine.initial
  queue : t.commitQueue = s.commitQueue
  events : t.events = s.events
  free : t.entries[i].state = .free
  generation : t.entries[i].generation = s.entries[i].generation
  others : ∀ j : Slot, j ≠ i → t.entries[j] = s.entries[j]
  dtt : ∀ d : DttIndex, t.dtt[d] = s.dtt[d].dropPair s.discardStart ⟨i, s.entries[i].generation⟩
  sync : s.SyncTakesReport ⟨i, s.entries[i].generation⟩ false t

theorem State.Committed.congr {s t u : State} {i : Slot} (h : s.Committed i t) (engine : u.engine = t.engine)
    (queue : u.commitQueue = t.commitQueue) (events : u.events = t.events) (entries : u.entries = t.entries) (dtt : u.dtt = t.dtt)
    (sync : u.syncRecord = t.syncRecord) (command : u.command = t.command) : s.Committed i u where
  engine := engine.trans h.engine
  queue := queue.trans h.queue
  events := events.trans h.events
  free := by rw [entries]; exact h.free
  generation := by rw [entries]; exact h.generation
  others j hj := by rw [entries]; exact h.others j hj
  dtt d := by rw [dtt]; exact h.dtt d
  sync := h.sync.congr rfl rfl sync command

/-- The entry freed, the engine IDLE, and the report (R42). -/
theorem State.committed_report {s u : State} {i : Slot} (generation : u.entries[i].generation = s.entries[i].generation)
    (others : ∀ j : Slot, j ≠ i → u.entries[j] = s.entries[j]) (queue : u.commitQueue = s.commitQueue) (events : u.events = s.events)
    (dtt : u.dtt = s.dtt) (params : u.params = s.params) (sync : u.syncRecord = s.syncRecord) (command : u.command = s.command) :
    s.Committed i (((u.freeEntry i).engineIdle).reportCommitted ⟨i, s.entries[i].generation⟩) := by
  have entries (j : Slot) : (((u.freeEntry i).engineIdle).reportCommitted ⟨i, s.entries[i].generation⟩).entries[j] =
      if j = i then u.entries[i].freed else u.entries[j] := by
    have same : (((u.freeEntry i).engineIdle).reportCommitted ⟨i, s.entries[i].generation⟩).entries = (u.freeEntry i).entries := by
      simp [State.engineIdle]
    rw [same, u.freeEntry_get]
  refine ⟨by simp [State.engineIdle], by simp [State.engineIdle, State.freeEntry, queue], by simp [State.engineIdle, State.freeEntry, events],
    by rw [entries, if_pos rfl]; rfl, by rw [entries, if_pos rfl]; exact generation, fun j hj => by rw [entries, if_neg hj, others j hj],
    fun d => ?_, (State.reportCommitted_sync ((u.freeEntry i).engineIdle) _).congr sync.symm command.symm rfl rfl⟩
  refine (State.reportCommitted_dtt _ _ d).trans ?_
  show u.dtt[d].dropPair (some u.params.discardTime) _ = _
  rw [dtt, params]
  rfl

/-- Settles O26: an elision frees the entry alone, a success is counted for its sector too. -/
theorem commitEndsWithBytesInTheArray : Obligations.CommitEndsWithBytesInTheArray := by
  unfold Obligations.CommitEndsWithBytesInTheArray
  intro s c i ends origin pair
  obtain ⟨l, a, leaves, outcome⟩ := exec_commitEnds ends
  let u : State := { s with link := l, array := a }
  suffices ∃ t, exec c s = .next t ∧ s.Committed i t ∧ t.link = l ∧ t.array = a ∧
      ((s.engine.stage = .fill ∧ t.refresh = s.refresh) ∨
        (s.engine.stage ≠ .fill ∧ t.refresh = (u.countCommit (s.entries[i].page.getD 0)).refresh)) by
    obtain ⟨t, run, ended, link, array, refresh⟩ := this
    refine ⟨t, run, ended.engine, ended.queue, ended.events, ended.free, ended.generation, ended.others, fun d ws state kind waitSet => ?_,
      fun d other => ?_, ended.sync, leaves.congr link array, fun fill => ?_, fun page notFill here => ⟨fun inert => ?_, fun r record => ?_⟩⟩
    · rw [ended.dtt]
      exact DttEntry.dropPair_waiting state kind waitSet _ _
    · rw [ended.dtt]
      exact DttEntry.dropPair_other other _ _
    · exact (refresh.resolve_right fun h => h.1 fill).2
    · rw [(refresh.resolve_left fun h => notFill h.1).2, here]
      exact State.countCommit_inert inert
    · rw [(refresh.resolve_left fun h => notFill h.1).2, here]
      have counts (active : s.params.refreshInterval ≠ 0) := State.countCommit_counts (s := u) (page := page) active record
      refine ⟨fun below => (counts (by omega)).trans ?_, fun reached => (counts (by omega)).trans ?_⟩
      · rw [RefreshRecord.counted, if_pos below]
      · rw [RefreshRecord.counted, if_neg (by omega : ¬ r.count + 1 < s.params.refreshInterval)]
  rcases outcome with ⟨fill, e, generation, run⟩ | ⟨notFill, run⟩
  · have same : (u.setEntry i e).commitElided i =
        (((u.countElided.setEntry i e).freeEntry i).engineIdle).reportCommitted ⟨i, s.entries[i].generation⟩ := by
      rw [State.commitElided, State.pairOf, State.setEntry_same, generation]
      rfl
    rw [same] at run
    refine ⟨_, run, State.committed_report ?_ (fun j hj => ?_) rfl rfl rfl rfl rfl rfl, by simp [State.engineIdle, u],
      by simp [State.engineIdle, u], .inl ⟨fill, by simp [State.engineIdle, u]⟩⟩
    · rw [State.setEntry_same, generation]
    · rw [State.setEntry_other _ _ hj]
      rfl
  · have same : u.commitSucceeds i = State.countCommit
        (((u.freeEntry i).engineIdle).reportCommitted ⟨i, s.entries[i].generation⟩) (s.entries[i].page.getD 0) := if_neg origin
    rw [same] at run
    have counted (v w : State) (refresh : v.refresh = w.refresh) (params : v.params = w.params) (page : Nat) :
        (v.countCommit page).refresh = (w.countCommit page).refresh := by
      unfold State.countCommit
      rw [params]
      split
      · exact refresh
      · rw [State.modifyRecord_refresh, State.modifyRecord_refresh, refresh]
    exact ⟨_, run, (State.committed_report (s := s) (u := u) rfl (fun _ _ => rfl) rfl rfl rfl rfl rfl rfl).congr (by simp) (by simp) (by simp)
      (by simp) (by simp) (by simp) (by simp), by simp [State.engineIdle, u], by simp [State.engineIdle, u],
      .inr ⟨notFill, counted _ _ (by simp [State.engineIdle]) (by simp [State.engineIdle]) _⟩⟩

end Sys2Proof.Machine
end

section
/-! PROOFS. While RESET_N is asserted no command but the resets changes the mode, the sequencer's phase or the link (O51, second part). -/

namespace Sys2Proof.Machine

/-- What RESET_N holds while it is asserted (R73, R168, R180). -/
def State.Held (s : State) : Prop := s.control.mode = .start ∧ s.sequencer.phase = .idle ∧ s.link = Link.initial

theorem State.Held.of_same {s t : State} (h : s.Held) (control : t.control = s.control) (sequencer : t.sequencer = s.sequencer)
    (link : t.link = s.link) : t.Held := by
  unfold State.Held at *
  rwa [control, sequencer, link]

theorem State.onPort_held {s : State} (h : s.Held) (asserted : s.resetAsserted = true) (f : State → State) : (s.onPort f).Held := by
  have silent : ¬ s.portAnswers = true := by simp [State.portAnswers, asserted]
  rw [State.onPort, if_neg silent]
  exact h

/-- With RESET_N asserted each command but the resets leaves these three as they are. -/
theorem exec_held {c : Instr} {s t : State} (held : s.Held) (asserted : s.resetAsserted = true) (hc : isReset c = false)
    (h : exec c s = .next t) : t.Held := by
  have same (eq : t = s) : t.Held := eq ▸ held
  obtain ⟨start, idle, link⟩ := held
  have phase (p : Phase) (hp : p ≠ .idle) : s.inPhase p = false := by simp [State.inPhase, idle, hp.symm]
  cases c with
  | powerOn | resetNAssertion | resetNDeassertion => cases hc
  | takeHead => cases h; exact same (by simp [State.mayTake, start])
  | arbiterDecision => cases h; exact same (by simp [start])
  | longOperationAccepted => cases h; exact same (by simp [link, Link.initial])
  | readCompletion => cases h; exact same (by simp [link, Link.initial])
  | pollTime => cases h; exact same (by simp [link, Link.initial, Link.polls])
  | suspendAccepted => cases h; exact same (by simp [link, Link.initial])
  | statusReply => cases h; exact same (by simp [link, Link.initial])
  | suspendedFetchStep => cases h; exact same (by simp [State.suspendedIdle, link, Link.initial])
  | endSuspension => cases h; exact same (by simp [State.suspendedIdle, link, Link.initial])
  | resumeAccepted => cases h; exact same (by simp [link, Link.initial])
  | operationTimerExpiry => cases h; exact same (by simp [State.operationTimedOut, Link.operationRuns, link, Link.initial])
  | suspendWaitTimerExpiry => cases h; exact same (by simp [reached, link, Link.initial])
  | resetAccepted => cases h; exact same (by simp [link, Link.initial])
  | resetWaitTimerExpiry => cases h; exact same (by simp [reached, link, Link.initial])
  | pfailAssertion => cases h; exact same (by simp [asserted])
  | pfailDeassertion => cases h; exact same (by simp [asserted])
  | deferredDrainStart => cases h; exact same (by simp [start])
  | reinitClaim => cases h; exact same (by simp [State.takeReinitClaim, start])
  | drainCompletion => cases h; exact same (by simp [start])
  | size => cases h; exact same (by simp [phase .size nofun])
  | deviceReset => cases h; exact same (by simp [phase .deviceReset nofun])
  | readA => cases h; exact same (by simp [phase .readA nofun])
  | readB => cases h; exact same (by simp [phase .readB nofun])
  | apply => cases h; exact same (by simp [phase .apply nofun])
  | startComplete => cases h; exact same (by simp [phase .apply nofun])
  | writeConfig => cases h; exact State.onPort_held ⟨start, idle, link⟩ asserted _
  | reinit => cases h; exact State.onPort_held ⟨start, idle, link⟩ asserted _
  | unknownCommand => cases h; exact State.onPort_held ⟨start, idle, link⟩ asserted _
  | registerWrite => cases h; exact State.onPort_held ⟨start, idle, link⟩ asserted _
  | _ =>
    have frame := exec_quiet h
    exact State.Held.of_same ⟨start, idle, link⟩ (frame.control rfl) (frame.sequencer rfl) (frame.link rfl).1

theorem exec_resetLaw {c : Instr} {s t : State} (reset : s.ResetLaw) (h : exec c s = .next t) : t.ResetLaw := by
  intro asserted
  cases hc : isReset c with
  | false =>
    have before : s.resetAsserted = true := (exec_quiet h).reset hc ▸ asserted
    exact exec_held (reset before) before hc h
  | true =>
    cases c with
    | powerOn => cases h; cases asserted
    | resetNAssertion =>
      cases h
      split
      · exact reset ‹_›
      · exact ⟨rfl, rfl, rfl⟩
    | resetNDeassertion =>
      cases h
      split at asserted
      · cases asserted
      · rename_i out
        exact absurd asserted out
    | _ => cases hc

theorem State.tick_resetLaw {s : State} (reset : s.ResetLaw) : s.tick.ResetLaw := by
  intro asserted
  obtain ⟨start, idle, link⟩ := reset asserted
  refine ⟨start, idle, ?_⟩
  show s.link.tick s.operationLimit = Link.initial
  rw [link]
  simp [Link.tick, Link.initial, Link.operationRuns, countUp, countDown]

end Sys2Proof.Machine
end

section
/-! PROOFS. What the commands do to the command unit and to SYNC, and the law of CONFIG entries that rests on it (O51, third part). -/

namespace Sys2Proof.Machine

/-! ### How a command in progress ends -/

/-- The command unit and the SYNC record. -/
def State.account (s : State) : CommandUnit × SyncRecord := (s.command, s.syncRecord)

/-- What the blocks do to the command unit and to SYNC beside the CMD writes: SYNC waits on, or ends (R132, R133); another command in progress ends (R189), a WRITE_CONFIG only
where `w` says so. -/
inductive CommandMove (w : Prop) : CommandUnit × SyncRecord → CommandUnit × SyncRecord → Prop where
  | wait (c : CommandUnit) (ws ws' : List WaitPair) (n n' : Nat) : CommandMove w (c, .waiting ws n) (c, .waiting ws' n')
  | sync (c : CommandUnit) (ws : List WaitPair) (n : Nat) (r : CmdResult) (d : Nat) :
      CommandMove w (c, .waiting ws n) ({ c with busy := false, result := r, detail := d }, .idle 0)
  | finish (c : CommandUnit) (y : SyncRecord) (k : MgmtCommand) (r : CmdResult) (d : Nat) (last : c.last = some k) (notSync : k ≠ .sync)
      (config : k = .writeConfig → w) : CommandMove w (c, y) ({ c with busy := false, result := r, detail := d }, y)

/-- Any number of such moves. -/
def State.Accounts (w : Prop) (s t : State) : Prop := Relation.ReflTransGen (CommandMove w) s.account t.account

theorem State.Accounts.of_eq {w : Prop} {s t : State} (command : t.command = s.command) (sync : t.syncRecord = s.syncRecord) :
    s.Accounts w t := by
  unfold State.Accounts State.account
  rw [command, sync]

theorem State.Accounts.trans {w : Prop} {s t u : State} (h : s.Accounts w t) (h' : t.Accounts w u) : s.Accounts w u :=
  Relation.ReflTransGen.trans h h'

theorem State.Accounts.of_base {w : Prop} {s t u : State} (h : t.Accounts w u) (command : t.command = s.command)
    (sync : t.syncRecord = s.syncRecord) : s.Accounts w u := (State.Accounts.of_eq command sync).trans h

theorem CommandMove.mono {w w' : Prop} (hw : w → w') {a b : CommandUnit × SyncRecord} (h : CommandMove w a b) : CommandMove w' a b := by
  cases h with
  | wait c ws ws' n n' => exact .wait c ws ws' n n'
  | sync c ws n r d => exact .sync c ws n r d
  | finish c y k r d last notSync config => exact .finish c y k r d last notSync (hw ∘ config)

theorem State.Accounts.mono {w w' : Prop} (hw : w → w') {s t : State} (h : s.Accounts w t) : s.Accounts w' t :=
  Relation.ReflTransGen.mono (fun _ _ => CommandMove.mono hw) _ _ h

/-- Where SYNC waits it is the command in progress (R131, R187). -/
def SyncLaw (a : CommandUnit × SyncRecord) : Prop := a.2.isWaiting = true → a.1.busy = true ∧ a.1.last = some .sync

/-- A WRITE_CONFIG is in progress, and no SYNC waits. -/
def WriteHeld (a : CommandUnit × SyncRecord) : Prop := a.1.busy = true ∧ a.1.last = some .writeConfig ∧ a.2.isWaiting = false

theorem CommandMove.syncLaw {w : Prop} {a b : CommandUnit × SyncRecord} (h : CommandMove w a b) (law : SyncLaw a) : SyncLaw b := by
  cases h with
  | wait c ws ws' n n' => exact law
  | sync c ws n r d => nofun
  | finish c y k r d last notSync config =>
    intro waiting
    exact absurd (Option.some.inj (last.symm.trans (law waiting).2)) notSync

theorem CommandMove.writeHeld {w : Prop} (hw : ¬ w) {a b : CommandUnit × SyncRecord} (h : CommandMove w a b) (held : WriteHeld a) :
    WriteHeld b := by
  obtain ⟨busy, last, quiet⟩ := held
  cases h with
  | wait c ws ws' n n' => cases quiet
  | sync c ws n r d => cases quiet
  | finish c y k r d hk notSync config => exact absurd (config (Option.some.inj (hk.symm.trans last))) hw

theorem moves_syncLaw {w : Prop} {a b : CommandUnit × SyncRecord} (h : Relation.ReflTransGen (CommandMove w) a b) (law : SyncLaw a) :
    SyncLaw b := by
  induction h with
  | refl => exact law
  | tail _ move ih => exact move.syncLaw ih

theorem moves_writeHeld {w : Prop} (hw : ¬ w) {a b : CommandUnit × SyncRecord} (h : Relation.ReflTransGen (CommandMove w) a b)
    (held : WriteHeld a) : WriteHeld b := by
  induction h with
  | refl => exact held
  | tail _ move ih => exact move.writeHeld hw ih

theorem State.Accounts.syncLaw {w : Prop} {s t : State} (h : s.Accounts w t) (law : SyncLaw s.account) : SyncLaw t.account :=
  moves_syncLaw h law

theorem State.Accounts.writeHeld {w : Prop} (hw : ¬ w) {s t : State} (h : s.Accounts w t) (held : WriteHeld s.account) :
    WriteHeld t.account := moves_writeHeld hw h held

/-! ### The blocks' operations -/

theorem State.syncReport_accounts (w : Prop) (s : State) (p : WaitPair) (failed : Bool) : s.Accounts w (s.syncReport p failed) := by
  unfold State.syncReport
  split
  · exact .of_eq rfl rfl
  · rename_i ws n record
    have account : s.account = (s.command, .waiting ws n) := by rw [State.account, record]
    unfold State.Accounts
    rw [account]
    split
    · split
      · exact .single (CommandMove.sync _ _ _ _ _)
      · exact .single (CommandMove.wait _ _ _ _ _)
    · rw [account]

theorem State.syncHaltNotice_accounts (w : Prop) (s : State) : s.Accounts w s.syncHaltNotice := by
  unfold State.syncHaltNotice
  split
  · exact .of_eq rfl rfl
  · rename_i ws n record
    have account : s.account = (s.command, .waiting ws n) := by rw [State.account, record]
    unfold State.Accounts
    rw [account]
    exact .single (CommandMove.sync _ _ _ _ _)

theorem State.running_last {s : State} {c : MgmtCommand} (h : s.running c = true) : s.command.last = some c := by
  simp only [State.running, Bool.and_eq_true, beq_iff_eq] at h
  exact h.2

theorem State.endReinit_accounts (w : Prop) (s : State) (r : CmdResult) : s.Accounts w (s.endReinit r) := by
  unfold State.endReinit
  split
  · exact .single (CommandMove.finish _ _ .reinit _ _ (State.running_last ‹_›) nofun nofun)
  · exact .of_eq rfl rfl

theorem State.endWriteConfig_accounts {w : Prop} (hw : w) (s : State) (r : CmdResult) : s.Accounts w (s.endWriteConfig r) := by
  unfold State.endWriteConfig
  split
  · exact .single (CommandMove.finish _ _ .writeConfig _ _ (State.running_last ‹_›) nofun fun _ => hw)
  · exact .of_eq rfl rfl

theorem State.configSucceeded_accounts {w : Prop} (hw : w) (s : State) (i : Slot) (page : Option Nat) :
    s.Accounts w (s.configSucceeded i page) := by
  unfold State.configSucceeded
  split
  · exact (State.endWriteConfig_accounts hw _ _).of_base rfl rfl
  · exact .of_eq rfl rfl

theorem State.configFailed_accounts {w : Prop} (hw : w) (s : State) (i : Slot) (page : Option Nat) (cause : CommitCause) :
    s.Accounts w (s.configFailed i page cause) := by
  unfold State.configFailed
  split
  · exact (State.endWriteConfig_accounts hw _ _).of_base rfl rfl
  · exact .of_eq rfl rfl

theorem State.reportCommitted_accounts (w : Prop) (s : State) (p : WaitPair) : s.Accounts w (s.reportCommitted p) :=
  (State.syncReport_accounts w (s.fenceCommitted p) p false).of_base (by simp) (by simp)

theorem State.reportFailed_accounts (w : Prop) (s : State) (p : WaitPair) (page : Option Nat) : s.Accounts w (s.reportFailed p page) :=
  (State.syncReport_accounts w (s.fenceFailed p page) p true).of_base (by simp) (by simp)

/-- The CONFIG entry in the engine's hand is freed. -/
def State.Releases (s t : State) : Prop :=
  ∃ i : Slot, s.engine.slot = some i ∧ s.entries[i].origin = some .config ∧ t.entries[i].state = .free

theorem State.commitSucceeds_accounts {s : State} {i : Slot} (hand : s.engine.slot = some i) :
    s.Accounts (s.Releases (s.commitSucceeds i)) (s.commitSucceeds i) := by
  by_cases config : s.entries[i].origin = some .config
  · have free : (s.commitSucceeds i).entries[i].state = .free := by
      simp only [State.commitSucceeds, if_pos config, State.configSucceeded_frame]
      show (s.freeEntry i).entries[i].state = .free
      rw [s.freeEntry_get, if_pos rfl]
      rfl
    have released : s.Releases (s.commitSucceeds i) := ⟨i, hand, config, free⟩
    generalize s.Releases _ = w at released
    simp only [State.commitSucceeds, if_pos config]
    exact (State.configSucceeded_accounts released _ _ _).of_base rfl rfl
  · generalize s.Releases _ = w
    simp only [State.commitSucceeds, if_neg config]
    refine State.Accounts.trans (t := (s.freeEntry i).engineIdle) (.of_eq rfl rfl) ?_
    exact (State.reportCommitted_accounts w _ (s.pairOf i)).trans (.of_eq (by simp) (by simp))

theorem State.commitElided_accounts (w : Prop) (s : State) (i : Slot) : s.Accounts w (s.commitElided i) :=
  (State.reportCommitted_accounts w _ _).of_base rfl rfl

theorem State.countAttempt_origin (s : State) (i : Slot) : (s.countAttempt i).entries[i].origin = s.entries[i].origin := by
  rw [s.countAttempt_get]

theorem State.commitFails_accounts {s : State} {i : Slot} (hand : s.engine.slot = some i) (cause : CommitCause) :
    s.Accounts (s.Releases ((s.countAttempt i).commitFails i cause)) ((s.countAttempt i).commitFails i cause) := by
  by_cases config : s.entries[i].origin = some .config
  · have counted : (s.countAttempt i).entries[i].origin = some .config := by rw [s.countAttempt_origin, config]
    have free : ((s.countAttempt i).commitFails i cause).entries[i].state = .free := by
      simp only [State.commitFails, if_pos counted, State.configFailed_frame]
      show ((s.countAttempt i).freeEntry i).entries[i].state = .free
      rw [State.freeEntry_get, if_pos rfl]
      rfl
    have released : s.Releases ((s.countAttempt i).commitFails i cause) := ⟨i, hand, config, free⟩
    generalize s.Releases _ = w at released
    simp only [State.commitFails, if_pos counted]
    exact (State.configFailed_accounts released _ _ _ _).of_base rfl rfl
  · have counted : (s.countAttempt i).entries[i].origin ≠ some .config := by rw [s.countAttempt_origin]; exact config
    generalize s.Releases _ = w
    simp only [State.commitFails, if_neg counted]
    exact (State.reportFailed_accounts w _ _ _).of_base rfl rfl

theorem State.attemptFails_accounts (s : State) (cause : CommitCause) : s.Accounts (s.Releases (s.attemptFails cause)) (s.attemptFails cause) := by
  cases hand : s.engine.slot with
  | none => simp only [State.attemptFails, hand]; exact .of_eq rfl rfl
  | some i =>
    by_cases again : s.engine.attempt.getD 0 < s.params.commitTries
    · simp only [State.attemptFails, hand, if_pos again]; exact .of_eq rfl rfl
    · simp only [State.attemptFails, hand, if_neg again]; exact State.commitFails_accounts hand cause

theorem State.Releases.congr {s s' t t' : State} (h : s.Releases t) (slot : s'.engine.slot = s.engine.slot)
    (entries : s'.entries = s.entries) (after : t'.entries = t.entries) : s'.Releases t' := by
  unfold State.Releases at *
  rwa [slot, entries, after]

theorem State.operationResult_accounts (s : State) (failFlag : Bool) :
    s.Accounts (s.Releases (s.operationResult failFlag)) (s.operationResult failFlag) := by
  unfold State.operationResult
  split
  · exact .of_eq rfl rfl
  · split
    · split
      · exact s.attemptFails_accounts _
      · exact .of_eq rfl rfl
    · split
      · exact s.attemptFails_accounts _
      · split
        · exact .of_eq rfl rfl
        · exact State.commitSucceeds_accounts ‹_›
    · exact .of_eq rfl rfl

theorem State.fillCompletes_accounts (w : Prop) (s : State) (i : Slot) (bytes : List Byte) : s.Accounts w (s.fillCompletes i bytes) := by
  simp only [State.fillCompletes]
  split
  · exact (State.commitElided_accounts w _ _).of_base rfl rfl
  · exact .of_eq rfl rfl

theorem State.verifyCompletes_accounts {s : State} {i : Slot} (hand : s.engine.slot = some i) (bytes : List Byte) :
    s.Accounts (s.Releases (s.verifyCompletes i bytes)) (s.verifyCompletes i bytes) := by
  unfold State.verifyCompletes
  split
  · exact State.commitSucceeds_accounts hand
  · exact ((State.attemptFails_accounts (s.setPage (s.entries[i].page.getD 0) .undefined) _).mono
      fun released => released.congr rfl rfl rfl).of_base rfl rfl

theorem State.engineBytes_accounts (s : State) (bytes : List Byte) :
    s.Accounts (s.Releases (s.engineBytes bytes)) (s.engineBytes bytes) := by
  unfold State.engineBytes
  split
  · exact .of_eq rfl rfl
  · split
    · exact State.fillCompletes_accounts _ s _ bytes
    · exact State.verifyCompletes_accounts ‹_› bytes
    · exact .of_eq rfl rfl

theorem State.deliver_accounts (s : State) (owner : Option Owner) (bytes : List Byte) :
    s.Accounts (s.Releases (s.deliver owner bytes)) (s.deliver owner bytes) := by
  unfold State.deliver
  split
  · exact s.engineBytes_accounts bytes
  all_goals exact .of_eq (by simp) (by simp)

theorem State.operationCompletes_accounts (s : State) (failFlag : Bool) :
    s.Accounts (s.Releases (s.operationCompletes failFlag)) (s.operationCompletes failFlag) := by
  refine State.Accounts.trans (t := (s.setOpPage (s.operationLeaves failFlag)).setLink s.link.operationOver) (.of_eq (by simp) (by simp)) ?_
  exact (State.operationResult_accounts _ failFlag).mono fun released => released.congr (by simp) (by simp) rfl

theorem State.takeReply_accounts (s : State) (cond : DeviceCondition) (failFlag : Bool) :
    s.Accounts (s.Releases (s.takeReply cond failFlag)) (s.takeReply cond failFlag) := by
  unfold State.takeReply
  split
  · exact s.operationCompletes_accounts failFlag
  · exact s.operationCompletes_accounts failFlag
  · exact .of_eq (by simp) (by simp)
  · unfold State.deviceRecovered
    split
    · exact (State.Accounts.of_eq rfl rfl).trans
        ((State.attemptFails_accounts (s.setLink s.link.operationOver) _).mono fun released => released.congr rfl rfl rfl)
    · split <;> exact .of_eq rfl rfl
  · exact .of_eq (by simp) (by simp)

theorem State.dropEntry_accounts (w : Prop) (s : State) (i : Slot) : s.Accounts w (s.dropEntry i) :=
  (State.syncReport_accounts w _ _ _).of_base rfl rfl

theorem State.foldl_accounts {α : Type} {w : Prop} {f : State → α → State} (hf : ∀ (t : State) (a : α), t.Accounts w (f t a)) (l : List α)
    (s : State) : s.Accounts w (l.foldl f s) := by
  induction l generalizing s with
  | nil => exact .of_eq rfl rfl
  | cons a l ih => exact (hf s a).trans (ih (f s a))

theorem State.dropRefresh_accounts (w : Prop) (s : State) : s.Accounts w s.dropRefresh := by
  simp only [State.dropRefresh]
  split
  · exact .of_eq rfl rfl
  · exact (State.foldl_accounts (fun t i => t.dropEntry_accounts w i) _ s).trans (.of_eq rfl rfl)

theorem State.drainStart_accounts (w : Prop) (s : State) (cause : DrainCause) : s.Accounts w (s.drainStart cause) := by
  rw [State.drainStart_eq]
  refine State.Accounts.trans (t := (s.drainBegun cause).sealSlots (s.drainBegun cause).openSlots) (.of_eq (by simp [State.drainBegun])
    (by simp [State.drainBegun])) ?_
  exact (State.dropRefresh_accounts w _).trans (.of_eq rfl rfl)

theorem State.haltMode_accounts (w : Prop) (s : State) (cause : HaltCause) : s.Accounts w (s.haltMode cause) := by
  simp only [State.haltMode]
  split
  · exact .of_eq rfl rfl
  · exact (State.endReinit_accounts w _ _).of_base rfl rfl

theorem State.haltNotice_accounts (w : Prop) (s : State) : s.Accounts w s.haltNotice :=
  (State.syncHaltNotice_accounts w s.dttHaltNotice).of_base rfl rfl

theorem State.enterHalted_accounts (w : Prop) (s : State) (cause : HaltCause) : s.Accounts w (s.enterHalted cause) :=
  (s.haltMode_accounts w cause).trans (State.haltNotice_accounts w _)

theorem State.downStep_accounts (s : State) (i : Slot) (step : DownStep) : s.Accounts True (s.downStep i step) := by
  cases step with
  | engine => exact .of_eq (by simp [State.downStep]) (by simp [State.downStep])
  | report =>
    show s.Accounts True (s.deviceReport i)
    unfold State.deviceReport
    split
    · exact State.configFailed_accounts trivial _ _ _ _
    · exact State.reportFailed_accounts True _ _ _
  | halt => exact s.haltMode_accounts True _
  | notice => exact s.haltNotice_accounts True
  | queuedConfig =>
    show s.Accounts True s.endQueuedConfig
    unfold State.endQueuedConfig
    split
    · exact State.configFailed_accounts trivial _ _ _ _
    · exact .of_eq rfl rfl

theorem State.linkDown_accounts (s : State) : s.Accounts True s.linkDown := by
  refine State.Accounts.trans (t := s.setLink s.link.lost) (.of_eq rfl rfl) ?_
  simp only [State.linkDown]
  split
  · exact (State.foldl_accounts (fun t step => t.downStep_accounts _ step) _ _).trans (.of_eq rfl rfl)
  · exact State.enterHalted_accounts True _ _

theorem State.completeStart_accounts (w : Prop) (s : State) : s.Accounts w s.completeStart :=
  (State.endReinit_accounts w _ _).of_base rfl rfl

end Sys2Proof.Machine
end

section
/-! PROOFS. The law of CONFIG entries through every command (O51, fourth part). -/

namespace Sys2Proof.Machine

/-! ### What a command does to the command in progress -/

/-- What a command owes the law of CONFIG entries: a SYNC that waits is the command in progress, and a WRITE_CONFIG in progress stays so, unless its entry is
freed or the part is HALTED. -/
def State.AccountStep (s t : State) : Prop :=
  (SyncLaw s.account → SyncLaw t.account) ∧ (t.control.mode ≠ .halted → WriteHeld s.account → WriteHeld t.account ∨ s.Releases t)

theorem State.AccountStep.of_eq {s t : State} (command : t.command = s.command) (sync : t.syncRecord = s.syncRecord) : s.AccountStep t := by
  have same : t.account = s.account := by rw [State.account, command, sync, State.account]
  exact ⟨fun h => same ▸ h, fun _ h => .inl (same ▸ h)⟩

theorem State.AccountStep.of_accounts {s t : State} (h : s.Accounts (s.Releases t) t) : s.AccountStep t :=
  ⟨h.syncLaw, fun _ held => (Classical.em (s.Releases t)).symm.imp (fun none => h.writeHeld none held) id⟩

theorem State.AccountStep.of_halted {s t : State} {w : Prop} (h : s.Accounts w t) (mode : t.control.mode = .halted) : s.AccountStep t :=
  ⟨h.syncLaw, fun other => absurd mode other⟩

/-- A CMD write of an idle unit is no matter for a WRITE_CONFIG in progress. -/
theorem State.AccountStep.of_idle {s t : State} (idle : s.command.busy = false) (sync : SyncLaw s.account → SyncLaw t.account) :
    s.AccountStep t :=
  ⟨sync, fun _ held => absurd (idle.symm.trans held.1) nofun⟩

/-! ### The engine's results and the drain starts -/

theorem execReadCompletion_account {bytes : List Byte} {s t : State} (h : execReadCompletion bytes s = .next t) : s.AccountStep t := by
  cases h
  split
  · split
    · exact .of_accounts (((State.deliver_accounts (s.setLink s.link.readEnded) s.link.owner bytes).mono fun released =>
        released.congr rfl rfl rfl).of_base rfl rfl)
    · exact .of_eq rfl rfl
  · exact .of_eq rfl rfl

theorem execStatusReply_account {cond : DeviceCondition} {failFlag : Bool} {s t : State} (h : execStatusReply cond failFlag s = .next t) :
    s.AccountStep t := by
  cases h
  split
  · split
    · exact .of_eq rfl rfl
    · exact .of_accounts (((State.takeReply_accounts (s.setLink s.link.ended) cond failFlag).mono fun released =>
        released.congr rfl rfl rfl).of_base rfl rfl)
  · exact .of_eq rfl rfl

theorem execPfailAssertion_account {s t : State} (h : execPfailAssertion s = .next t) : s.AccountStep t := by
  cases h
  split
  · exact .of_eq rfl rfl
  · unfold State.pfailAsserts
    split
    · exact .of_accounts ((State.drainStart_accounts _ (s.setPfail true) .pfail).of_base rfl rfl)
    all_goals exact .of_eq rfl rfl

theorem execReinitClaim_account {s t : State} (h : execReinitClaim s = .next t) : s.AccountStep t := by
  cases h
  split
  · unfold State.takeReinitClaim
    split
    · exact .of_accounts
        ((State.drainStart_accounts _ (s.setControl { s.control with reinitClaimed := false, reinitPending := true }) .reinit).of_base rfl rfl)
    · exact .of_eq rfl rfl
    · exact .of_eq rfl rfl
    · exact .of_accounts
        ((State.endReinit_accounts _ (s.setControl { s.control with reinitClaimed := false }) .failed).of_base rfl rfl)
    · exact .of_eq rfl rfl
  · exact .of_eq rfl rfl

theorem execSize_account {asize : BitVec 3} {s t : State} (h : execSize asize s = .next t) : s.AccountStep t := by
  cases h
  split
  · unfold State.takeSize
    split
    · exact .of_eq rfl rfl
    · exact .of_accounts (s.enterHalted_accounts _ _)
  · exact .of_eq rfl rfl

/-! ### CMD writes -/

theorem SyncLaw.of_idle {a : CommandUnit × SyncRecord} (idle : a.2.isWaiting = false) : SyncLaw a := fun waiting => by
  rw [idle] at waiting
  cases waiting

/-- Where SYNC is no command in progress it does not wait. -/
theorem SyncLaw.not_waiting {a : CommandUnit × SyncRecord} (law : SyncLaw a) (idle : a.1.busy = false) : a.2.isWaiting = false := by
  by_contra waiting
  rw [Bool.not_eq_false] at waiting
  exact absurd (idle.symm.trans (law waiting).1) nofun

theorem State.acceptSync_account (s : State) : SyncLaw (s.noteCommand (some .sync)).acceptSync.account := by
  let v := (s.noteCommand (some .sync)).sealSlots (s.noteCommand (some .sync)).openSlots
  have command : v.command = (s.noteCommand (some .sync)).command := by simp [v]
  have outcome : (s.noteCommand (some .sync)).acceptSync = { v with syncRecord := v.syncOutcome.1, command := v.syncOutcome.2 } :=
    State.awaitSync_eq (s := v) (by rw [command]; rfl) (by rw [command]; rfl)
  rw [outcome]
  show SyncLaw (v.syncOutcome.2, v.syncOutcome.1)
  unfold State.syncOutcome
  split
  · exact .of_idle rfl
  split
  · exact .of_idle rfl
  · exact fun _ => ⟨rfl, rfl⟩

theorem State.commandOwner_sync {c : MgmtCommand} (hc : c ≠ .sync) (s : State) : (commandOwner c s).syncRecord = s.syncRecord := by
  cases c with
  | sync => exact absurd rfl hc
  | _ => simp [commandOwner]

theorem State.runCommand_account (s : State) (c : MgmtCommand) : s.AccountStep (s.runCommand c (commandOwner c)) := by
  unfold State.runCommand
  cases busy : s.command.busy
  · refine .of_idle busy fun law => ?_
    have quiet : s.syncRecord.isWaiting = false := law.not_waiting busy
    rw [if_neg Bool.false_ne_true]
    split
    · by_cases hc : c = .sync
      · subst hc
        exact s.acceptSync_account
      · exact .of_idle (by rw [State.account, State.commandOwner_sync hc]; exact quiet)
    · exact .of_idle quiet
  · rw [if_pos rfl]
    exact ⟨id, fun _ held => .inl held⟩

theorem State.writeEffect_account (s : State) (a v : Byte) : s.AccountStep (s.writeEffect a v) := by
  unfold State.writeEffect
  split
  · exact .of_eq rfl rfl
  · split
    · unfold State.writeCmd
      split
      · exact s.runCommand_account _
      · unfold State.rejectCode
        cases busy : s.command.busy
        · exact .of_idle busy fun law => .of_idle (law.not_waiting busy)
        · exact ⟨id, fun _ held => .inl held⟩
    · exact .of_eq rfl rfl
    · exact .of_eq (by simp) (by simp)
    · exact .of_eq rfl rfl

theorem State.Releases.of_entries {s t u : State} (h : s.Releases t) (entries : u.entries = t.entries) : s.Releases u :=
  h.congr rfl rfl entries

theorem State.AccountStep.of_result {s t u : State} (h : s.AccountStep t) (command : u.command = t.command)
    (sync : u.syncRecord = t.syncRecord) (mode : u.control = t.control) (entries : u.entries = t.entries) : s.AccountStep u := by
  have same : u.account = t.account := by rw [State.account, command, sync, State.account]
  rw [State.AccountStep, same, mode]
  exact ⟨h.1, fun live held => (h.2 live held).imp_right fun released => released.of_entries entries⟩

theorem State.onPort_account {s : State} {f : State → State} {u : State} (h : s.AccountStep u) (command : (f s).command = u.command)
    (sync : (f s).syncRecord = u.syncRecord) (mode : (f s).control = u.control) (entries : (f s).entries = u.entries) :
    s.AccountStep (s.onPort f) := by
  unfold State.onPort
  split
  · exact h.of_result command sync mode entries
  · exact .of_eq rfl rfl

theorem State.writeCommand_account (s : State) (c : MgmtCommand) : s.AccountStep (s.writeCommand c (commandOwner c)) :=
  State.onPort_account (s.runCommand_account c) rfl rfl rfl rfl

/-- What every command but the resets does to the command in progress. -/
theorem exec_account {c : Instr} {s t : State} (hc : isReset c = false) (h : exec c s = .next t) : s.AccountStep t := by
  cases c with
  | powerOn | resetNAssertion | resetNDeassertion => cases hc
  | readCompletion bytes => exact execReadCompletion_account h
  | statusReply cond failFlag => exact execStatusReply_account h
  | resetWaitTimerExpiry =>
    cases h
    split
    · exact .of_halted s.linkDown_accounts s.linkDown_control.1
    · exact .of_eq rfl rfl
  | pfailAssertion => exact execPfailAssertion_account h
  | deferredDrainStart =>
    cases h
    split
    · exact .of_accounts (State.drainStart_accounts _ s _)
    · exact .of_eq rfl rfl
  | reinitClaim => exact execReinitClaim_account h
  | size asize => exact execSize_account h
  | startComplete =>
    cases h
    split
    · exact .of_accounts (State.completeStart_accounts _ s)
    · exact .of_eq rfl rfl
  | sync => cases h; exact s.writeCommand_account .sync
  | retryEntry => cases h; exact s.writeCommand_account .retryEntry
  | discardEntry => cases h; exact s.writeCommand_account .discardEntry
  | setRegion => cases h; exact s.writeCommand_account .setRegion
  | freezeRegion => cases h; exact s.writeCommand_account .freezeRegion
  | writeConfig => cases h; exact s.writeCommand_account .writeConfig
  | reinit => cases h; exact s.writeCommand_account .reinit
  | clearCounters => cases h; exact s.writeCommand_account .clearCounters
  | inspectEntry => cases h; exact s.writeCommand_account .inspectEntry
  | unknownCommand code => cases h; exact State.onPort_account (s.writeEffect_account cmdAddr code) rfl rfl rfl rfl
  | registerWrite value => cases h; exact State.onPort_account (s.writeEffect_account s.port.pointer value) rfl rfl rfl rfl
  | _ => exact .of_eq ((exec_quiet h).command rfl).1 ((exec_quiet h).command rfl).2

/-! ### HALTED is left by a reset alone (R169) -/

theorem exec_halted {c : Instr} {s t : State} (halted : s.control.mode = .halted) (hc : isReset c = false) (h : exec c s = .next t) :
    t.control.mode = .halted := by
  have port {f : State → State} (hf : (f s).control.mode = s.control.mode) : (s.onPort f).control.mode = .halted := by
    unfold State.onPort
    split
    · exact hf.trans halted
    · exact halted
  cases c with
  | powerOn | resetNAssertion | resetNDeassertion => cases hc
  | resetWaitTimerExpiry =>
    cases h
    split
    · exact s.linkDown_control.1
    · exact halted
  | pfailAssertion => cases h; split <;> simp [State.pfailAsserts, State.setPfail, halted]
  | pfailDeassertion => cases h; split <;> simp [State.pfailDeasserts, State.setPfail, halted]
  | deferredDrainStart => cases h; simp [halted]
  | reinitClaim => cases h; split <;> simp [State.takeReinitClaim, halted]
  | drainCompletion => cases h; simp [halted]
  | size => cases h; simp [State.inPhase, halted]
  | startComplete => cases h; simp [State.inPhase, halted]
  | reinit => cases h; exact port (s.commandOwner_control .reinit).1
  | unknownCommand code => cases h; exact port (s.writeEffect_control _ _).1
  | registerWrite value => cases h; exact port (s.writeEffect_control _ _).1
  | _ => rw [(exec_quiet h).control rfl]; exact halted

/-! ### The law of CONFIG entries (R3, R183) -/

/-- A slot that holds a CONFIG entry in use. -/
def State.HoldsConfig (s : State) (i : Slot) : Prop := s.entries[i].state ≠ .free ∧ s.entries[i].origin = some .config

theorem State.configLaw_iff {s : State} : s.ConfigLaw ↔
    (s.control.mode ≠ .halted → (∀ i : Slot, s.HoldsConfig i → s.command.busy = true ∧ s.command.last = some .writeConfig) ∧
      ∀ i j : Slot, s.HoldsConfig i → s.HoldsConfig j → i = j) ∧ SyncLaw s.account :=
  ⟨fun ⟨held, sync⟩ => ⟨fun live => ⟨fun i hi => (held live).1 i hi.1 hi.2, fun i j hi hj => (held live).2 i j hi.1 hj.1 hi.2 hj.2⟩, sync⟩,
    fun ⟨held, sync⟩ => ⟨fun live => ⟨fun i used origin => (held live).1 i ⟨used, origin⟩,
      fun i j ui uj oi oj => (held live).2 i j ⟨ui, oi⟩ ⟨uj, oj⟩⟩, sync⟩⟩

/-- After a run of moves, and beside the slot of an allocation, a CONFIG entry in use was so before. -/
theorem State.StagingStep.holdsConfig {s t : State} (law : s.StagingLaw) (step : s.StagingStep t) :
    (∀ j : Slot, t.HoldsConfig j → s.HoldsConfig j) ∨
    (∃ i : Slot, s.command.busy = false ∧ t.command.busy = true ∧ t.command.last = some .writeConfig ∧
      ∀ j : Slot, j ≠ i → t.HoldsConfig j → s.HoldsConfig j) := by
  rcases step with ⟨i, page, origin, ⟨e, taken, running, alone, table⟩, place, config⟩ | moves
  · have entries (j : Slot) : t.entries[j] = if j = i then e else s.entries[j] :=
      (congrArg (fun T : Table => T.entries[j]) table).trans (s.table.put_get i j e)
    have others (j : Slot) (hj : j ≠ i) (holds : t.HoldsConfig j) : s.HoldsConfig j := by
      rw [State.HoldsConfig, entries, if_neg hj] at holds
      exact holds
    by_cases isConfig : origin = .config
    · exact .inr ⟨i, (config isConfig).1, (config isConfig).2.1, (config isConfig).2.2, others⟩
    · refine .inl fun j holds => others j (fun hj => isConfig ?_) holds
      have here := holds.2
      rw [entries, if_pos hj, taken.origin] at here
      exact Option.some.inj here
  · refine .inl fun j holds => ?_
    obtain ⟨used, _, origin, _⟩ := (Table.Moves.kept law.table moves j).use holds.1
    exact ⟨used, origin.symm.trans holds.2⟩

theorem State.configLaw_of {s t : State} (law : s.StagingLaw) (before : s.ConfigLaw) (step : s.StagingStep t)
    (halted : t.control.mode ≠ .halted → s.control.mode ≠ .halted) (account : s.AccountStep t) : t.ConfigLaw := by
  obtain ⟨held, sync⟩ := State.configLaw_iff.mp before
  refine State.configLaw_iff.mpr ⟨fun live => ?_, account.1 sync⟩
  obtain ⟨write, unique⟩ := held (halted live)
  rcases step.holdsConfig law with same | ⟨i, idle, busy, last, others⟩
  · refine ⟨fun i holds => ?_, fun i j hi hj => unique i j (same i hi) (same j hj)⟩
    obtain ⟨busy, last⟩ := write i (same i holds)
    have quiet : s.syncRecord.isWaiting = false := by
      by_contra waiting
      have := (sync (Bool.not_eq_false _ ▸ waiting)).2
      exact absurd (last.symm.trans this) nofun
    rcases account.2 live ⟨busy, last, quiet⟩ with now | ⟨k, hand, config, free⟩
    · exact ⟨now.1, now.2.1⟩
    · have used : s.entries[k].state ≠ .free := fun free => by
        rw [show s.entries[k].state = .committing from (law.table.hand k).mp hand] at free
        cases free
      have here : i = k := unique i k (same i holds) ⟨used, config⟩
      exact absurd (here ▸ free) holds.1
  · have none (j : Slot) : ¬ s.HoldsConfig j := fun holds => absurd (idle.symm.trans (write j holds).1) nofun
    have only (j : Slot) (holds : t.HoldsConfig j) : j = i := by
      by_contra hj
      exact none j (others j hj holds)
    exact ⟨fun _ _ => ⟨busy, last⟩, fun j k hj hk => (only j hj).trans (only k hk).symm⟩

/-- A table that a reset has cleared holds no CONFIG entry. -/
theorem State.configLaw_of_clear {t : State} (entries : ∀ i : Slot, t.entries[i] = Entry.initial) (idle : t.syncRecord.isWaiting = false) :
    t.ConfigLaw := by
  have none (i : Slot) : ¬ t.HoldsConfig i := fun holds => holds.1 (by rw [entries]; rfl)
  exact State.configLaw_iff.mpr ⟨fun _ => ⟨fun i hi => absurd hi (none i), fun i _ hi => absurd hi (none i)⟩, .of_idle idle⟩

theorem exec_configLaw {c : Instr} {s t : State} (law : s.StagingLaw) (reset : s.ResetLaw) (before : s.ConfigLaw)
    (h : exec c s = .next t) : t.ConfigLaw := by
  cases hc : isReset c with
  | false =>
    exact State.configLaw_of law before (exec_step law (clearsTable_of_not_reset hc) h) (fun live halted => live (exec_halted halted hc h)) (exec_account hc h)
  | true =>
    cases c with
    | powerOn pfail maddr => cases h; exact State.configLaw_of_clear (s.poweredOn_get pfail maddr) rfl
    | resetNAssertion =>
      cases h
      split
      · exact before
      · exact State.configLaw_of_clear s.resetNAsserted_get rfl
    | resetNDeassertion pfail maddr =>
      cases h
      split
      · rename_i asserted
        exact ⟨fun _ => before.1 (by rw [(reset asserted).1]; nofun), before.2⟩
      · exact before
    | _ => cases hc

end Sys2Proof.Machine
end

section
/-! PROOFS. The device size, the window, the copies' verdicts and the refresh table through every command (O51, fifth part). -/

namespace Sys2Proof.Machine

/-! ### The part of the state that the law of places reads beside the entries -/

/-- What fixes where entries may lie: the mode, the sequencer's record of the device and its copies, the window and the number of refresh records. -/
structure Sizing where
  mode : Mode
  deviceSize : Option Nat
  phase : Phase
  verdictA : Option Verdict
  verdictB : Option Verdict
  applied : Bool
  window : Nat
  sectors : Nat

def State.sizing (s : State) : Sizing where
  mode := s.control.mode
  deviceSize := s.sequencer.deviceSize
  phase := s.sequencer.phase
  verdictA := s.sequencer.verdictA
  verdictB := s.sequencer.verdictB
  applied := s.sequencer.applied
  window := s.params.windowPages
  sectors := s.refresh.records.length

/-- A configuration is in force (R179). -/
def Sizing.Active (z : Sizing) : Prop := z.mode = .running ∨ z.mode = .drain ∨ z.mode = .drained ∨ z.applied = true

/-- A copy has been found VALID, with this record (R177). -/
def Sizing.Found (z : Sizing) (r : ConfigRecord) : Prop := z.verdictA = some (.valid r) ∨ z.verdictB = some (.valid r)

/-- The law of places but for the entries. -/
structure Sizing.Lawful (z : Sizing) : Prop where
  window : z.Active → ∃ n, z.deviceSize = some n ∧ z.window + 64 ≤ n ∧ z.sectors = z.window / 64
  copies : ∀ r : ConfigRecord, z.Found r → ∃ n, z.deviceSize = some n ∧ r.fields.windowPages.toNat + 64 ≤ n
  least : ∀ n, z.deviceSize = some n → 64 ≤ n
  unsampled : z.phase = .size → z.deviceSize = none
  sampled : z.phase ≠ .idle → z.phase ≠ .size → z.deviceSize.isSome

/-- Where the entries in use lie (R53, R148, R175). -/
def State.EntriesPlaced (s : State) : Prop :=
  ∀ (i : Slot) (page : Nat), s.entries[i].state ≠ .free → s.entries[i].page = some page →
    ∃ n, s.sequencer.deviceSize = some n ∧ if s.entries[i].origin = some .config then n ≤ page + 64 else page + 64 < n

theorem State.placeLaw_iff {s : State} :
    s.PlaceLaw ↔ s.EntriesPlaced ∧ s.sizing.Lawful ∧ (s.resetAsserted = true → ∀ i : Slot, s.entries[i].state = .free) :=
  ⟨fun ⟨entries, window, copies, least, unsampled, sampled, clear⟩ => ⟨entries, ⟨window, copies, least, unsampled, sampled⟩, clear⟩,
    fun ⟨entries, ⟨window, copies, least, unsampled, sampled⟩, clear⟩ => ⟨entries, window, copies, least, unsampled, sampled, clear⟩⟩

/-- The law holds after, and a device size once sampled stays. -/
def Sizing.Step (z z' : Sizing) : Prop := z.Lawful → z'.Lawful ∧ ∀ n, z.deviceSize = some n → z'.deviceSize = some n

theorem Sizing.Step.of_eq {z z' : Sizing} (h : z' = z) : z.Step z' := by
  subst h
  exact fun law => ⟨law, fun _ => id⟩

/-- With the device size kept, the law asks for nothing new where no configuration comes into force, no copy is found, and the phase is as it was, IDLE, or one past SIZE. -/
theorem Sizing.Step.of_sized {z z' : Sizing} (size : z'.deviceSize = z.deviceSize)
    (active : z'.Active → z.Active ∧ z'.window = z.window ∧ z'.sectors = z.sectors) (copies : ∀ r, z'.Found r → z.Found r)
    (phase : z'.phase = z.phase ∨ z'.phase = .idle ∨ (z'.phase ≠ .size ∧ (z.Lawful → z.deviceSize.isSome))) : z.Step z' := by
  refine fun law => ⟨⟨fun h => ?_, fun r h => ?_, fun n h => law.least n (size ▸ h), fun h => ?_, fun idle other => ?_⟩, fun n h => size.trans h⟩
  · obtain ⟨before, window, sectors⟩ := active h
    rw [size, window, sectors]
    exact law.window before
  · rw [size]
    exact law.copies r (copies r h)
  · rw [size]
    rcases phase with same | idle | ⟨other, -⟩
    · exact law.unsampled (same.symm.trans h)
    · cases idle.symm.trans h
    · exact absurd h other
  · rw [size]
    rcases phase with same | now | ⟨-, sampled⟩
    · rw [same] at idle other
      exact law.sampled idle other
    · exact absurd now idle
    · exact sampled law

theorem Sizing.Lawful.sized {z : Sizing} (law : z.Lawful) (active : z.Active) : z.deviceSize.isSome := by
  obtain ⟨n, size, -⟩ := law.window active
  rw [size]
  rfl

/-! ### The changes that keep the device size -/

/-- The entry to HALTED takes the sequencer out of its phase (R169). -/
def Sizing.halted (z : Sizing) : Sizing := { z with mode := .halted, phase := .idle, applied := false }

theorem Sizing.halted_step (z : Sizing) : z.Step z.halted :=
  .of_sized rfl (fun h => by simp [Sizing.Active, Sizing.halted] at h) (fun _ => id) (.inr (.inl rfl))

theorem Sizing.mode_step (z : Sizing) (m : Mode) (h : z.Active) : z.Step { z with mode := m } :=
  .of_sized rfl (fun _ => ⟨h, rfl, rfl⟩) (fun _ => id) (.inl rfl)

/-- The start-up of a REINIT (R172). -/
def Sizing.restarted (z : Sizing) : Sizing :=
  { z with mode := .start, phase := .readA, verdictA := none, verdictB := none, applied := false }

theorem Sizing.restarted_step (z : Sizing) (h : z.Active) : z.Step z.restarted :=
  .of_sized rfl (fun h => by simp [Sizing.Active, Sizing.restarted] at h) (fun r h => by simp [Sizing.Found, Sizing.restarted] at h)
    (.inr (.inr ⟨nofun, fun law => law.sized h⟩))

/-- The end of a start-up (R179). -/
def Sizing.finished (z : Sizing) : Sizing :=
  { z with mode := .running, phase := .idle, verdictA := none, verdictB := none, applied := false }

theorem Sizing.finished_step (z : Sizing) (h : z.Active) : z.Step z.finished :=
  .of_sized rfl (fun _ => ⟨h, rfl, rfl⟩) (fun r h => by simp [Sizing.Found, Sizing.finished] at h) (.inr (.inl rfl))

/-! ### The engine's results (R42, R44) -/

theorem State.sizing_of {s t : State} (control : t.control.mode = s.control.mode) (sequencer : t.sequencer = s.sequencer)
    (params : t.params = s.params) (refresh : t.refresh.records.length = s.refresh.records.length) : t.sizing = s.sizing := by
  simp only [State.sizing, control, sequencer, params, refresh]

theorem State.modifyRecord_sectors (s : State) (sector : Nat) (f : RefreshRecord → RefreshRecord) :
    (s.modifyRecord sector f).refresh.records.length = s.refresh.records.length := by
  simp [State.modifyRecord]

theorem State.countCommit_sectors (s : State) (page : Nat) : (s.countCommit page).refresh.records.length = s.refresh.records.length := by
  unfold State.countCommit
  split
  · rfl
  · exact s.modifyRecord_sectors _ _

theorem State.configSucceeded_sizing (s : State) (i : Slot) (page : Option Nat) : (s.configSucceeded i page).sizing = s.sizing := by
  unfold State.configSucceeded
  split
  · simp [State.sizing, State.configLoaded]
  · rfl

theorem State.configFailed_sizing (s : State) (i : Slot) (page : Option Nat) (cause : CommitCause) :
    (s.configFailed i page cause).sizing = s.sizing := by
  unfold State.configFailed
  split
  · simp [State.sizing]
  · rfl

theorem State.commitSucceeds_sizing (s : State) (i : Slot) : (s.commitSucceeds i).sizing = s.sizing := by
  simp only [State.commitSucceeds]
  split
  · exact (State.configSucceeded_sizing _ i _).trans (State.sizing_of (by simp) (by simp) (by simp) (by simp))
  · exact State.sizing_of (by simp) (by simp) (by simp) ((State.countCommit_sectors _ _).trans (by simp))

theorem State.commitFails_sizing (s : State) (i : Slot) (cause : CommitCause) : (s.commitFails i cause).sizing = s.sizing := by
  simp only [State.commitFails]
  split
  · exact (State.configFailed_sizing _ i _ cause).trans (State.sizing_of (by simp) (by simp) (by simp) (by simp))
  · exact State.sizing_of (by simp) (by simp) (by simp) (by simp)

theorem State.attemptFails_sizing (s : State) (cause : CommitCause) : (s.attemptFails cause).sizing = s.sizing := by
  unfold State.attemptFails
  split
  · rfl
  split
  · exact State.sizing_of (by simp) (by simp) (by simp) (by simp)
  · exact (State.commitFails_sizing _ _ cause).trans (State.sizing_of (by simp) (by simp) (by simp) (by simp))

theorem State.enterStage_sizing (s : State) (stage : Stage) : (s.enterStage stage).sizing = s.sizing :=
  State.sizing_of (by simp) (by simp) (by simp) (by simp)

theorem State.operationResult_sizing (s : State) (failFlag : Bool) : (s.operationResult failFlag).sizing = s.sizing := by
  unfold State.operationResult
  split
  · rfl
  split
  · split
    · exact s.attemptFails_sizing _
    · exact s.enterStage_sizing _
  · split
    · exact s.attemptFails_sizing _
    split
    · exact s.enterStage_sizing _
    · exact s.commitSucceeds_sizing _
  · rfl

theorem State.engineBytes_sizing (s : State) (bytes : List Byte) : (s.engineBytes bytes).sizing = s.sizing := by
  unfold State.engineBytes
  split
  · rfl
  split
  · exact State.sizing_of (by simp) (by simp) (by simp) (by simp)
  · unfold State.verifyCompletes
    split
    · exact s.commitSucceeds_sizing _
    · exact (State.attemptFails_sizing _ _).trans (State.sizing_of (by simp) (by simp) (by simp) (by simp))
  · rfl

/-! ### The copies (R175, R177) -/

theorem validate_valid {n : Nat} {l : List Byte} {r : ConfigRecord} (h : validate n l = .valid r) : r.fields.windowOk n = true := by
  simp only [validate] at h
  split at h; · cases h
  split at h; · cases h
  split at h; · cases h
  split at h; · cases h
  split at h; · cases h
  split at h; · cases h
  rename_i window
  split at h; · cases h
  cases h
  simpa using window

theorem RecordFields.windowOk_le {f : RecordFields} {n : Nat} (h : f.windowOk n = true) : f.windowPages.toNat + 64 ≤ n := by
  simp only [RecordFields.windowOk, Bool.and_eq_true, decide_eq_true_eq] at h
  exact h.2

/-- A verdict on the bytes of a copy of a device of known size, and the next phase. -/
theorem Sizing.judged_step {z z' : Sizing} {bytes : List Byte} (reading : z.phase ≠ .idle ∧ z.phase ≠ .size)
    (size : z'.deviceSize = z.deviceSize) (active : z'.Active → z.Active ∧ z'.window = z.window ∧ z'.sectors = z.sectors)
    (copies : ∀ r, z'.Found r → z.Found r ∨ validate (z.deviceSize.getD 0) bytes = .valid r) (phase : z'.phase ≠ .size) : z.Step z' := by
  refine fun law => ⟨?_, fun n h => size.trans h⟩
  have sampled : z.deviceSize.isSome := law.sampled reading.1 reading.2
  refine ⟨fun h => ?_, fun r h => ?_, fun n h => law.least n (size ▸ h), fun h => absurd h phase, fun _ _ => by rw [size]; exact sampled⟩
  · obtain ⟨before, window, sectors⟩ := active h
    rw [size, window, sectors]
    exact law.window before
  · rw [size]
    rcases copies r h with found | valid
    · exact law.copies r found
    · obtain ⟨n, hn⟩ := Option.isSome_iff_exists.mp sampled
      rw [hn] at valid
      exact ⟨n, hn, RecordFields.windowOk_le (validate_valid valid)⟩

theorem State.copyRead_step (s : State) (bytes : List Byte) : s.sizing.Step (s.copyRead bytes).sizing := by
  simp only [State.copyRead]
  split
  · rename_i phase
    refine Sizing.judged_step (bytes := bytes) ⟨?_, ?_⟩ ?_ (fun h => ?_) (fun r h => ?_) ?_
    · rw [show s.sizing.phase = _ from phase]; nofun
    · rw [show s.sizing.phase = _ from phase]; nofun
    · rfl
    · simpa [Sizing.Active, State.sizing] using h
    · simp only [Sizing.Found, State.sizing, State.setSequencer_sequencer, Option.some.injEq] at h ⊢
      exact h.elim .inr fun old => .inl (.inr old)
    · simp [State.sizing]
  · rename_i phase
    refine Sizing.judged_step (bytes := bytes) ⟨?_, ?_⟩ ?_ (fun h => ?_) (fun r h => ?_) ?_
    · rw [show s.sizing.phase = _ from phase]; nofun
    · rw [show s.sizing.phase = _ from phase]; nofun
    · rfl
    · simpa [Sizing.Active, State.sizing] using h
    · simp only [Sizing.Found, State.sizing, State.setSequencer_sequencer, Option.some.injEq] at h ⊢
      exact h.elim (fun old => .inl (.inl old)) .inr
    · simp [State.sizing]
  · exact .of_eq rfl

theorem State.deliver_step (s : State) (owner : Option Owner) (bytes : List Byte) : s.sizing.Step (s.deliver owner bytes).sizing := by
  unfold State.deliver
  split
  · exact .of_eq (s.engineBytes_sizing bytes)
  · exact .of_eq (State.sizing_of (by simp) (by simp) (by simp) (by simp))
  · exact s.copyRead_step bytes
  · exact .of_eq rfl
  · exact .of_eq rfl

/-- After the start-up RESET the sequencer goes on to read copy A (R174). -/
theorem State.deviceRecovered_step (s : State) : s.sizing.Step s.deviceRecovered.sizing := by
  unfold State.deviceRecovered
  split
  · exact .of_eq (State.attemptFails_sizing _ _)
  split
  · rename_i phase
    refine .of_sized rfl (fun h => ⟨h, rfl, rfl⟩) (fun _ => id) (.inr (.inr ⟨nofun, fun law => ?_⟩))
    have here : s.sizing.phase = .deviceReset := phase
    exact law.sampled (by rw [here]; nofun) (by rw [here]; nofun)
  · exact .of_eq rfl

theorem State.takeReply_step (s : State) (cond : DeviceCondition) (failFlag : Bool) : s.sizing.Step (s.takeReply cond failFlag).sizing := by
  have completes : s.sizing.Step (s.operationCompletes failFlag).sizing :=
    .of_eq ((State.operationResult_sizing _ failFlag).trans (State.sizing_of (by simp) (by simp) (by simp) (by simp)))
  unfold State.takeReply
  split
  · exact completes
  · exact completes
  · exact .of_eq (State.sizing_of (by simp) (by simp) (by simp) (by simp))
  · exact s.deviceRecovered_step
  · exact .of_eq (State.sizing_of (by simp) (by simp) (by simp) (by simp))

/-! ### The link DOWN (R72, R169) -/

theorem State.haltMode_sizing (s : State) (cause : HaltCause) : (s.haltMode cause).sizing = s.sizing.halted := by
  have sequencer : (s.haltMode cause).sequencer = { s.sequencer with phase := .idle, startKind := none, applied := false } := by
    simp only [State.haltMode]
    split <;> simp
  simp only [State.sizing, Sizing.halted, s.haltMode_control, sequencer, s.haltMode_frame]

theorem State.enterHalted_sizing (s : State) (cause : HaltCause) : (s.enterHalted cause).sizing = s.sizing.halted :=
  (State.sizing_of (by simp [State.enterHalted]) (by simp [State.enterHalted]) (by simp [State.enterHalted]) (by simp [State.enterHalted])).trans
    (s.haltMode_sizing cause)

theorem State.downStep_sizing (i : Slot) (s : State) (step : DownStep) :
    (State.downStep i s step).sizing = if step = .halt then s.sizing.halted else s.sizing := by
  cases step with
  | halt => exact s.haltMode_sizing _
  | engine => exact State.sizing_of (by simp [State.downStep]) (by simp [State.downStep]) (by simp [State.downStep]) (by simp [State.downStep])
  | notice => exact State.sizing_of (by simp [State.downStep]) (by simp [State.downStep]) (by simp [State.downStep]) (by simp [State.downStep])
  | report =>
    simp only [State.downStep, State.deviceReport, reduceCtorEq, if_false]
    split
    · exact s.configFailed_sizing i _ _
    · exact State.sizing_of (by simp) (by simp) (by simp) (by simp)
  | queuedConfig =>
    simp only [State.downStep, State.endQueuedConfig, reduceCtorEq, if_false]
    split
    · exact s.configFailed_sizing _ _ _
    · rfl

theorem State.foldl_downStep_sizing (i : Slot) (z : Sizing) (l : List DownStep) (s : State)
    (h : s.sizing = z ∧ DownStep.halt ∈ l ∨ s.sizing = z.halted) : (l.foldl (State.downStep i) s).sizing = z.halted := by
  induction l generalizing s with
  | nil => exact h.resolve_left fun h => List.not_mem_nil h.2
  | cons step l ih =>
    refine ih _ ?_
    rw [State.downStep_sizing]
    split
    · exact .inr (h.elim (fun h => congrArg Sizing.halted h.1) fun h => by rw [h]; rfl)
    · rename_i other
      exact h.imp_left fun ⟨same, mem⟩ => ⟨same, (List.mem_cons.mp mem).resolve_left fun h => other h.symm⟩

theorem State.linkDown_sizing (s : State) : s.linkDown.sizing = s.sizing.halted := by
  simp only [State.linkDown]
  split
  · exact State.foldl_downStep_sizing _ s.sizing _ _ (.inl ⟨rfl, mem_stepsOf _ _ _⟩)
  · exact State.enterHalted_sizing _ _

/-! ### The drain (R161, R166, R167) and the REINIT claim (R164) -/

theorem State.drainStart_sizing (s : State) (cause : DrainCause) : (s.drainStart cause).sizing = { s.sizing with mode := .drain } := by
  have sectors : (s.drainStart cause).refresh.records.length = s.refresh.records.length := by
    rw [State.drainStart_eq]
    exact (State.dropRefresh_scan _).2.trans (by simp [State.drainBegun])
  simp only [State.sizing, s.drainStart_control, s.drainStart_frame, sectors]

theorem State.drainStart_step (s : State) (cause : DrainCause) (h : s.control.mode = .running) :
    s.sizing.Step (s.drainStart cause).sizing := by
  rw [s.drainStart_sizing]
  exact s.sizing.mode_step .drain (.inl h)

theorem State.leaveDrain_step (s : State) (h : s.sizing.Active) : s.sizing.Step s.leaveDrain.sizing := by
  unfold State.leaveDrain
  split
  · exact s.sizing.restarted_step h
  · exact s.sizing.mode_step .running h

theorem execDrainCompletion_sizing {s t : State} (h : execDrainCompletion s = .next t) : s.sizing.Step t.sizing := by
  cases h
  split
  · rename_i ready
    have active : s.sizing.Active := .inr (.inl ready.1)
    simp only [State.completeDrain]
    split
    · exact s.sizing.mode_step .drained active
    · exact State.leaveDrain_step (s.appendEvent _ none none none) active
  · exact .of_eq rfl

theorem execPfailDeassertion_sizing {s t : State} (h : execPfailDeassertion s = .next t) : s.sizing.Step t.sizing := by
  cases h
  split
  · exact .of_eq rfl
  unfold State.pfailDeasserts
  split
  · exact State.leaveDrain_step ((s.setPfail false).appendEvent _ none none none) (.inr (.inr (.inl ‹_›)))
  · exact .of_eq rfl

theorem execPfailAssertion_sizing {s t : State} (h : execPfailAssertion s = .next t) : s.sizing.Step t.sizing := by
  cases h
  split
  · exact .of_eq rfl
  unfold State.pfailAsserts
  split
  · exact State.drainStart_step (s.setPfail true) .pfail ‹_›
  all_goals exact .of_eq rfl

theorem execReinitClaim_sizing {s t : State} (h : execReinitClaim s = .next t) : s.sizing.Step t.sizing := by
  cases h
  split
  · unfold State.takeReinitClaim
    split
    · exact State.drainStart_step (s.setControl { s.control with reinitClaimed := false, reinitPending := true }) .reinit ‹_›
    · exact .of_eq rfl
    · exact .of_eq rfl
    · exact .of_eq (State.sizing_of (by simp) (by simp) (by simp) (by simp))
    · exact .of_eq rfl
  · exact .of_eq rfl

/-! ### The start-up (R173, R179) -/

theorem le_deviceSizeOf {asize : BitVec 3} {n : Nat} (h : deviceSizeOf asize = some n) : 64 ≤ n := by
  have known : ∀ a : BitVec 3, (deviceSizeOf a).getD 64 ≥ 64 := by decide
  have here := known asize
  rwa [h] at here

theorem execSize_sizing {asize : BitVec 3} {s t : State} (h : execSize asize s = .next t) : s.sizing.Step t.sizing := by
  cases h
  split
  · rename_i ready
    have phase : s.sizing.phase = .size := (State.inPhase_iff.mp ready).2
    unfold State.takeSize
    split
    · rename_i n size
      intro law
      have unknown (k : Nat) : s.sizing.deviceSize ≠ some k := by rw [law.unsampled phase]; nofun
      refine ⟨⟨fun active => ?_, fun r found => ?_, fun k hk => ?_, nofun, fun _ _ => rfl⟩, fun k hk => absurd hk (unknown k)⟩
      · obtain ⟨k, hk, -⟩ := law.window active
        exact absurd hk (unknown k)
      · obtain ⟨k, hk, -⟩ := law.copies r found
        exact absurd hk (unknown k)
      · cases hk
        exact le_deviceSizeOf size
    · rw [State.enterHalted_sizing]
      exact s.sizing.halted_step
  · exact .of_eq rfl

theorem Refresh.adjust_sectors (t : Refresh) (sectors interval : Nat) : (t.adjust sectors interval).records.length = sectors := by
  simp only [Refresh.adjust, List.length_map, List.length_append, List.length_take, List.length_replicate]
  omega

theorem State.refreshApplied_sectors (s : State) : s.refreshApplied.refresh.records.length = s.params.windowPages / 64 := by
  unfold State.refreshApplied
  split
  · exact Refresh.adjust_sectors _ _ _
  · exact List.length_replicate

theorem State.applyConfiguration_sizing (s : State) {r : ConfigRecord}
    (hr : r = chosenRecord (chosenCopy s.sequencer.verdictA s.sequencer.verdictB) (s.sequencer.deviceSize.getD 0)) :
    s.applyConfiguration.sizing = { s.sizing with applied := true, window := r.fields.windowPages.toNat,
                                                  sectors := r.fields.windowPages.toNat / 64 } := by
  simp only [State.applyConfiguration, ← hr, State.applyRecord]
  simp [State.sizing, State.refreshApplied_sectors, Sequencer.loaded, State.setParams, State.setShadow, RecordFields.params]

/-- A copy that is chosen has been found VALID (R178). -/
theorem chosenCopy_found {a b : Option Verdict} {c : Copy} {r : ConfigRecord} (h : chosenCopy a b = some (c, r)) :
    a = some (.valid r) ∨ b = some (.valid r) := by
  unfold chosenCopy at h
  split at h
  · split at h <;> cases h
    · exact .inr rfl
    · exact .inl rfl
  · cases h; exact .inl rfl
  · cases h; exact .inr rfl
  · cases h

theorem ConfigRecord.default_window {n : Nat} (h : 64 ≤ n) : (ConfigRecord.default n).fields.windowPages.toNat + 64 ≤ n := by
  have least : (BitVec.ofNat 16 (n - 64)).toNat ≤ n - 64 := by
    rw [BitVec.toNat_ofNat]
    exact Nat.mod_le _ _
  have window : (ConfigRecord.default n).fields.windowPages = BitVec.ofNat 16 (n - 64) := rfl
  rw [window]
  omega

theorem execApply_sizing {s t : State} (h : execApply s = .next t) : s.sizing.Step t.sizing := by
  cases h
  split
  · rename_i ready
    have phase : s.sizing.phase = .apply := (State.inPhase_iff.mp ready.1).2
    intro law
    obtain ⟨n, size⟩ := Option.isSome_iff_exists.mp (law.sampled (by rw [phase]; nofun) (by rw [phase]; nofun))
    generalize hr : chosenRecord (chosenCopy s.sequencer.verdictA s.sequencer.verdictB) (s.sequencer.deviceSize.getD 0) = r
    have fits : r.fields.windowPages.toNat + 64 ≤ n := by
      unfold chosenRecord at hr
      split at hr
      · rename_i c record choice
        obtain ⟨k, hk, le⟩ := law.copies record (chosenCopy_found choice)
        cases hr
        cases size.symm.trans hk
        exact le
      · rw [show s.sequencer.deviceSize = some n from size] at hr
        rw [← hr]
        exact ConfigRecord.default_window (law.least n size)
    rw [s.applyConfiguration_sizing hr.symm]
    exact ⟨⟨fun _ => ⟨n, size, fits, rfl⟩, law.copies, law.least, law.unsampled, law.sampled⟩, fun _ => id⟩
  · exact .of_eq rfl

theorem execStartComplete_sizing {s t : State} (h : execStartComplete s = .next t) : s.sizing.Step t.sizing := by
  cases h
  split
  · rename_i ready
    have finished : s.completeStart.sizing = s.sizing.finished := by
      simp [State.sizing, State.completeStart, State.setMode, Sequencer.finished, Sizing.finished]
    rw [finished]
    exact s.sizing.finished_step (.inr (.inr (.inr ready.2)))
  · exact .of_eq rfl

/-! ### CMD writes and the rest -/

theorem State.commandOwner_sequencer (s : State) (c : MgmtCommand) :
    ∃ target : Option Copy, (commandOwner c s).sequencer = { s.sequencer with writeTarget := target } := by
  cases c with
  | writeConfig =>
    simp only [commandOwner, State.writeConfigCommand]
    split
    · exact ⟨_, by simp; rfl⟩
    split
    · exact ⟨_, by simp; rfl⟩
    split
    · exact ⟨_, by simp; rfl⟩
    · exact ⟨_, by simp [State.stageConfig]; rfl⟩
  | _ => exact ⟨s.sequencer.writeTarget, by simp [commandOwner]⟩

theorem State.runCommand_sizing (s : State) (c : MgmtCommand) : (s.runCommand c (commandOwner c)).sizing = s.sizing := by
  obtain ⟨mode, -⟩ := s.commandOwner_control c
  unfold State.runCommand at mode ⊢
  split
  · exact State.sizing_of (by simp) (by simp) (by simp) (by simp)
  rename_i idle
  rw [if_neg idle] at mode
  split
  · rename_i accepted
    rw [if_pos accepted] at mode
    obtain ⟨target, sequencer⟩ := (s.noteCommand (some c)).commandOwner_sequencer c
    simp only [State.sizing, mode, sequencer, State.commandOwner_frame, State.noteCommand_frame]
  · exact State.sizing_of (by simp) (by simp) (by simp) (by simp)

theorem State.writeEffect_sizing (s : State) (a v : Byte) : (s.writeEffect a v).sizing = s.sizing := by
  unfold State.writeEffect
  split
  · exact State.sizing_of (by simp) (by simp) (by simp) (by simp)
  split
  · unfold State.writeCmd
    split
    · exact s.runCommand_sizing _
    · exact State.sizing_of (by simp) (by simp) (by simp) (by simp)
  · exact State.sizing_of (by simp) (by simp) (by simp) (by simp)
  · exact State.sizing_of (by simp) (by simp) (by simp) (by simp)
  · rfl

theorem State.onPort_sizing {s : State} {f : State → State} (h : (f s).sizing = s.sizing) : s.sizing.Step (s.onPort f).sizing := by
  unfold State.onPort
  split
  · exact .of_eq h
  · exact .of_eq rfl

theorem execRefreshStep_sizing {s t : State} (h : execRefreshStep s = .next t) : s.sizing.Step t.sizing := by
  have advance (u : State) (sector : Nat) : (u.advanceRefresh sector).refresh.records.length = u.refresh.records.length := by
    simp [State.advanceRefresh]
  cases h
  split
  · split
    · unfold State.refreshSector
      split
      · exact .of_eq (State.sizing_of (by simp) (by simp) (by simp) (advance _ _))
      split
      · exact .of_eq (State.sizing_of (by simp) (by simp) (by simp) ((advance _ _).trans (by simp)))
      · exact .of_eq rfl
    · exact .of_eq rfl
  · exact .of_eq rfl

/-- What every command but the resets does to these parts of the state. -/
theorem exec_sizing {c : Instr} {s t : State} (hc : isReset c = false) (h : exec c s = .next t) : s.sizing.Step t.sizing := by
  cases c with
  | powerOn | resetNAssertion | resetNDeassertion => cases hc
  | readCompletion bytes =>
    cases h
    split
    · split
      · exact State.deliver_step (s.setLink s.link.readEnded) s.link.owner bytes
      · exact .of_eq rfl
    · exact .of_eq rfl
  | statusReply cond failFlag =>
    cases h
    split
    · split
      · exact .of_eq rfl
      · exact State.takeReply_step (s.setLink s.link.ended) cond failFlag
    · exact .of_eq rfl
  | resetWaitTimerExpiry =>
    cases h
    split
    · rw [s.linkDown_sizing]
      exact s.sizing.halted_step
    · exact .of_eq rfl
  | refreshStep => exact execRefreshStep_sizing h
  | pfailAssertion => exact execPfailAssertion_sizing h
  | pfailDeassertion => exact execPfailDeassertion_sizing h
  | deferredDrainStart =>
    cases h
    split
    · exact s.drainStart_step .pfail (And.left ‹_›)
    · exact .of_eq rfl
  | reinitClaim => exact execReinitClaim_sizing h
  | drainCompletion => exact execDrainCompletion_sizing h
  | size asize => exact execSize_sizing h
  | apply => exact execApply_sizing h
  | startComplete => exact execStartComplete_sizing h
  | writeConfig => cases h; exact State.onPort_sizing (s.runCommand_sizing .writeConfig)
  | reinit => cases h; exact State.onPort_sizing (s.runCommand_sizing .reinit)
  | unknownCommand code => cases h; exact State.onPort_sizing (s.writeEffect_sizing _ _)
  | registerWrite value => cases h; exact State.onPort_sizing (s.writeEffect_sizing _ _)
  | _ =>
    have frame := exec_quiet h
    exact .of_eq (State.sizing_of (congrArg ModeController.mode (frame.control rfl)) (frame.sequencer rfl) (frame.params rfl).1
      (congrArg (fun r : Refresh => r.records.length) (frame.params rfl).2))

end Sys2Proof.Machine
end

section
/-! PROOFS. Where entries lie, and the laws of a page together (O51, last part). -/

namespace Sys2Proof.Machine

/-! ### What a step on the staging table keeps -/

theorem State.onePerPage_of {s t : State} (law : s.StagingLaw) (before : s.PageLaw) (step : s.StagingStep t) : t.OnePerPage := by
  have one : s.table.OnePerPage := before.1
  rcases step with ⟨i, page, origin, alloc, -⟩ | moves
  · exact alloc.onePerPage before one
  · exact Table.Moves.onePerPage law.table one moves

/-- An entry in use after a step was in use before it, with its page and origin, or it is the one allocated. -/
theorem State.StagingStep.use {s t : State} (law : s.StagingLaw) (step : s.StagingStep t) {j : Slot} (used : t.entries[j].state ≠ .free) :
    (s.entries[j].state ≠ .free ∧ t.entries[j].page = s.entries[j].page ∧ t.entries[j].origin = s.entries[j].origin) ∨
    ∃ (page : Nat) (origin : Origin), s.control.mode = .running ∧ t.entries[j].page = some page ∧ t.entries[j].origin = some origin ∧
      (s.PlaceLaw → s.Places page origin) := by
  rcases step with ⟨i, page, origin, ⟨e, taken, running, -, table⟩, place, -⟩ | moves
  · have entries : t.entries[j] = if j = i then e else s.entries[j] :=
      (congrArg (fun T : Table => T.entries[j]) table).trans (s.table.put_get i j e)
    rw [entries] at used ⊢
    split
    · exact .inr ⟨page, origin, running, taken.page, taken.origin, place⟩
    · rename_i other
      rw [if_neg other] at used
      exact .inl ⟨used, rfl, rfl⟩
  · obtain ⟨before, page, origin, -⟩ := (Table.Moves.kept law.table moves j).use used
    exact .inl ⟨before, page, origin⟩

theorem State.placeLaw_of {s t : State} (law : s.StagingLaw) (reset : s.ResetLaw) (before : s.PlaceLaw) (step : s.StagingStep t)
    (sizing : s.sizing.Step t.sizing) (asserted : t.resetAsserted = s.resetAsserted) : t.PlaceLaw := by
  obtain ⟨entries, lawful, clear⟩ := State.placeLaw_iff.mp before
  obtain ⟨lawful', sized⟩ := sizing lawful
  refine State.placeLaw_iff.mpr ⟨fun i page used here => ?_, lawful', fun held i => ?_⟩
  · rcases step.use law used with ⟨used, samePage, sameOrigin⟩ | ⟨page', origin, -, hpage, horigin, place⟩
    · obtain ⟨n, size, lies⟩ := entries i page used (samePage.symm.trans here)
      exact ⟨n, sized n size, by rw [sameOrigin]; exact lies⟩
    · obtain ⟨n, size, lies⟩ := place before
      cases hpage.symm.trans here
      refine ⟨n, sized n size, ?_⟩
      rw [horigin]
      simpa only [Option.some.injEq] using lies
  · have held : s.resetAsserted = true := asserted.symm.trans held
    by_contra used
    rcases step.use law used with ⟨used, -⟩ | ⟨_, _, running, -⟩
    · exact used (clear held i)
    · cases (reset held).1.symm.trans running

theorem State.pageLaw_of {s t : State} (law : s.StagingLaw) (reset : s.ResetLaw) (before : s.PageLaw) (step : s.StagingStep t)
    (config : t.ConfigLaw) (sizing : s.sizing.Step t.sizing) (asserted : t.resetAsserted = s.resetAsserted) : t.PageLaw :=
  ⟨State.onePerPage_of law before step, config, State.placeLaw_of law reset before.2.2 step sizing asserted⟩

/-! ### The resets (R28, R173) -/

/-- With nothing sampled and nothing in force the sizes are lawful. -/
theorem Sizing.lawful_of_unsized {z : Sizing} (mode : z.mode = .start) (size : z.deviceSize = none) (applied : z.applied = false)
    (a : z.verdictA = none) (b : z.verdictB = none) (phase : z.phase = .idle ∨ z.phase = .size) : z.Lawful where
  window active := by simp [Sizing.Active, mode, applied] at active
  copies r found := by simp [Sizing.Found, a, b] at found
  least n h := by rw [size] at h; cases h
  unsampled _ := size
  sampled idle other := absurd phase (not_or.mpr ⟨idle, other⟩)

/-- With every entry FREE no page has an entry, wherever the device ends. -/
theorem State.placeLaw_of_clear {t : State} (free : ∀ i : Slot, t.entries[i].state = .free) (lawful : t.sizing.Lawful) : t.PlaceLaw :=
  State.placeLaw_iff.mpr ⟨fun i _ used => absurd (free i) used, lawful, fun _ => free⟩

theorem State.onePerPage_of_clear {t : State} (free : ∀ i : Slot, t.entries[i].state = .free) : t.OnePerPage := by
  rintro i j page - - (⟨absorbing | absorbing, -⟩ | ⟨retired | retired, -⟩)
  · cases (free i).symm.trans absorbing
  · cases (free i).symm.trans absorbing
  · cases (free i).symm.trans retired
  · cases (free i).symm.trans retired

theorem State.pageLaw_of_clear {t : State} (config : t.ConfigLaw) (free : ∀ i : Slot, t.entries[i].state = .free) (lawful : t.sizing.Lawful) :
    t.PageLaw := ⟨State.onePerPage_of_clear free, config, State.placeLaw_of_clear free lawful⟩

theorem exec_pageLaw {c : Instr} {s t : State} (law : s.StagingLaw) (reset : s.ResetLaw) (before : s.PageLaw)
    (h : exec c s = .next t) : t.PageLaw := by
  have config : t.ConfigLaw := exec_configLaw law reset before.2.1 h
  cases hc : isReset c with
  | false =>
    exact State.pageLaw_of law reset before (exec_step law (clearsTable_of_not_reset hc) h) config (exec_sizing hc h) ((exec_quiet h).reset hc)
  | true =>
    cases c with
    | powerOn pfail maddr =>
      cases h
      exact State.pageLaw_of_clear config (fun i => congrArg Entry.state (s.poweredOn_get pfail maddr i))
        (Sizing.lawful_of_unsized rfl rfl rfl rfl rfl (.inr rfl))
    | resetNAssertion =>
      cases h
      by_cases asserted : s.resetAsserted = true
      · rw [if_pos asserted]
        exact before
      · rw [if_neg asserted] at config ⊢
        exact State.pageLaw_of_clear config (fun i => congrArg Entry.state (s.resetNAsserted_get i))
          (Sizing.lawful_of_unsized rfl rfl rfl rfl rfl (.inl rfl))
    | resetNDeassertion pfail maddr =>
      cases h
      by_cases asserted : s.resetAsserted = true
      · rw [if_pos asserted] at config ⊢
        obtain ⟨-, -, clear⟩ := State.placeLaw_iff.mp before.2.2
        exact State.pageLaw_of_clear config (clear asserted) (Sizing.lawful_of_unsized rfl rfl rfl rfl rfl (.inr rfl))
      · rw [if_neg asserted]
        exact before
    | _ => cases hc

theorem State.tick_pageLaw {s : State} (law : s.StagingLaw) (reset : s.ResetLaw) (before : s.PageLaw) : s.tick.PageLaw :=
  State.pageLaw_of law reset before s.tick_step (State.configLaw_of law before.2.1 s.tick_step id (.of_eq rfl rfl)) (.of_eq rfl) rfl

/-! ### The steps -/

theorem step_stagingLaw {s t : State} (law : s.StagingLaw) (reset : s.ResetLaw) (h : step s = .next t) : t.StagingLaw ∧ t.ResetLaw :=
  step_of_exec (H := fun s => s.StagingLaw ∧ s.ResetLaw) (C := fun t => t.StagingLaw ∧ t.ResetLaw) (fun _ _ laws => laws)
    (fun _ laws => ⟨State.tick_stagingLaw laws.1, State.tick_resetLaw laws.2⟩)
    (fun _ _ _ laws h => ⟨exec_stagingLaw laws.1 laws.2 h, exec_resetLaw laws.2 h⟩) ⟨law, reset⟩ h

theorem step_pageLaw {s t : State} (law : s.StagingLaw) (reset : s.ResetLaw) (page : s.PageLaw) (h : step s = .next t) : t.PageLaw :=
  step_of_exec (H := fun s => s.StagingLaw ∧ s.ResetLaw ∧ s.PageLaw) (C := State.PageLaw) (fun _ _ laws => laws)
    (fun _ ⟨law, reset, page⟩ => State.tick_pageLaw law reset page) (fun _ _ _ ⟨law, reset, page⟩ h => exec_pageLaw law reset page h)
    ⟨law, reset, page⟩ h

theorem State.drained_of_psafe {s : State} (h : s.psafe = true) : s.control.mode = .drained := by
  simpa [State.psafe] using h

/-- Settles O51: what a command does to the table (`exec_step`), to the mode (`exec_mode`), to the command in progress (`exec_account`) and to the device and
its window (`exec_sizing`), put together; a tick moves timers alone. -/
theorem stepsKeepTheStagingLaws : Obligations.StepsKeepTheStagingLaws :=
  ⟨fun _ _ law reset h => step_stagingLaw law reset h, fun _ _ law reset page h => step_pageLaw law reset page h,
    fun _ law psafe i => law.settled (.inr (.inl (State.drained_of_psafe psafe))) i⟩

end Sys2Proof.Machine
end

section
/-! PROOFS. The arbiter's grant to the engine (O19), FILL (O22), the result of a long operation (O23), a retry (O24) and the end of a CONFIG commit (O27). -/

namespace Sys2Proof.Machine

/-! ### The arbiter (R60, R62) -/

theorem State.fetchPending_iff {s : State} : s.fetchPending = true ↔ s.ReadWaits := by
  simp only [State.fetchPending, State.ReadWaits, List.any_eq_true, List.mem_finRange, true_and, DttEntry.eligible, Bool.and_eq_true, beq_iff_eq]

theorem State.linkFree_iff {s : State} : s.linkFree = true ↔ s.link.state = .idle ∧ s.link.inFlight = none := by
  simp only [State.linkFree, Link.quiet, Bool.and_eq_true, beq_iff_eq]

/-- The arbiter grants the engine's claim in DRAIN, and in RUNNING and DRAINED where no fetch goes before it. -/
theorem exec_grantsClaim {s : State} {i : Slot} (free : s.linkFree = true) (claim : s.engineClaim = some i)
    (first : s.control.mode = .drain ∨ ((s.control.mode = .running ∨ s.control.mode = .drained) ∧
      (¬ s.ReadWaits ∨ s.params.readStreak ≤ s.link.fetchStreak))) :
    exec .arbiterDecision s = .next (s.grantClaim i) := by
  show Host.Outcome.next (if s.linkFree then _ else _) = _
  rw [if_pos free]
  rcases first with drain | ⟨mode, turn⟩
  · simp only [drain, State.arbitrateDrain, claim]
  · have noFetch : ¬ (s.fetchPending && s.link.fetchStreak < s.params.readStreak) = true := by
      rw [Bool.and_eq_true, State.fetchPending_iff, decide_eq_true_iff]
      exact fun ⟨waits, below⟩ => turn.elim (· waits) (Nat.not_le.mpr below)
    rcases mode with mode | mode <;> simp only [mode, State.arbitrate, claim, if_neg noFetch]

/-! The command that a grant issues for each stage of the engine (R32, R35, R36, R37, R58). -/

theorem State.grantEngine_read {s : State} (stage : s.engine.stage = .fill ∨ s.engine.stage = .verify) (i : Slot) :
    s.grantEngine i = (s.setLink (s.link.issueRead .commit (s.handPage i * 512) 512)).issued := by
  rcases stage with stage | stage <;> simp only [State.grantEngine, stage]

theorem State.grantEngine_erase {s : State} (stage : s.engine.stage = .erase) (i : Slot) : s.grantEngine i =
    ((s.setLink (s.link.startOperation .erase (s.handPage i) (.erase (s.handPage i)))).setPage (s.handPage i) .undefined).issued := by
  simp only [State.grantEngine, stage]

theorem State.grantEngine_program {s : State} (stage : s.engine.stage = .program) (i : Slot) : s.grantEngine i =
    ((s.setLink (s.link.startOperation .program (s.handPage i) (.program (s.handPage i) s.entries[i].buffer))).setPage
      (s.handPage i) .undefined).issued := by
  simp only [State.grantEngine, stage]

/-- Settles O19: the claim is granted, and each stage issues its command. -/
theorem arbiterGrantsTheEngine : Obligations.ArbiterGrantsTheEngine := by
  unfold Obligations.ArbiterGrantsTheEngine
  intro s i page idle quiet waiting slot here first
  have claim : s.engineClaim = some i := by rw [State.engineClaim, if_pos waiting, slot]
  have hand : s.handPage i = page := by rw [State.handPage, here, Option.getD_some]
  have awake : s.link.state ≠ .suspended := by rw [idle]; nofun
  rw [exec_grantsClaim (State.linkFree_iff.mpr ⟨idle, quiet⟩) claim
    (first.imp_right fun ⟨mode, turn⟩ => ⟨mode, turn.imp_left fun none ⟨d, waits, read⟩ => none d waits read⟩), State.grantClaim]
  refine ⟨fun stage => ?_, fun stage => ?_, fun stage => ?_⟩
  · rw [State.grantEngine_read stage, hand, Link.issueRead, if_neg awake]
    rfl
  · rw [State.grantEngine_erase stage, hand]
    rfl
  · rw [State.grantEngine_program stage, hand]
    rfl

/-! ### FILL (R32, R33) -/

theorem Entry.filled_buffer (e : Entry) (bytes : List Byte) (o : Fin 512) :
    (e.filled (imageOf bytes)).buffer[o] = if e.valid.getLsbD o.val then e.buffer[o] else bytes.getD o.val 0#8 := by
  simp only [Entry.filled, mergeImage, imageOf, Fin.getElem_fin, Vector.getElem_ofFn]

/-- The merged page is the array's own where every valid byte is there already (R33). -/
theorem Entry.filled_eq_imageOf {e : Entry} {bytes : List Byte} : (e.filled (imageOf bytes)).buffer = imageOf bytes ↔
    ∀ o : Fin 512, e.valid.getLsbD o.val = true → e.buffer[o] = bytes.getD o.val 0#8 := by
  refine ⟨fun h o valid => ?_, mergeImage_eq_imageOf⟩
  have merged := e.filled_buffer bytes o
  rw [if_pos valid] at merged
  rw [← merged]
  exact (imageOf_eq_iff.mp h.symm o).symm

/-- A FILL that elides nothing: the entry merged, and ERASE next. -/
theorem State.fillCompletes_merges {s : State} {i : Slot} {bytes : List Byte}
    (h : ¬ (s.entries[i].origin = some .host ∧ s.params.elide = true ∧
      ∀ o : Fin 512, s.entries[i].valid.getLsbD o.val = true → s.entries[i].buffer[o] = bytes.getD o.val 0#8)) :
    s.fillCompletes i bytes = (s.setEntry i (s.entries[i].filled (imageOf bytes))).enterStage .erase := by
  refine if_neg fun elided => h ?_
  simp only [Bool.and_eq_true, State.elisionTested, beq_iff_eq, decide_eq_true_iff, Entry.filled_eq_imageOf, and_assoc] at elided
  exact elided

/-- Settles O22: the merge, and the end of an elided commit. -/
theorem fillMergesOrElides : Obligations.FillMergesOrElides := by
  unfold Obligations.FillMergesOrElides
  intro s i bytes slot stage awaits same
  refine ⟨fun merges => ?_, fun host elide equal => ?_⟩
  · let u : State := { s with link := s.link.afterRead }
    have completes : u.engineBytes bytes = (u.setEntry i (s.entries[i].filled (imageOf bytes))).enterStage .erase := by
      rw [← State.fillCompletes_merges (s := u) merges]
      simp only [u, State.engineBytes, slot, stage]
    have here : ((u.setEntry i (s.entries[i].filled (imageOf bytes))).enterStage .erase).entries[i] = s.entries[i].filled (imageOf bytes) :=
      u.setEntry_same i _
    refine ⟨_, (exec_engineBytes awaits).trans (congrArg _ completes), rfl, ?_, fun o => ?_, fun j hj => u.setEntry_other _ hj⟩
    · rw [here]
      rfl
    · rw [here]
      exact s.entries[i].filled_buffer bytes o
  · have ends : s.CommitEndsBy (.readCompletion bytes) i := ⟨slot, .inl ⟨bytes, rfl, awaits, stage, host, elide, equal⟩⟩
    obtain ⟨l, a, leaves, ⟨_, e, generation, run⟩ | ⟨notFill, _⟩⟩ := exec_commitEnds ends
    · obtain ⟨link, array⟩ := leaves.1 bytes rfl
      let u : State := { s with link := l, array := a }
      have entry : ((u.setEntry i e).commitElided i).entries[i] = e.freed := by
        have same : ((u.setEntry i e).commitElided i).entries = ((u.setEntry i e).freeEntry i).entries := by
          simp [State.commitElided]
        rw [same, State.freeEntry_get, if_pos rfl, State.setEntry_same]
      refine ⟨_, run, by simp [State.commitElided, State.engineIdle], congrArg Entry.state entry, (congrArg Entry.generation entry).trans generation,
        by simp [State.commitElided, State.countElided], by simpa using link, by simpa using array, by simp, by simp, by simp⟩
    · exact absurd stage notFill

/-! ### The result of an erase or a program (R35, R36) -/

theorem State.pagesAfter_eq {s : State} {page : Nat} (opPage : s.link.opPage = some page) (failFlag : Bool) :
    s.pagesAfter failFlag = insertPage page (s.operationLeaves failFlag) s.array :=
  State.setOpPage_array (s := s.setLink s.link.ended) opPage _

theorem State.operationResult_erased {s : State} {i : Slot} (slot : s.engine.slot = some i) (stage : s.engine.stage = .erase) :
    s.operationResult false = s.enterStage .program := by
  simp only [State.operationResult, slot, stage, Bool.false_eq_true, if_false]

theorem State.operationResult_programmed {s : State} {i : Slot} (slot : s.engine.slot = some i) (stage : s.engine.stage = .program)
    (required : s.params.verify = true ∨ s.entries[i].origin = some .config) : s.operationResult false = s.enterStage .verify := by
  have verify : s.verifyRequired i = true := by rwa [State.verifyRequired, Bool.or_eq_true, beq_iff_eq]
  simp only [State.operationResult, slot, stage, Bool.false_eq_true, if_false, if_pos verify]

/-- Settles O23: the operation leaves its page as R52 says, and its result takes the engine on. -/
theorem operationSuccessLeadsOn : Obligations.OperationSuccessLeadsOn := by
  unfold Obligations.OperationSuccessLeadsOn
  intro s i page slot awaits opPage idleLink
  rw [exec_operationCompletes awaits false, State.pagesAfter_eq opPage]
  refine ⟨fun stage kind => ?_, fun stage kind required => ?_⟩
  · have leaves : s.operationLeaves false = .erased := by simp only [State.operationLeaves, kind, Bool.false_eq_true, if_false]
    rw [leaves]
    exact congrArg _ (State.operationResult_erased slot stage)
  · have leaves : s.operationLeaves false = .image s.entries[i].buffer := by
      simp only [State.operationLeaves, kind, slot, Bool.false_eq_true, if_false]
    rw [leaves]
    exact congrArg _ (State.operationResult_programmed slot stage required)

/-! ### A retry (R38, R40) -/

theorem State.attemptFails_again {s : State} {i : Slot} {n : Nat} (slot : s.engine.slot = some i) (attempts : s.entries[i].attempts = n)
    (attempt : s.engine.attempt = some (n + 1)) (below : n + 1 < s.params.commitTries) (cause : CommitCause) :
    s.attemptFails cause = { s.setEntry i { s.entries[i] with attempts := n + 1 } with
      engine := { s.engine with stage := .erase, step := some .waiting, attempt := some (n + 2) }
      events := s.events.append (.commitRetry cause (n + 1)) s.entries[i].page (some i) none } := by
  have again : s.engine.attempt.getD 0 < s.params.commitTries := by rwa [attempt]
  simp only [State.attemptFails, slot, if_pos again]
  rw [State.retryCommit, State.countAttempt_get, State.countAttempt, attempts]
  simp only [← slot]
  rfl

/-- Settles O24: the failure reaches the engine, which counts it and starts again. -/
theorem failedAttemptIsRetried : Obligations.FailedAttemptIsRetried := by
  unfold Obligations.FailedAttemptIsRetried
  intro s c i cause n fails attempts attempt below
  obtain ⟨l, a, run, leaves⟩ := exec_attemptFails fails
  rw [State.attemptFails_again (s := { s with link := l, array := a }) fails.1 attempts attempt below cause] at run
  exact ⟨_, run, rfl, leaves.congr rfl rfl⟩

/-! ### The end of a CONFIG commit (R44, R183) -/

/-- The SUCCESS report of a CONFIG commit while its WRITE_CONFIG is in progress (R183). -/
theorem State.configSucceeded_eq {s : State} {copy : Copy} (target : s.sequencer.writeTarget = some copy)
    (writing : s.running .writeConfig = true) (i : Slot) (page : Option Nat) : s.configSucceeded i page = { s with
      sequencer := { s.sequencer with
        loadedCopy := some copy.source, loadedSequence := some s.shadow.fields.sequence, writeTarget := none }
      events := s.events.append (.configWritten copy s.shadow.fields.sequence) page (some i) none
      command := { s.command with busy := false, result := .done, detail := 0 } } := by
  simp only [State.configSucceeded, target]
  exact if_pos writing

/-- The FAILED or DEVICE report of a CONFIG commit while its WRITE_CONFIG is in progress (R183). -/
theorem State.configFailed_eq {s : State} {copy : Copy} (target : s.sequencer.writeTarget = some copy)
    (writing : s.running .writeConfig = true) (i : Slot) (page : Option Nat) (cause : CommitCause) : s.configFailed i page cause = { s with
      sequencer := { s.sequencer with writeTarget := none }
      events := s.events.append (.configWriteFailed copy cause) page (some i) none
      command := { s.command with busy := false, result := .failed, detail := 0 } } := by
  simp only [State.configFailed, target]
  exact if_pos writing

theorem State.running_iff {s : State} {c : MgmtCommand} : s.running c = true ↔ s.command.busy = true ∧ s.command.last = some c := by
  simp only [State.running, Bool.and_eq_true, beq_iff_eq]

/-- A verified CONFIG commit ends (R42, R44). -/
theorem State.commitSucceeds_config {s : State} {i : Slot} {copy : Copy} (config : s.entries[i].origin = some .config)
    (target : s.sequencer.writeTarget = some copy) (writing : s.running .writeConfig = true) : s.commitSucceeds i = { s.freeEntry i with
      engine := Engine.initial
      sequencer := { s.sequencer with
        loadedCopy := some copy.source, loadedSequence := some s.shadow.fields.sequence, writeTarget := none }
      events := s.events.append (.configWritten copy s.shadow.fields.sequence) s.entries[i].page (some i) none
      command := { s.command with busy := false, result := .done, detail := 0 } } :=
  (if_pos config).trans (State.configSucceeded_eq (s := (s.freeEntry i).engineIdle) target writing i s.entries[i].page)

/-- The last failed attempt of a CONFIG commit (R42, R44). -/
theorem State.attemptFails_config {s : State} {i : Slot} {copy : Copy} {n : Nat} (slot : s.engine.slot = some i)
    (attempt : s.engine.attempt = some n) (final : s.params.commitTries ≤ n) (config : s.entries[i].origin = some .config)
    (target : s.sequencer.writeTarget = some copy) (writing : s.running .writeConfig = true) (cause : CommitCause) :
    s.attemptFails cause = { s.freeEntry i with
      engine := Engine.initial
      sequencer := { s.sequencer with writeTarget := none }
      events := s.events.append (.configWriteFailed copy cause) s.entries[i].page (some i) none
      command := { s.command with busy := false, result := .failed, detail := 0 } } := by
  have last : ¬ s.engine.attempt.getD 0 < s.params.commitTries := by
    rw [attempt, Option.getD_some]
    exact Nat.not_lt.mpr final
  have counted : (s.countAttempt i).freeEntry i = s.freeEntry i := by
    rw [State.freeEntry, State.countAttempt_get, State.countAttempt, State.setEntry_setEntry]
    rfl
  simp only [State.attemptFails, slot, if_neg last, State.commitFails, State.countAttempt_get, if_pos config, counted]
  exact State.configFailed_eq (s := (s.freeEntry i).engineIdle) target writing i s.entries[i].page cause

/-- Settles O27: the entry is freed, and the configuration writer ends WRITE_CONFIG. -/
theorem configCommitEndsWriteConfig : Obligations.ConfigCommitEndsWriteConfig := by
  unfold Obligations.ConfigCommitEndsWriteConfig
  intro s c i copy config target busy last
  have writing : s.running .writeConfig = true := State.running_iff.mpr ⟨busy, last⟩
  have freed : (s.freeEntry i).entries[i].state = .free := by
    rw [State.freeEntry_get, if_pos rfl]
    rfl
  refine ⟨fun ends => ?_, fun cause n fails attempt final => ?_⟩
  · obtain ⟨l, a, leaves, ⟨fill, _⟩ | ⟨_, run⟩⟩ := exec_commitEnds ends
    · obtain ⟨_, ⟨_, _, _, _, host, _⟩ | ⟨_, _, program, _⟩ | ⟨_, _, _, verify, _⟩⟩ := ends
      · rw [config] at host
        cases host
      · rw [fill] at program
        cases program
      · rw [fill] at verify
        cases verify
    · rw [State.commitSucceeds_config (s := { s with link := l, array := a }) config target writing] at run
      exact ⟨_, run, freed, rfl, rfl, rfl, by cases copy <;> rfl, rfl, rfl, leaves.congr rfl rfl⟩
  · obtain ⟨l, a, run, leaves⟩ := exec_attemptFails fails
    rw [State.attemptFails_config (s := { s with link := l, array := a }) fails.1 attempt final config target writing] at run
    exact ⟨_, run, freed, rfl, rfl, rfl, rfl, rfl, leaves.congr rfl rfl⟩

end Sys2Proof.Machine
end

section
/-! SUPPORT. The steps of a link DOWN (R48, R72), each seen at the staging table, the delayed transaction table and the commit engine. -/

namespace Sys2Proof.Machine

/-! ### Reaching a fact along a run of steps -/

/-- A step that establishes `Q` from an invariant, in a run whose every step keeps both. -/
theorem foldl_establishes {α β : Type} {f : β → α → β} {I Q : β → Prop} {x : α} {l : List α} (mem : x ∈ l) {b : β} (start : I b)
    (keeps : ∀ (b : β) (a : α), I b → I (f b a)) (reaches : ∀ b : β, I b → Q (f b x)) (stays : ∀ (b : β) (a : α), Q b → Q (f b a)) :
    Q (l.foldl f b) := by
  obtain ⟨before, after, rfl⟩ := List.append_of_mem mem
  rw [List.foldl_append, List.foldl_cons]
  exact List.foldlRecOn after f (reaches _ (List.foldlRecOn before f start fun b h a _ => keeps b a h)) fun b h a _ => stays b a h

theorem notMem_before_of_nodup {α : Type} {x : α} {before after : List α} (h : (before ++ x :: after).Nodup) : x ∉ before :=
  fun mem => (List.nodup_append.mp h).2.2 x mem x List.mem_cons_self rfl

/-! ### The mode and the engine -/

theorem State.foldl_downStep_halts {l : List DownStep} (halts : .halt ∈ l) (s : State) (i : Slot) :
    (l.foldl (State.downStep i) s).control = { s.control with mode := .halted, drainCause := none, reinitPending := false } := by
  let halted : ModeController := { s.control with mode := .halted, drainCause := none, reinitPending := false }
  refine foldl_establishes (I := fun t : State => t.control = s.control ∨ t.control = halted) (Q := fun t => t.control = halted) halts (.inl rfl)
    (fun t step h => ?_) (fun t h => ?_) fun t step h => ?_
  · rw [State.downStep_control]
    split
    · exact .inr (by rcases h with h | h <;> rw [h])
    · exact h
  · rw [State.downStep_control, if_pos rfl]
    rcases h with h | h <;> rw [h]
  · rw [State.downStep_control]
    split <;> rw [h]

theorem State.downStep_idle {t : State} (idle : t.engine = Engine.initial) (i : Slot) (step : DownStep) :
    (t.downStep i step).engine = Engine.initial := by
  by_cases ends : step = .engine
  · rw [ends]
    rfl
  · rw [t.downStep_engine i ends, idle]

theorem State.foldl_downStep_idle {l : List DownStep} (ends : .engine ∈ l) (s : State) (i : Slot) :
    (l.foldl (State.downStep i) s).engine = Engine.initial :=
  foldl_establishes (I := fun _ => True) (Q := fun t : State => t.engine = Engine.initial) ends trivial (fun _ _ _ => trivial) (fun _ _ => rfl)
    fun _ step idle => State.downStep_idle idle i step

/-! ### The staging table (R12, R48) -/

/-- An entry at the entry to HALTED: the timers of an OPEN entry stop (R12). -/
def Entry.halted (e : Entry) : Entry := if e.state = .opened then { e with idleTimer := none, ageTimer := none } else e

/-- An entry whose commit a link DOWN cuts short (R48). -/
def Entry.cutShort (e : Entry) : Entry := { e with state := .failed, valid := wholePage, attempts := e.attempts + 1 }

/-- What a step of a link DOWN makes of an entry; `hand` says that it is the entry in hand. -/
def Entry.down (hand : Bool) (e : Entry) : DownStep → Entry
  | .engine => if hand then e.cutShort else e
  | .halt => e.halted
  | _ => e

theorem State.deviceEnds_get (s : State) (i j : Slot) :
    (s.deviceEnds i).entries[j] = if j = i then s.entries[i].cutShort else s.entries[j] := by
  show ((s.countAttempt i).failEntry i).entries[j] = _
  rw [State.failEntry, State.countAttempt_get, State.countAttempt, State.setEntry_setEntry, State.setEntry_get]
  rfl

theorem State.haltMode_get (s : State) (cause : HaltCause) (j : Slot) : (s.haltMode cause).entries[j] = s.entries[j].halted := by
  have same : (s.haltMode cause).entries = s.stopOpenTimers.entries := by
    simp only [State.haltMode]
    split <;> simp [State.stopOpenTimers]
  rw [same, State.stopOpenTimers, Fin.getElem_fin, Vector.getElem_map]
  rfl

theorem State.downStep_get (t : State) (i j : Slot) (step : DownStep) : (t.downStep i step).entries[j] = t.entries[j].down (j = i) step := by
  cases step with
  | engine =>
    rw [State.downStep, State.deviceEnds_get, Entry.down]
    by_cases h : j = i <;> simp [h]
  | halt => exact t.haltMode_get _ j
  | report | notice | queuedConfig => simp [State.downStep, Entry.down]

theorem State.foldl_downStep_get (l : List DownStep) (s : State) (i j : Slot) :
    (l.foldl (State.downStep i) s).entries[j] = l.foldl (Entry.down (j = i)) s.entries[j] :=
  (List.foldl_hom (fun t : State => t.entries[j]) fun t step => (t.downStep_get i j step).symm).symm

theorem Entry.halted_fields (e : Entry) : e.halted.state = e.state ∧ e.halted.generation = e.generation ∧ e.halted.page = e.page ∧
    e.halted.origin = e.origin := by
  unfold Entry.halted
  split <;> exact ⟨rfl, rfl, rfl, rfl⟩

theorem Entry.halted_halted (e : Entry) : e.halted.halted = e.halted := by
  by_cases opened : e.state = .opened <;> simp [Entry.halted, opened]

/-- No step of a link DOWN changes which use of its slot an entry is. -/
theorem Entry.down_keeps (hand : Bool) (e : Entry) (step : DownStep) :
    (e.down hand step).generation = e.generation ∧ (e.down hand step).page = e.page ∧ (e.down hand step).origin = e.origin := by
  cases step with
  | engine => cases hand <;> exact ⟨rfl, rfl, rfl⟩
  | halt => exact e.halted_fields.2
  | report | notice | queuedConfig => exact ⟨rfl, rfl, rfl⟩

/-- An entry that is not in hand only has its timers stopped. -/
theorem Entry.foldl_down_other {hand : Bool} {l : List DownStep} (other : hand = false ∨ .engine ∉ l) (e : Entry) :
    l.foldl (Entry.down hand) e = if .halt ∈ l then e.halted else e := by
  induction l generalizing e with
  | nil => rfl
  | cons step l ih =>
    have rest := ih (other.imp_right fun notin mem => notin (List.mem_cons_of_mem _ mem))
    rw [List.foldl_cons, rest]
    cases step with
    | engine =>
      have out : hand = false := other.resolve_right fun notin => notin List.mem_cons_self
      simp [Entry.down, out]
    | halt => simp [Entry.down, Entry.halted_halted]
    | report | notice | queuedConfig => simp [Entry.down]

/-- The COMMITTING entry in hand is cut short by the step of the engine, and left by every other. -/
theorem Entry.foldl_down_hand {l : List DownStep} (distinct : l.Nodup) {e : Entry} (closed : e.state ≠ .opened) :
    l.foldl (Entry.down true) e = if .engine ∈ l then e.cutShort else e := by
  induction l generalizing e with
  | nil => rfl
  | cons step l ih =>
    obtain ⟨notin, rest⟩ := List.nodup_cons.mp distinct
    rw [List.foldl_cons]
    cases step with
    | engine =>
      rw [if_pos List.mem_cons_self]
      exact (ih rest (e := e.cutShort) nofun).trans (if_neg notin)
    | halt =>
      have still : e.down true .halt = e := if_neg closed
      rw [still, ih rest closed]
      simp
    | report | notice | queuedConfig =>
      refine (ih rest closed).trans ?_
      simp

/-! ### The delayed transaction table (R116, R126) -/

/-- The pair that the fences hear of when the commit of slot `i` is cut short: none for a CONFIG entry (R42). -/
def State.reportedPair (s : State) (i : Slot) : Option WaitPair := if s.entries[i].origin = some .config then none else some (s.pairOf i)

/-- What a step of a link DOWN makes of a delayed entry, `pair` being the pair that is reported. -/
def DttEntry.down (start : Option Nat) (pair : Option WaitPair) (d : DttEntry) : DownStep → DttEntry
  | .report => if pair.any d.waitsOn then d.failedFence start else d
  | .notice => d.haltNotice start
  | _ => d

theorem State.haltNotice_dtt (s : State) (d : DttIndex) : s.haltNotice.dtt[d] = s.dtt[d].haltNotice s.discardStart := by
  have same : s.haltNotice.dtt = s.dttHaltNotice.dtt := by simp [State.haltNotice]
  rw [same, State.dttHaltNotice, Fin.getElem_fin, Vector.getElem_map]
  rfl

theorem State.downStep_dtt (t : State) (i : Slot) (d : DttIndex) (step : DownStep) :
    (t.downStep i step).dtt[d] = t.dtt[d].down t.discardStart (t.reportedPair i) step := by
  cases step with
  | report =>
    show (t.deviceReport i).dtt[d] = _
    unfold State.deviceReport State.reportedPair
    split
    · simp [DttEntry.down]
    · exact t.reportFailed_dtt _ _ d
  | notice => exact t.haltNotice_dtt d
  | engine | halt | queuedConfig => simp [State.downStep, DttEntry.down]

theorem State.downStep_reportedPair (t : State) (i : Slot) (step : DownStep) : (t.downStep i step).reportedPair i = t.reportedPair i := by
  obtain ⟨generation, _, origin⟩ := t.entries[i].down_keeps (i = i) step
  rw [State.reportedPair, State.reportedPair, State.pairOf, State.pairOf, t.downStep_get, generation, origin]

theorem State.foldl_downStep_dtt (l : List DownStep) (s : State) (i : Slot) (d : DttIndex) :
    (l.foldl (State.downStep i) s).dtt[d] = l.foldl (DttEntry.down s.discardStart (s.reportedPair i)) s.dtt[d] := by
  induction l generalizing s with
  | nil => rfl
  | cons step l ih =>
    have start : (s.downStep i step).discardStart = s.discardStart := by simp [State.discardStart]
    rw [List.foldl_cons, List.foldl_cons, ih, start, s.downStep_reportedPair, s.downStep_dtt]

section

variable (start : Option Nat) (pair : Option WaitPair) {d : DttEntry}

theorem DttEntry.down_settled (settled : d.state ≠ .waiting) (step : DownStep) : d.down start pair step = d := by
  cases step with
  | report =>
    refine if_neg fun waits => ?_
    obtain ⟨p, _, waits⟩ := Option.any_eq_true .. |>.mp waits
    exact settled (DttEntry.waitsOn_iff.mp waits).1
  | notice => exact if_neg settled
  | engine | halt | queuedConfig => rfl

theorem DttEntry.haltNotice_settled : (d.haltNotice start).state ≠ .waiting := by
  unfold DttEntry.haltNotice
  split
  · nofun
  · assumption

/-- The first step that acts on a delayed entry settles it. -/
theorem DttEntry.foldl_down_first {before : List DownStep} (deaf : ∀ step ∈ before, d.down start pair step = d) {step : DownStep}
    (settles : (d.down start pair step).state ≠ .waiting) (after : List DownStep) :
    (before ++ step :: after).foldl (DttEntry.down start pair) d = d.down start pair step := by
  have same : before.foldl (DttEntry.down start pair) d = d :=
    List.foldlRecOn (motive := (· = d)) before _ rfl fun _ h step mem => by rw [h, deaf step mem]
  rw [List.foldl_append, same, List.foldl_cons]
  exact List.foldlRecOn (motive := (· = d.down start pair step)) after _ rfl fun _ h a _ => by
    rw [h, DttEntry.down_settled start pair settles]

theorem DttEntry.foldl_down_settled (settled : d.state ≠ .waiting) (l : List DownStep) : l.foldl (DttEntry.down start pair) d = d :=
  List.foldlRecOn (motive := (· = d)) l _ rfl fun _ h step _ => by rw [h, DttEntry.down_settled start pair settled]

end

end Sys2Proof.Machine
end

section
/-! SUPPORT. The steps of a link DOWN, each seen at the event queue, SYNC, the command unit and the configuration writer. -/

namespace Sys2Proof.Machine

/-! ### How far an event queue grows, and what it logs (R190) -/

/-- One queue continues another by at most `n` records. -/
def EventQueue.Grows (n : Nat) (q q' : EventQueue) : Prop := ∃ later, q'.records = q.records ++ later ∧ later.length ≤ n

/-- A record of the queue says what is given, under some sequence number. -/
def EventQueue.Logs (q : EventQueue) (ev : Event) (page : Option Nat) (slot : Option Slot) (req : Option Requester) : Prop :=
  ∃ n, ⟨n, ev, page, slot, req⟩ ∈ q.records

theorem EventQueue.Grows.refl (n : Nat) (q : EventQueue) : q.Grows n q := ⟨[], (List.append_nil _).symm, Nat.zero_le n⟩

theorem EventQueue.Grows.trans {m n : Nat} {q q' q'' : EventQueue} (h : q.Grows m q') (h' : q'.Grows n q'') : q.Grows (m + n) q'' := by
  obtain ⟨first, eq, few⟩ := h
  obtain ⟨later, eq', few'⟩ := h'
  refine ⟨first ++ later, by rw [eq', eq, List.append_assoc], ?_⟩
  rw [List.length_append]
  exact Nat.add_le_add few few'

theorem EventQueue.Grows.mono {m n : Nat} {q q' : EventQueue} (h : q.Grows m q') (le : m ≤ n) : q.Grows n q' := by
  obtain ⟨later, eq, few⟩ := h
  exact ⟨later, eq, few.trans le⟩

theorem EventQueue.Grows.length_le {n : Nat} {q q' : EventQueue} (h : q.Grows n q') : q'.records.length ≤ q.records.length + n := by
  obtain ⟨later, eq, few⟩ := h
  rw [eq, List.length_append]
  exact Nat.add_le_add_left few _

theorem EventQueue.Logs.grows {n : Nat} {q q' : EventQueue} {ev : Event} {page : Option Nat} {slot : Option Slot} {req : Option Requester}
    (h : q.Logs ev page slot req) (grows : q.Grows n q') : q'.Logs ev page slot req := by
  obtain ⟨number, mem⟩ := h
  obtain ⟨later, eq, _⟩ := grows
  exact ⟨number, by rw [eq]; exact List.mem_append_left _ mem⟩

theorem EventQueue.grows_append (q : EventQueue) (ev : Event) (page : Option Nat) (slot : Option Slot) (req : Option Requester) :
    q.Grows 1 (q.append ev page slot req) := by
  unfold EventQueue.append
  split
  · exact ⟨[_], rfl, Nat.le_refl 1⟩
  · exact .refl 1 _

theorem EventQueue.logs_append {q : EventQueue} (room : q.records.length < 32) (ev : Event) (page : Option Nat) (slot : Option Slot)
    (req : Option Requester) : (q.append ev page slot req).Logs ev page slot req := by
  rw [EventQueue.append, if_pos room]
  exact ⟨q.nextSequence, List.mem_append_right _ List.mem_cons_self⟩

section

variable (ev : Event) (page : Option Nat) (slot : Option Slot) (req : DttIndex → Option Requester)

theorem EventQueue.grows_foldl_append (l : List DttIndex) (q : EventQueue) :
    q.Grows l.length (l.foldl (fun q d => q.append ev page slot (req d)) q) := by
  induction l generalizing q with
  | nil => exact .refl 0 q
  | cons d l ih => exact ((q.grows_append ev page slot (req d)).trans (ih _)).mono (Nat.le_of_eq (Nat.add_comm 1 _))

theorem EventQueue.logs_foldl_append {l : List DttIndex} {d : DttIndex} (mem : d ∈ l) {q : EventQueue}
    (room : q.records.length + l.length ≤ 32) : (l.foldl (fun q d => q.append ev page slot (req d)) q).Logs ev page slot (req d) := by
  obtain ⟨before, after, rfl⟩ := List.append_of_mem mem
  rw [List.foldl_append, List.foldl_cons]
  have grown := (EventQueue.grows_foldl_append ev page slot req before q).length_le
  rw [List.length_append, List.length_cons] at room
  exact (EventQueue.logs_append (by omega) ev page slot (req d)).grows (EventQueue.grows_foldl_append ev page slot req after _)

end

/-! ### The records of a link DOWN (R42, R48, R72) -/

/-- The most records that a step of a link DOWN appends: a failure report makes one for each fence that waits (R126). -/
def DownStep.records : DownStep → Nat
  | .report => 8
  | .notice => 0
  | _ => 1

theorem State.configFailed_grows (s : State) (i : Slot) (page : Option Nat) (cause : CommitCause) :
    s.events.Grows 1 (s.configFailed i page cause).events := by
  unfold State.configFailed
  split
  · simp only [State.endWriteConfig_frame]
    exact EventQueue.grows_append _ _ _ _ _
  · exact .refl 1 _

theorem State.haltMode_events (s : State) (cause : HaltCause) : (s.haltMode cause).events = s.events.append (.halted cause) none none none := by
  simp only [State.haltMode]
  split <;> simp [State.appendEvent]

theorem State.reportFailed_grows (s : State) (p : WaitPair) (page : Option Nat) : s.events.Grows 8 (s.reportFailed p page).events := by
  rw [State.reportFailed_events]
  refine (EventQueue.grows_foldl_append _ _ _ (fun d => s.dtt[d].requester) _ _).mono ?_
  exact (List.length_filter_le _ _).trans (Nat.le_of_eq (List.perm_insertionSort _ _).length_eq)

theorem State.downStep_grows (t : State) (i : Slot) (step : DownStep) : t.events.Grows step.records (t.downStep i step).events := by
  cases step with
  | engine => exact t.events.grows_append _ _ _ _
  | report =>
    show t.events.Grows 8 (t.deviceReport i).events
    unfold State.deviceReport
    split
    · exact (t.configFailed_grows i _ _).mono (by decide)
    · exact t.reportFailed_grows _ _
  | halt =>
    rw [State.downStep, State.haltMode_events]
    exact t.events.grows_append _ _ _ _
  | notice =>
    simp only [State.downStep, State.haltNotice_frame]
    exact .refl 0 _
  | queuedConfig =>
    show t.events.Grows 1 t.endQueuedConfig.events
    unfold State.endQueuedConfig
    split
    · exact t.configFailed_grows _ _ _
    · exact .refl 1 _

theorem State.foldl_downStep_grows (l : List DownStep) (t : State) (i : Slot) :
    t.events.Grows (l.map DownStep.records).sum (l.foldl (State.downStep i) t).events := by
  induction l generalizing t with
  | nil => exact .refl 0 _
  | cons step l ih => exact (t.downStep_grows i step).trans (ih _)

/-- What a step logs while 20 records and those of the steps before it leave room is in the queue at the end. -/
theorem State.foldl_downStep_logs {before after : List DownStep} {step : DownStep} {t : State} {i : Slot}
    (budget : ((before ++ step :: after).map DownStep.records).sum ≤ 11) (few : t.events.records.length ≤ 20) {ev : Event}
    {page : Option Nat} {slot : Option Slot} {req : Option Requester}
    (logs : (before.foldl (State.downStep i) t).events.records.length + step.records < 32 →
      ((before.foldl (State.downStep i) t).downStep i step).events.Logs ev page slot req) :
    ((before ++ step :: after).foldl (State.downStep i) t).events.Logs ev page slot req := by
  have grown := (State.foldl_downStep_grows before t i).length_le
  rw [List.map_append, List.map_cons, List.sum_append, List.sum_cons] at budget
  rw [List.foldl_append, List.foldl_cons]
  exact (logs (by omega)).grows (State.foldl_downStep_grows after _ i)

/-! ### The configuration writer (R44, R183) -/

/-- The CONFIG entry whose failure a step of a link DOWN reports to the configuration writer (R44, R48). -/
def State.configStep (t : State) (i : Slot) : DownStep → Option Slot
  | .report => if t.entries[i].origin = some .config then some i else none
  | .queuedConfig => t.queuedConfig
  | _ => none

theorem State.downStep_config {t : State} {i k : Slot} {step : DownStep} (h : t.configStep i step = some k) :
    t.downStep i step = t.configFailed k t.entries[k].page .device := by
  cases step with
  | report =>
    have here : (if t.entries[i].origin = some .config then some i else none) = some k := h
    split at here
    · cases here
      exact if_pos ‹_›
    · cases here
  | queuedConfig =>
    have queued : t.queuedConfig = some k := h
    simp only [State.downStep, State.endQueuedConfig, queued]
  | engine | halt | notice => cases h

theorem State.configFailed_sequencer (s : State) (i : Slot) (page : Option Nat) (cause : CommitCause) :
    (s.configFailed i page cause).sequencer = { s.sequencer with writeTarget := none } := by
  unfold State.configFailed
  split
  · simp
  · rename_i none
    rw [← none]

theorem State.configFailed_untargeted {s : State} (none : s.sequencer.writeTarget = none) (i : Slot) (page : Option Nat)
    (cause : CommitCause) : s.configFailed i page cause = s := by
  simp only [State.configFailed, none]

theorem State.haltMode_sequencer (s : State) (cause : HaltCause) :
    (s.haltMode cause).sequencer = { s.sequencer with phase := .idle, startKind := none, applied := false } := by
  simp only [State.haltMode]
  split <;> simp

theorem State.downStep_report {t : State} {i : Slot} (h : t.configStep i .report = none) :
    t.downStep i .report = t.reportFailed (t.pairOf i) t.entries[i].page := by
  have here : (if t.entries[i].origin = some .config then some i else none) = none := h
  split at here
  · cases here
  · exact if_neg ‹_›

/-- A step that reports no CONFIG failure leaves the configuration writer as it was. -/
theorem State.downStep_writer {t : State} {i : Slot} {step : DownStep} (h : t.configStep i step = none) :
    (t.downStep i step).sequencer.loadedCopy = t.sequencer.loadedCopy ∧
    (t.downStep i step).sequencer.loadedSequence = t.sequencer.loadedSequence ∧
    (t.downStep i step).sequencer.writeTarget = t.sequencer.writeTarget := by
  cases step with
  | report =>
    rw [State.downStep_report h]
    simp
  | halt => simp only [State.downStep, State.haltMode_sequencer, and_self]
  | queuedConfig =>
    have empty : t.queuedConfig = none := h
    have same : t.downStep i .queuedConfig = t := by simp only [State.downStep, State.endQueuedConfig, empty]
    simp only [same, and_self]
  | engine | notice => simp [State.downStep]

theorem State.downStep_loaded (t : State) (i : Slot) (step : DownStep) :
    (t.downStep i step).sequencer.loadedCopy = t.sequencer.loadedCopy ∧
    (t.downStep i step).sequencer.loadedSequence = t.sequencer.loadedSequence := by
  cases h : t.configStep i step with
  | none => exact ⟨(State.downStep_writer h).1, (State.downStep_writer h).2.1⟩
  | some k =>
    rw [State.downStep_config h, State.configFailed_sequencer]
    exact ⟨rfl, rfl⟩

/-! ### SYNC (R132, R133) -/

theorem State.haltNotice_of_idle {s : State} {n : Nat} (idle : s.syncRecord = .idle n) : s.haltNotice = s.dttHaltNotice := by
  have idle : s.dttHaltNotice.syncRecord = .idle n := idle
  simp only [State.haltNotice, State.syncHaltNotice, idle]

theorem State.haltNotice_of_waiting {s : State} {ws : List WaitPair} {n : Nat} (waiting : s.syncRecord = .waiting ws n) :
    s.haltNotice.syncRecord = .idle 0 ∧
    s.haltNotice.command = { s.command with busy := false, result := .failed, detail := n + ws.length } := by
  have waiting : s.dttHaltNotice.syncRecord = .waiting ws n := waiting
  simp only [State.haltNotice, State.syncHaltNotice, waiting]
  exact ⟨rfl, rfl⟩

theorem State.configFailed_command {s : State} (other : ¬ s.running .writeConfig = true) (i : Slot) (page : Option Nat) (cause : CommitCause) :
    (s.configFailed i page cause).command = s.command := by
  unfold State.configFailed
  split
  · rw [State.endWriteConfig, if_neg]
    · rfl
    · exact other
  · rfl

theorem State.haltMode_command {s : State} (other : ¬ s.running .reinit = true) (cause : HaltCause) :
    (s.haltMode cause).command = s.command := by
  simp only [State.haltMode]
  split
  · rfl
  · rw [State.endReinit, if_neg]
    · rfl
    · exact other

theorem State.downStep_syncRecord {step : DownStep} (report : step ≠ .report) (notice : step ≠ .notice) (t : State) (i : Slot) :
    (t.downStep i step).syncRecord = t.syncRecord := by
  cases step with
  | report => exact absurd rfl report
  | notice => exact absurd rfl notice
  | engine | halt | queuedConfig => simp [State.downStep]

/-- A SYNC that does not wait hears of no step. -/
theorem State.downStep_syncIdle {t : State} {n : Nat} (idle : t.syncRecord = .idle n) (i : Slot) (step : DownStep) :
    (t.downStep i step).syncRecord = .idle n := by
  cases step with
  | report =>
    cases config : t.configStep i .report with
    | none =>
      rw [State.downStep_report config]
      exact ((t.reportFailed_sync _ _).1 n idle).1
    | some k =>
      rw [State.downStep_config config]
      simpa using idle
  | notice =>
    rw [State.downStep, State.haltNotice_of_idle idle]
    exact idle
  | engine | halt | queuedConfig => exact (State.downStep_syncRecord (by nofun) (by nofun) t i).trans idle

theorem State.foldl_downStep_syncIdle {s : State} {n : Nat} (idle : s.syncRecord = .idle n) (l : List DownStep) (i : Slot) :
    (l.foldl (State.downStep i) s).syncRecord = .idle n :=
  List.foldlRecOn (motive := fun t : State => t.syncRecord = .idle n) l _ idle fun _ h step _ => State.downStep_syncIdle h i step

/-- A SYNC that waits goes on waiting, or ends with its record at 0 (R132). -/
theorem State.downStep_syncWaits {t : State} (waits : t.syncRecord.isWaiting = true) (i : Slot) (step : DownStep) :
    (t.downStep i step).syncRecord.isWaiting = true ∨ (t.downStep i step).syncRecord = .idle 0 := by
  cases waiting : t.syncRecord with
  | idle n =>
    rw [waiting] at waits
    cases waits
  | waiting ws n =>
    cases step with
    | report =>
      cases config : t.configStep i .report with
      | none =>
        rw [State.downStep_report config]
        obtain ⟨absent, more, last⟩ := (t.reportFailed_sync (t.pairOf i) t.entries[i].page).2 ws n waiting
        by_cases mem : t.pairOf i ∈ ws
        · by_cases all : ∀ p ∈ ws, p = t.pairOf i
          · exact .inr (last mem all).1
          · push Not at all
            rw [(more mem all).1]
            exact .inl rfl
        · rw [(absent mem).1]
          exact .inl waits
      | some k =>
        rw [State.downStep_config config]
        simpa using Or.inl (b := t.syncRecord = .idle 0) waits
    | notice => exact .inr (State.haltNotice_of_waiting waiting).1
    | engine | halt | queuedConfig => exact .inl (by simpa [State.downStep] using waits)

theorem State.foldl_downStep_syncEnds {s : State} {ws : List WaitPair} {n : Nat} (waiting : s.syncRecord = .waiting ws n)
    {l : List DownStep} (notice : .notice ∈ l) (i : Slot) : (l.foldl (State.downStep i) s).syncRecord = .idle 0 := by
  refine foldl_establishes (I := fun t : State => t.syncRecord.isWaiting = true ∨ t.syncRecord = .idle 0)
    (Q := fun t : State => t.syncRecord = .idle 0) notice (.inl (by rw [waiting]; rfl)) (fun t step h => ?_) (fun t h => ?_)
    fun t step idle => State.downStep_syncIdle idle i step
  · exact h.elim (fun waits => State.downStep_syncWaits waits i step) fun idle => .inr (State.downStep_syncIdle idle i step)
  · rcases h with waits | idle
    · cases waiting : t.syncRecord with
      | idle n =>
        rw [waiting] at waits
        cases waits
      | waiting ws n => exact (State.haltNotice_of_waiting waiting).1
    · exact State.downStep_syncIdle idle i .notice

/-! ### The end of a SYNC in progress (R133) -/

/-- A SYNC in progress, with the failures it holds and the pairs it waits on `total` together, and the command unit as given. -/
def State.SyncOwes (t : State) (total : Nat) (command : CommandUnit) : Prop :=
  t.command = command ∧ ∃ ws n, t.syncRecord = .waiting ws n ∧ ws.Nodup ∧ n + ws.length = total

/-- A SYNC that has ended FAILED with the detail `total`. -/
def State.SyncFailed (t : State) (total : Nat) (command : CommandUnit) : Prop :=
  t.syncRecord = .idle 0 ∧ t.command = { command with busy := false, result := .failed, detail := total }

theorem State.not_running {t : State} {c d : MgmtCommand} (last : t.command.last = some c) (other : c ≠ d) : ¬ t.running d = true :=
  fun running => other (Option.some.inj (last.symm.trans (State.running_iff.mp running).2))

/-- While the last command is SYNC, only the report and the notice reach the command unit. -/
theorem State.downStep_command_of_sync {t : State} (last : t.command.last = some .sync) {step : DownStep} (notice : step ≠ .notice) (i : Slot)
    (deaf : step = .report → t.configStep i .report ≠ none) : (t.downStep i step).command = t.command := by
  cases config : t.configStep i step with
  | some k =>
    rw [State.downStep_config config]
    exact State.configFailed_command (State.not_running last nofun) _ _ _
  | none =>
    cases step with
    | report => exact absurd config (deaf rfl)
    | notice => exact absurd rfl notice
    | halt => exact State.haltMode_command (State.not_running last nofun) _
    | engine => simp [State.downStep]
    | queuedConfig =>
      have empty : t.queuedConfig = none := config
      simp only [State.downStep, State.endQueuedConfig, empty]

theorem length_filter_ne {ws : List WaitPair} (distinct : ws.Nodup) {p : WaitPair} (mem : p ∈ ws) :
    (ws.filter (· ≠ p)).length + 1 = ws.length := by
  have same : ws.filter (· ≠ p) = ws.erase p :=
    (List.filter_congr fun q _ => by simp [bne, beq_eq_decide]).trans (distinct.erase_eq_filter p).symm
  rw [same, List.length_erase_add_one mem]

theorem State.downStep_syncOwes {t : State} {total : Nat} {command : CommandUnit} (last : command.last = some .sync)
    (owes : t.SyncOwes total command) (i : Slot) (step : DownStep) :
    (t.downStep i step).SyncOwes total command ∨ (t.downStep i step).SyncFailed total command := by
  obtain ⟨rfl, ws, n, waiting, distinct, rfl⟩ := owes
  have still (sync : (t.downStep i step).syncRecord = t.syncRecord) (command : (t.downStep i step).command = t.command) :
      (t.downStep i step).SyncOwes (n + ws.length) t.command := ⟨command, ws, n, sync.trans waiting, distinct, rfl⟩
  by_cases notice : step = .notice
  · subst notice
    exact .inr (State.haltNotice_of_waiting waiting)
  by_cases report : step = .report
  · subst report
    cases config : t.configStep i .report with
    | some k =>
      refine .inl (still ?_ (State.downStep_command_of_sync last notice i fun _ => by rw [config]; nofun))
      rw [State.downStep_config config]
      simp
    | none =>
      have reported := (t.reportFailed_sync (t.pairOf i) t.entries[i].page).2 ws n waiting
      rw [← State.downStep_report config] at reported
      obtain ⟨absent, more, only⟩ := reported
      by_cases mem : t.pairOf i ∈ ws
      · have one := length_filter_ne distinct mem
        by_cases all : ∀ p ∈ ws, p = t.pairOf i
        · have none : ws.filter (· ≠ t.pairOf i) = [] := List.filter_eq_nil_iff.mpr fun p hp => by simp [all p hp]
          rw [none, List.length_nil] at one
          rw [← one]
          exact .inr (only mem all)
        · push Not at all
          obtain ⟨sync, command⟩ := more mem all
          exact .inl ⟨command, _, _, sync, distinct.filter _, by rw [← one, if_pos rfl]; omega⟩
      · exact .inl (still (absent mem).1 (absent mem).2)
  · exact .inl (still (State.downStep_syncRecord report notice t i) (State.downStep_command_of_sync last notice i fun h => absurd h report))

theorem State.downStep_syncFailed {t : State} {total : Nat} {command : CommandUnit} (last : command.last = some .sync)
    (failed : t.SyncFailed total command) (i : Slot) (step : DownStep) : (t.downStep i step).SyncFailed total command := by
  obtain ⟨idle, ended⟩ := failed
  have sync : t.command.last = some .sync := by rw [ended]; exact last
  refine ⟨State.downStep_syncIdle idle i step, Eq.trans ?_ ended⟩
  by_cases notice : step = .notice
  · rw [notice, State.downStep, State.haltNotice_of_idle idle]
    rfl
  by_cases report : step = .report ∧ t.configStep i .report = none
  · rw [report.1, State.downStep_report report.2]
    exact ((t.reportFailed_sync _ _).1 0 idle).2
  · exact State.downStep_command_of_sync sync notice i fun h config => report ⟨h, config⟩

/-- A SYNC in progress ends FAILED with the failures it held and the pairs it still waited on, in every order of the steps (R132, R133). -/
theorem State.foldl_downStep_syncFails {s : State} {ws : List WaitPair} {n : Nat} (waiting : s.syncRecord = .waiting ws n)
    (distinct : ws.Nodup) (last : s.command.last = some .sync) {l : List DownStep} (notice : .notice ∈ l) (i : Slot) :
    (l.foldl (State.downStep i) s).command = { s.command with busy := false, result := .failed, detail := n + ws.length } := by
  refine (foldl_establishes (I := fun t : State => t.SyncOwes (n + ws.length) s.command ∨ t.SyncFailed (n + ws.length) s.command)
    (Q := fun t : State => t.SyncFailed (n + ws.length) s.command) notice (.inl ⟨rfl, ws, n, waiting, distinct, rfl⟩) (fun t step h => ?_)
    (fun t h => ?_) fun t step failed => State.downStep_syncFailed last failed i step).2
  · exact h.elim (fun owes => State.downStep_syncOwes last owes i step) fun failed => .inr (State.downStep_syncFailed last failed i step)
  · rcases h with ⟨command, ws', n', waits, _, total⟩ | failed
    · rw [← command, ← total]
      exact State.haltNotice_of_waiting waits
    · exact State.downStep_syncFailed last failed i .notice

/-! ### The end of a WRITE_CONFIG (R44, R48, R183) -/

/-- A step that reports no CONFIG failure, or finds no WRITE_CONFIG to end, leaves the command unit and the write target. -/
theorem State.downStep_still {t : State} {n : Nat} (idle : t.syncRecord = .idle n) (other : ¬ t.running .reinit = true) {i : Slot}
    {step : DownStep} (quiet : t.configStep i step = none ∨ t.sequencer.writeTarget = none) :
    (t.downStep i step).command = t.command ∧ (t.downStep i step).sequencer.writeTarget = t.sequencer.writeTarget := by
  cases config : t.configStep i step with
  | some k =>
    have untargeted := quiet.resolve_left (by rw [config]; nofun)
    rw [State.downStep_config config, State.configFailed_untargeted untargeted]
    exact ⟨rfl, rfl⟩
  | none =>
    refine ⟨?_, (State.downStep_writer config).2.2⟩
    cases step with
    | report =>
      rw [State.downStep_report config]
      exact ((t.reportFailed_sync _ _).1 n idle).2
    | notice =>
      rw [State.downStep, State.haltNotice_of_idle idle]
      rfl
    | halt => exact State.haltMode_command other _
    | engine => simp [State.downStep]
    | queuedConfig =>
      have empty : t.queuedConfig = none := config
      simp only [State.downStep, State.endQueuedConfig, empty]

end Sys2Proof.Machine
end

section
/-! PROOFS. The loss of the device (O31): what holds at the end of the steps of a link DOWN, whatever their order. -/

namespace Sys2Proof.Machine

/-! ### What every step keeps -/

theorem State.foldl_downStep_frame (l : List DownStep) (s : State) (i : Slot) :
    (l.foldl (State.downStep i) s).link = s.link ∧ (l.foldl (State.downStep i) s).commitQueue = s.commitQueue :=
  List.foldlRecOn (motive := fun t : State => t.link = s.link ∧ t.commitQueue = s.commitQueue) l _ ⟨rfl, rfl⟩
    fun t h step _ => by simpa using h

theorem State.foldl_downStep_keeps (l : List DownStep) (s : State) (i j : Slot) :
    (l.foldl (State.downStep i) s).entries[j].generation = s.entries[j].generation ∧
    (l.foldl (State.downStep i) s).entries[j].page = s.entries[j].page ∧
    (l.foldl (State.downStep i) s).entries[j].origin = s.entries[j].origin := by
  rw [State.foldl_downStep_get]
  refine List.foldlRecOn (motive := fun e : Entry => e.generation = s.entries[j].generation ∧ e.page = s.entries[j].page ∧
    e.origin = s.entries[j].origin) l _ ⟨rfl, rfl, rfl⟩ fun e h step _ => ?_
  obtain ⟨generation, page, origin⟩ := e.down_keeps (j = i) step
  rwa [generation, page, origin]

theorem State.foldl_downStep_loaded (l : List DownStep) (s : State) (i : Slot) :
    (l.foldl (State.downStep i) s).sequencer.loadedCopy = s.sequencer.loadedCopy ∧
    (l.foldl (State.downStep i) s).sequencer.loadedSequence = s.sequencer.loadedSequence :=
  List.foldlRecOn (motive := fun t : State => t.sequencer.loadedCopy = s.sequencer.loadedCopy ∧
    t.sequencer.loadedSequence = s.sequencer.loadedSequence) l _ ⟨rfl, rfl⟩
    fun t h step _ => ⟨(t.downStep_loaded i step).1.trans h.1, (t.downStep_loaded i step).2.trans h.2⟩

/-! ### The commit cut short (R48) -/

/-- The COMMITTING entry in hand, after steps among which the engine's is or is not. -/
theorem State.foldl_downStep_hand {l : List DownStep} (distinct : l.Nodup) {s : State} {i : Slot}
    (committing : s.entries[i].state = .committing) :
    (l.foldl (State.downStep i) s).entries[i] = if .engine ∈ l then s.entries[i].cutShort else s.entries[i] := by
  rw [State.foldl_downStep_get, decide_eq_true (rfl : i = i)]
  exact Entry.foldl_down_hand distinct (by rw [committing]; nofun)

theorem State.deviceEnds_logs {t : State} (room : t.events.records.length < 32) (i : Slot) : (t.deviceEnds i).events.Logs
    (.commitFailed .device (t.entries[i].attempts + 1)) t.entries[i].page (some i) none := by
  have entry : ((t.countAttempt i).failEntry i).entries[i] = t.entries[i].cutShort := (t.deviceEnds_get i i).trans (if_pos rfl)
  have events : (t.deviceEnds i).events = t.events.append (.commitFailed .device ((t.countAttempt i).failEntry i).entries[i].attempts)
      ((t.countAttempt i).failEntry i).entries[i].page (some i) none := rfl
  rw [events, entry]
  exact EventQueue.logs_append room _ _ _ _

theorem State.foldl_downStep_logs_commitFailed {l : List DownStep} (distinct : l.Nodup) (budget : (l.map DownStep.records).sum ≤ 11)
    (ends : .engine ∈ l) {s : State} {i : Slot} (committing : s.entries[i].state = .committing) (few : s.events.records.length ≤ 20) :
    (l.foldl (State.downStep i) s).events.Logs (.commitFailed .device (s.entries[i].attempts + 1)) s.entries[i].page (some i) none := by
  obtain ⟨before, after, rfl⟩ := List.append_of_mem ends
  have notin : .engine ∉ before := notMem_before_of_nodup distinct
  refine State.foldl_downStep_logs budget few fun room => ?_
  have logged := State.deviceEnds_logs (Nat.lt_of_add_right_lt room) i
  rw [State.foldl_downStep_hand distinct.of_append_left committing, if_neg notin] at logged
  exact logged

theorem State.foldl_downStep_logs_halted {l : List DownStep} (budget : (l.map DownStep.records).sum ≤ 11) (halts : .halt ∈ l) {s : State}
    (i : Slot) (few : s.events.records.length ≤ 20) :
    (l.foldl (State.downStep i) s).events.Logs (.halted .linkDown) none none none := by
  obtain ⟨before, after, rfl⟩ := List.append_of_mem halts
  refine State.foldl_downStep_logs budget few fun room => ?_
  rw [State.downStep, State.haltMode_events]
  exact EventQueue.logs_append (Nat.lt_of_add_right_lt room) _ _ _ _

/-! ### The waiting requests (R116, R126) -/

theorem State.reportedPair_waits {s : State} {i : Slot} {d : DttEntry} : (s.reportedPair i).any d.waitsOn = true ↔
    s.entries[i].origin ≠ some .config ∧ d.waitsOn (s.pairOf i) = true := by
  by_cases config : s.entries[i].origin = some .config
  · rw [State.reportedPair, if_pos config]
    exact ⟨nofun, fun h => absurd config h.1⟩
  · rw [State.reportedPair, if_neg config, Option.any_some]
    exact (and_iff_right config).symm

/-- Only the notice, and a report of a pair that it waits on, act on a delayed entry. -/
theorem State.down_deaf {before : List DownStep} {s : State} {i : Slot} {d : DttIndex} (notice : .notice ∉ before)
    (report : .report ∈ before → ¬ (s.reportedPair i).any s.dtt[d].waitsOn = true) :
    ∀ step ∈ before, s.dtt[d].down s.discardStart (s.reportedPair i) step = s.dtt[d] := by
  intro step mem
  cases step with
  | report => exact if_neg (report mem)
  | notice => exact absurd mem notice
  | engine | halt | queuedConfig => rfl

/-- The notice of HALTED answers a request that no report has settled (R116). -/
theorem State.foldl_downStep_noticed {before after : List DownStep} {s : State} {i : Slot} {d : DttIndex} (notice : .notice ∉ before)
    (report : .report ∈ before → ¬ (s.reportedPair i).any s.dtt[d].waitsOn = true) :
    ((before ++ .notice :: after).foldl (State.downStep i) s).dtt[d] = s.dtt[d].haltNotice s.discardStart := by
  rw [State.foldl_downStep_dtt]
  exact DttEntry.foldl_down_first _ _ (State.down_deaf notice report) (step := .notice) (DttEntry.haltNotice_settled _) after

/-- A fence that waits on the commit cut short fails with its record where the report comes before the notice (R126). -/
theorem State.foldl_downStep_reported {before after : List DownStep} {s : State} {i : Slot} {d : DttIndex} (notice : .notice ∉ before)
    (report : .report ∉ before) (waits : (s.reportedPair i).any s.dtt[d].waitsOn = true) :
    ((before ++ .report :: after).foldl (State.downStep i) s).dtt[d] = s.dtt[d].failedFence s.discardStart ∧
    (((before ++ .report :: after).map DownStep.records).sum ≤ 11 → s.events.records.length ≤ 20 →
      ((before ++ .report :: after).foldl (State.downStep i) s).events.Logs
        (.fenceFault .durability .wait) s.entries[i].page (some i) s.dtt[d].requester) := by
  have deaf := State.down_deaf (s := s) (i := i) (d := d) notice fun mem => absurd mem report
  have failed : s.dtt[d].down s.discardStart (s.reportedPair i) .report = s.dtt[d].failedFence s.discardStart := if_pos waits
  refine ⟨?_, fun budget few => State.foldl_downStep_logs budget few fun room => ?_⟩
  · rw [State.foldl_downStep_dtt, DttEntry.foldl_down_first _ _ deaf (by rw [failed]; nofun) after, failed]
  · obtain ⟨generation, page, origin⟩ := State.foldl_downStep_keeps before s i i
    have entry : (before.foldl (State.downStep i) s).dtt[d] = s.dtt[d] := by
      rw [State.foldl_downStep_dtt]
      exact List.foldlRecOn (motive := (· = s.dtt[d])) before _ rfl fun _ h step mem => by rw [h, deaf step mem]
    generalize before.foldl (State.downStep i) s = t at *
    obtain ⟨host, waits⟩ := State.reportedPair_waits.mp waits
    have quiet : t.configStep i .report = none := if_neg (by rw [origin]; exact host)
    have pair : t.pairOf i = s.pairOf i := by rw [State.pairOf, generation, State.pairOf]
    rw [State.downStep_report quiet, State.reportFailed_events, page, pair, ← entry]
    refine EventQueue.logs_foldl_append _ _ _ (fun d => t.dtt[d].requester)
      (List.mem_filter.mpr ⟨t.mem_fenceOrder d, by rw [entry]; exact waits⟩) ?_
    have eight : t.fenceOrder.length = 8 := (List.perm_insertionSort _ _).length_eq
    have := List.length_filter_le (fun d : DttIndex => t.dtt[d].waitsOn (s.pairOf i)) t.fenceOrder
    have : DownStep.records .report = 8 := rfl
    omega

/-! ### The WRITE_CONFIG in progress (R44, R48, R183) -/

theorem Entry.down_sealed {hand : Bool} {e : Entry} (taken : hand = true → e.state ≠ .sealed) (step : DownStep) :
    (e.down hand step).state = .sealed ↔ e.state = .sealed := by
  cases step with
  | engine =>
    cases hand with
    | false => exact Iff.rfl
    | true => exact ⟨nofun, fun h => absurd h (taken rfl)⟩
  | halt => rw [Entry.down, e.halted_fields.1]
  | report | notice | queuedConfig => exact Iff.rfl

/-- What `t`, reached from `s` by steps that report no CONFIG failure, has in common with it. -/
structure State.StillWrites (s : State) (i : Slot) (t : State) : Prop where
  command : t.command = s.command
  target : t.sequencer.writeTarget = s.sequencer.writeTarget
  sync : t.syncRecord = s.syncRecord
  taken : t.entries[i].state ≠ .sealed
  steps : ∀ step, t.configStep i step = s.configStep i step

theorem State.downStep_configStep {t : State} {i : Slot} (taken : t.entries[i].state ≠ .sealed) (step step' : DownStep) :
    (t.downStep i step).configStep i step' = t.configStep i step' := by
  cases step' with
  | report =>
    show (if (t.downStep i step).entries[i].origin = _ then _ else _) = if t.entries[i].origin = _ then _ else _
    rw [t.downStep_get, (t.entries[i].down_keeps _ step).2.2]
  | queuedConfig =>
    show (t.downStep i step).queuedConfig = t.queuedConfig
    unfold State.queuedConfig State.firstSlot
    congr 1
    funext j
    show (_ && _) = (_ && _)
    have sealed := Entry.down_sealed (e := t.entries[j]) (hand := decide (j = i)) (fun h => by rw [of_decide_eq_true h]; exact taken) step
    rw [t.downStep_get, (t.entries[j].down_keeps _ step).2.2]
    exact congrArg (· && _) (by rw [Bool.eq_iff_iff, beq_iff_eq, beq_iff_eq, sealed])
  | engine | halt | notice => rfl

theorem State.StillWrites.step {s t : State} {i : Slot} {n : Nat} (h : s.StillWrites i t) (idle : s.syncRecord = .idle n)
    (last : s.command.last = some .writeConfig) {step : DownStep} (quiet : s.configStep i step = none) : s.StillWrites i (t.downStep i step) := by
  have sync : t.syncRecord = .idle n := h.sync.trans idle
  obtain ⟨command, target⟩ := State.downStep_still sync (State.not_running (by rw [h.command]; exact last) (by nofun)) (.inl ((h.steps step).trans quiet))
  refine ⟨command.trans h.command, target.trans h.target, (State.downStep_syncIdle sync i step).trans idle.symm, fun sealed => h.taken ?_,
    fun step' => (State.downStep_configStep h.taken step step').trans (h.steps step')⟩
  rw [t.downStep_get] at sealed
  exact (Entry.down_sealed (fun _ => h.taken) step).mp sealed

/-- A WRITE_CONFIG in progress ends FAILED at the one step that reports its CONFIG entry, in every order of the steps. -/
theorem State.foldl_downStep_writeFails {s : State} {i k : Slot} {copy : Copy} {n : Nat} (idle : s.syncRecord = .idle n)
    (busy : s.command.busy = true) (last : s.command.last = some .writeConfig) (target : s.sequencer.writeTarget = some copy)
    (taken : s.entries[i].state ≠ .sealed) {l : List DownStep} (distinct : l.Nodup) {step : DownStep} (mem : step ∈ l)
    (reports : s.configStep i step = some k) (quiet : ∀ other, other ≠ step → s.configStep i other = none) :
    (l.foldl (State.downStep i) s).command = { s.command with busy := false, result := .failed, detail := 0 } ∧
    (l.foldl (State.downStep i) s).sequencer.writeTarget = none ∧
    ((l.map DownStep.records).sum ≤ 11 → s.events.records.length ≤ 20 →
      (l.foldl (State.downStep i) s).events.Logs (.configWriteFailed copy .device) s.entries[k].page (some k) none) := by
  obtain ⟨before, after, rfl⟩ := List.append_of_mem mem
  have still : s.StillWrites i (before.foldl (State.downStep i) s) :=
    List.foldlRecOn (motive := s.StillWrites i) before _ ⟨rfl, rfl, rfl, taken, fun _ => rfl⟩
      fun _ h other here => h.step idle last (quiet other (ne_of_mem_of_not_mem here (notMem_before_of_nodup distinct)))
  have page := (State.foldl_downStep_keeps before s i k).2.1
  have failed : (before.foldl (State.downStep i) s).downStep i step =
      (before.foldl (State.downStep i) s).configFailed k s.entries[k].page .device := by
    rw [State.downStep_config ((still.steps step).trans reports), page]
  have writing : (before.foldl (State.downStep i) s).running .writeConfig = true :=
    State.running_iff.mpr (by rw [still.command]; exact ⟨busy, last⟩)
  rw [State.configFailed_eq (still.target.trans target) writing, still.command] at failed
  let ended : CommandUnit := { s.command with busy := false, result := .failed, detail := 0 }
  suffices (after.foldl (State.downStep i) ((before.foldl (State.downStep i) s).downStep i step)).command = ended ∧
      (after.foldl (State.downStep i) ((before.foldl (State.downStep i) s).downStep i step)).sequencer.writeTarget = none ∧
      (after.foldl (State.downStep i) ((before.foldl (State.downStep i) s).downStep i step)).syncRecord = .idle n by
    refine ⟨?_, ?_, fun budget few => State.foldl_downStep_logs budget few fun room => ?_⟩
    · rw [List.foldl_append, List.foldl_cons]
      exact this.1
    · rw [List.foldl_append, List.foldl_cons]
      exact this.2.1
    · rw [failed]
      exact EventQueue.logs_append (Nat.lt_of_add_right_lt room) _ _ _ _
  refine List.foldlRecOn (motive := fun t : State => t.command = ended ∧ t.sequencer.writeTarget = none ∧ t.syncRecord = .idle n) after _
    ?_ fun t ⟨command, cleared, sync⟩ other _ => ?_
  · rw [failed]
    exact ⟨rfl, rfl, still.sync.trans idle⟩
  · obtain ⟨command', cleared'⟩ := State.downStep_still sync (i := i) (step := other)
      (State.not_running (by rw [command]; exact last) (by nofun)) (.inr cleared)
    exact ⟨command'.trans command, cleared'.trans cleared, State.downStep_syncIdle sync i other⟩

/-- The one CONFIG entry that still waits in the queue (R44). -/
theorem State.queuedConfig_eq_some {s : State} {k : Slot} (sealed : s.entries[k].state = .sealed) (config : s.entries[k].origin = some .config)
    (only : ∀ j : Slot, s.entries[j].state = .sealed → s.entries[j].origin = some .config → j = k) : s.queuedConfig = some k := by
  refine State.firstSlot_eq_some.mpr ⟨by simp only [sealed, config, beq_self_eq_true, Bool.and_self], fun j before => ?_⟩
  refine Bool.eq_false_iff.mpr fun meets => ?_
  rw [Bool.and_eq_true, beq_iff_eq, beq_iff_eq] at meets
  exact absurd (only j meets.1 meets.2) (ne_of_lt before)

theorem State.queuedConfig_eq_none {s : State} (unqueued : ∀ k : Slot, s.entries[k].state = .sealed → s.entries[k].origin ≠ some .config) :
    s.queuedConfig = none := by
  refine State.firstSlot_eq_none.mpr fun k => Bool.eq_false_iff.mpr fun meets => ?_
  rw [Bool.and_eq_true, beq_iff_eq, beq_iff_eq] at meets
  exact unqueued k meets.1 meets.2

/-! ### The link DOWN as a run of steps (R72) -/

theorem stepsOf_records (order : DownOrder) (place : Fin 5) :
    (((stepsOf order).insertIdx place.val .queuedConfig).map DownStep.records).sum ≤ 11 := by
  revert place
  cases order <;> decide

/-- The steps `l` of a link DOWN in state `s`, `i` being the slot in hand where a commit is cut short (R48). -/
structure State.FallsBy (s : State) (i : Slot) (l : List DownStep) : Prop where
  distinct : l.Nodup
  budget : (l.map DownStep.records).sum ≤ 11
  halts : .halt ∈ l
  notice : .notice ∈ l
  cut : .engine ∈ l ∨ .report ∈ l → s.link.opKind.isSome ∧ s.engine.slot = some i
  full : ∀ j, s.link.opKind.isSome → s.engine.slot = some j → j = i ∧ ∀ step, step ∈ l

/-- The state that the steps of a link DOWN lead to. -/
def State.fallen (s : State) (i : Slot) (l : List DownStep) : State := l.foldl (State.downStep i) (s.setLink s.link.lost)

theorem State.linkDown_falls (s : State) :
    ∃ (i : Slot) (l : List DownStep) (n : Nat), s.FallsBy i l ∧ s.linkDown = { s.fallen i l with freeIndex := n } := by
  simp only [State.linkDown]
  split
  · rename_i i op slot
    refine ⟨i, _, _, ⟨stepsOf_distinct _ _, stepsOf_records _ _, mem_stepsOf _ _ _, mem_stepsOf _ _ _, fun _ => ⟨op, slot⟩,
      fun j _ here => ⟨Option.some.inj (here.symm.trans slot), fun step => mem_stepsOf _ _ step⟩⟩, rfl⟩
  · rename_i other
    exact ⟨0, [.halt, .notice], _, ⟨by decide, by decide, by decide, by decide, fun mem => absurd mem (by decide),
      fun j op slot => absurd slot (other j op)⟩, rfl⟩

theorem exec_resetWait {s : State} {wait : Nat} (timer : s.link.resetWait = some wait) (late : 1000 ≤ wait) :
    exec .resetWaitTimerExpiry s = .next s.linkDown := by
  have due : reached resetWaitLimit s.link.resetWait = true := by
    rw [timer]
    exact decide_eq_true late
  exact congrArg _ (if_pos due)

theorem exec_resetWait_early {s : State} (early : ∀ n, s.link.resetWait = some n → n < 1000) :
    exec .resetWaitTimerExpiry s = .next s := by
  have due : ¬ reached resetWaitLimit s.link.resetWait = true := by
    cases timer : s.link.resetWait with
    | none => nofun
    | some n => exact fun h => absurd (early n timer) (Nat.not_lt.mpr (of_decide_eq_true h))
  exact congrArg _ (if_neg due)

theorem DttEntry.haltNotice_waiting {d : DttEntry} (waiting : d.state = .waiting) (start : Option Nat) : d.haltNotice start =
    { d with state := .ready, data := none, result := some (.fault .device), waitSet := none, discard := start } := if_pos waiting

section

variable {s : State} {i : Slot} {l : List DownStep}

/-- What the fences are answered: DURABILITY where the report of the commit cut short comes before the notice of HALTED, DEVICE otherwise (R114, R116, R126). -/
theorem State.FallsBy.fences (h : s.FallsBy i l) : ∃ reportFirst : Bool, ∀ (d : DttIndex) (ws : List WaitPair),
    s.dtt[d].state = .waiting → s.dtt[d].kind = some .fence → s.dtt[d].waitSet = some ws →
    (reportFirst = true → s.entries[i].origin ≠ some .config → ⟨i, s.entries[i].generation⟩ ∈ ws →
      (s.fallen i l).dtt[d] = s.dtt[d].failedFence s.discardStart ∧
      (s.events.records.length ≤ 20 →
        (s.fallen i l).events.Logs (.fenceFault .durability .wait) s.entries[i].page (some i) s.dtt[d].requester)) ∧
    (reportFirst = false ∨ ¬ (s.link.opKind.isSome ∧ s.engine.slot = some i ∧ s.entries[i].origin ≠ some .config ∧
        ⟨i, s.entries[i].generation⟩ ∈ ws) →
      (s.fallen i l).dtt[d] = s.dtt[d].haltNotice s.discardStart) := by
  obtain ⟨before, after, rfl⟩ := List.append_of_mem h.notice
  have notice : .notice ∉ before := notMem_before_of_nodup h.distinct
  refine ⟨decide (.report ∈ before), fun d ws waiting fence waitSet => ?_⟩
  have waits : ((s.setLink s.link.lost).reportedPair i).any s.dtt[d].waitsOn = true ↔
      s.entries[i].origin ≠ some .config ∧ ⟨i, s.entries[i].generation⟩ ∈ ws := by
    rw [State.reportedPair_waits, DttEntry.waitsOn_iff, waitSet, Option.getD_some]
    exact and_congr_right fun _ => ⟨fun h => h.2.2, fun mem => ⟨waiting, fence, mem⟩⟩
  refine ⟨fun reportFirst host mem => ?_, fun unheard => ?_⟩
  · obtain ⟨before, between, rfl⟩ := List.append_of_mem (of_decide_eq_true reportFirst)
    have report : .report ∉ before := notMem_before_of_nodup h.distinct.of_append_left
    have reported := State.foldl_downStep_reported (s := s.setLink s.link.lost) (after := between ++ .notice :: after)
      (fun here => notice (List.mem_append_left _ here)) report (waits.mpr ⟨host, mem⟩)
    rw [← List.cons_append, ← List.append_assoc] at reported
    exact ⟨reported.1, reported.2 h.budget⟩
  · refine State.foldl_downStep_noticed (s := s.setLink s.link.lost) notice fun report hears => ?_
    obtain ⟨op, slot⟩ := h.cut (.inr (List.mem_append_left _ report))
    exact unheard.elim (of_decide_eq_false · report) fun uncut => uncut ⟨op, slot, waits.mp hears⟩

/-- A read that waits is answered by the notice (R116). -/
theorem State.FallsBy.reads (h : s.FallsBy i l) {d : DttIndex} (read : s.dtt[d].kind = some .read) :
    (s.fallen i l).dtt[d] = s.dtt[d].haltNotice s.discardStart := by
  obtain ⟨before, after, rfl⟩ := List.append_of_mem h.notice
  have notice : .notice ∉ before := notMem_before_of_nodup h.distinct
  refine State.foldl_downStep_noticed (s := s.setLink s.link.lost) notice fun _ hears => ?_
  obtain ⟨_, waits⟩ := State.reportedPair_waits.mp hears
  obtain ⟨_, fence, _⟩ := DttEntry.waitsOn_iff.mp waits
  cases read.symm.trans fence

theorem State.fallen_settled (s : State) (i : Slot) (l : List DownStep) {d : DttIndex} (settled : s.dtt[d].state ≠ .waiting) :
    (s.fallen i l).dtt[d] = s.dtt[d] :=
  (State.foldl_downStep_dtt l (s.setLink s.link.lost) i d).trans (DttEntry.foldl_down_settled _ _ settled l)

theorem State.FallsBy.none_waits (h : s.FallsBy i l) (d : DttIndex) : (s.fallen i l).dtt[d].state ≠ .waiting := by
  rw [State.fallen, State.foldl_downStep_dtt]
  exact foldl_establishes (I := fun _ => True) (Q := fun d : DttEntry => d.state ≠ .waiting) h.notice trivial (fun _ _ _ => trivial)
    (fun _ _ => DttEntry.haltNotice_settled _) fun d step settled => by rwa [DttEntry.down_settled _ _ settled]

/-- An entry that is not in hand keeps its bytes; the timers of an OPEN one stop (R12). -/
theorem State.FallsBy.others (h : s.FallsBy i l) {j : Slot} (other : s.link.opKind = none ∨ s.engine.slot ≠ some j) :
    (s.fallen i l).entries[j] = s.entries[j].halted := by
  have out : decide (j = i) = false ∨ .engine ∉ l := by
    by_cases same : j = i
    · refine .inr fun mem => ?_
      obtain ⟨op, slot⟩ := h.cut (.inl mem)
      rcases other with idle | other
      · rw [idle] at op
        cases op
      · exact other (same ▸ slot)
    · exact .inl (decide_eq_false same)
  rw [State.fallen, State.foldl_downStep_get, Entry.foldl_down_other out, if_pos h.halts]
  rfl

/-- The commit in hand is cut short: the engine IDLE, the entry FAILED, COMMIT_FAILED logged (R48). -/
theorem State.FallsBy.cutShort (h : s.FallsBy i l) (op : s.link.opKind.isSome) (slot : s.engine.slot = some i)
    (committing : s.entries[i].state = .committing) :
    (s.fallen i l).engine = Engine.initial ∧ (s.fallen i l).entries[i] = s.entries[i].cutShort ∧
    (s.events.records.length ≤ 20 →
      (s.fallen i l).events.Logs (.commitFailed .device (s.entries[i].attempts + 1)) s.entries[i].page (some i) none) := by
  have ends := (h.full i op slot).2 .engine
  exact ⟨State.foldl_downStep_idle ends _ i, (State.foldl_downStep_hand (s := s.setLink s.link.lost) h.distinct committing).trans (if_pos ends),
    State.foldl_downStep_logs_commitFailed (s := s.setLink s.link.lost) h.distinct h.budget ends committing⟩

/-- The WRITE_CONFIG in progress ends FAILED with cause DEVICE, the loaded copy as it was, where one step reports its entry (R44, R48, R183). -/
theorem State.FallsBy.writeFails (h : s.FallsBy i l) (op : s.link.opKind.isSome) (slot : s.engine.slot = some i)
    (committing : s.entries[i].state = .committing) {k : Slot} {copy : Copy} {n : Nat} (idle : s.syncRecord = .idle n)
    (busy : s.command.busy = true) (last : s.command.last = some .writeConfig) (target : s.sequencer.writeTarget = some copy)
    {step : DownStep} (reports : s.configStep i step = some k) (quiet : ∀ other, other ≠ step → s.configStep i other = none) :
    (s.fallen i l).command = { s.command with busy := false, result := .failed, detail := 0 } ∧
    (s.fallen i l).sequencer.writeTarget = none ∧ (s.fallen i l).sequencer.loadedCopy = s.sequencer.loadedCopy ∧
    (s.fallen i l).sequencer.loadedSequence = s.sequencer.loadedSequence ∧
    (s.events.records.length ≤ 20 →
      (s.fallen i l).events.Logs (.configWriteFailed copy .device) s.entries[k].page (some k) none) := by
  let u := s.setLink s.link.lost
  have taken : s.entries[i].state ≠ .sealed := by rw [committing]; nofun
  obtain ⟨command, cleared, logs⟩ := State.foldl_downStep_writeFails (s := u) (k := k) idle busy last target taken h.distinct
    ((h.full i op slot).2 step) reports quiet
  obtain ⟨loadedCopy, loadedSequence⟩ := State.foldl_downStep_loaded l u i
  exact ⟨command, cleared, loadedCopy, loadedSequence, logs h.budget⟩

end

/-- Settles O31: the link DOWN is a run of distinct steps, and each part of the state is decided by the steps that act on it. -/
theorem lossOfTheDeviceHalts : Obligations.LossOfTheDeviceHalts := by
  unfold Obligations.LossOfTheDeviceHalts
  refine ⟨fun s early => exec_resetWait_early early, fun s wait timer late => ?_⟩
  obtain ⟨i, l, n, h, down⟩ := s.linkDown_falls
  let u := s.setLink s.link.lost
  have control : (s.fallen i l).control = { s.control with mode := .halted, drainCause := none, reinitPending := false } :=
    State.foldl_downStep_halts h.halts u i
  obtain ⟨link, queue⟩ := State.foldl_downStep_frame l u i
  obtain ⟨reportFirst, fences⟩ := h.fences
  have run := exec_resetWait timer late
  rw [down] at run
  refine ⟨_, run, congrArg ModeController.mode control, congrArg ModeController.drainCause control,
    congrArg ModeController.reinitPending control, ?_, link, queue, fun n idle => State.foldl_downStep_syncIdle (s := u) idle l i,
    fun ws n waiting => State.foldl_downStep_syncEnds (s := u) waiting h.notice i, h.none_waits, fun d waiting read => ?_,
    ⟨reportFirst, fun d ws waiting fence waitSet data => ⟨fun j first cut => ?_, fun unheard => ?_⟩⟩,
    fun d settled => s.fallen_settled i l settled, fun j other => h.others other,
    fun ws n waiting distinct last => State.foldl_downStep_syncFails (s := u) waiting distinct last h.notice i,
    fun j op slot committing => ?_, State.foldl_downStep_logs_halted (s := u) h.budget h.halts i,
    fun j copy found op slot committing config unqueued target busy last idle => ?_,
    fun j k copy found op slot committing host sealed config only target busy last idle => ?_⟩
  · show ((s.fallen i l).control.mode == .drained) = false
    rw [control]
    rfl
  · have noticed := (h.reads read).trans (DttEntry.haltNotice_waiting waiting _)
    exact ⟨congrArg DttEntry.state noticed, congrArg DttEntry.result noticed, congrArg DttEntry.discard noticed⟩
  · obtain ⟨op, slot, host, mem⟩ := cut
    obtain ⟨rfl, _⟩ := h.full j op slot
    exact (fences d ws waiting fence waitSet).1 first host mem
  · refine ((fences d ws waiting fence waitSet).2 (unheard.imp_right fun uncut cut => uncut i cut)).trans ?_
    rw [DttEntry.haltNotice_waiting waiting, ← data]
    rfl
  · obtain ⟨rfl, _⟩ := h.full j op slot
    exact h.cutShort op slot committing
  · obtain ⟨rfl, _⟩ := h.full j op slot
    refine h.writeFails op slot committing idle busy last target (step := .report) (if_pos config) fun other ne => ?_
    cases other with
    | report => exact absurd rfl ne
    | queuedConfig => exact State.queuedConfig_eq_none unqueued
    | engine | halt | notice => rfl
  · obtain ⟨rfl, _⟩ := h.full j op slot
    refine h.writeFails op slot committing idle busy last target (step := .queuedConfig) (State.queuedConfig_eq_some sealed config only)
      fun other ne => ?_
    cases other with
    | report => exact if_neg host
    | queuedConfig => exact absurd rfl ne
    | engine | halt | notice => rfl

end Sys2Proof.Machine
end

section
/-! SUPPORT. What the commands do to the array link, as far as the suspension count of its operation goes (R58, R63, R64, R65). -/

namespace Sys2Proof.Machine

/-! ### The operation of a link -/

/-- The states of the link that belong to a long operation (R56). -/
def Link.busy (l : Link) : Bool :=
  match l.state with
  | .opBusy | .suspending | .suspended | .suspendedReading => true
  | .idle | .reading | .resetting | .down => false

/-- The transaction in flight belongs to a long operation (R58, R64, R66). -/
def Link.operating (l : Link) : Bool :=
  match l.inFlight with
  | some .suspend | some .resume | some (.erase _) | some (.program _ _) => true
  | some (.read _ _) | some .status | some .reset | none => false

/-- A SUSPEND is with the device: issued, or accepted and not answered yet (R64). -/
def Link.suspends (l : Link) : Prop := l.inFlight = some .suspend ∨ l.state = .suspending

/-- The operation may be suspended once more (R63). -/
def State.suspensionLeft (s : State) : Prop := s.link.suspensionCount.getD 0 < s.params.suspendMax

theorem Link.engaged_iff (l : Link) : (l.busy = true ∨ l.operating = true) ↔
    (l.state = .opBusy ∨ l.state = .suspending ∨ l.state = .suspended ∨ l.state = .suspendedReading ∨
      l.inFlight = some .suspend ∨ l.inFlight = some .resume ∨
      (∃ page, l.inFlight = some (.erase page)) ∨ (∃ page bytes, l.inFlight = some (.program page bytes))) := by
  have states : l.busy = true ↔ l.state = .opBusy ∨ l.state = .suspending ∨ l.state = .suspended ∨ l.state = .suspendedReading := by
    unfold Link.busy
    split <;> simp [*]
  have flights : l.operating = true ↔ l.inFlight = some .suspend ∨ l.inFlight = some .resume ∨
      (∃ page, l.inFlight = some (.erase page)) ∨ (∃ page bytes, l.inFlight = some (.program page bytes)) := by
    unfold Link.operating
    split <;> simp [*]
  rw [states, flights]
  simp only [or_assoc]

theorem Link.suspends_engaged {l : Link} (h : l.suspends) : l.busy = true ∨ l.operating = true :=
  h.elim (fun flight => .inr (by rw [Link.operating, flight])) (fun state => .inl (by rw [Link.busy, state]))

theorem State.suspensionBudget_iff (s : State) : s.SuspensionBudget ↔
    (s.link.suspensionCount.isSome → (s.engine.stage = .erase ∨ s.engine.stage = .program) ∧ s.engine.step = some .issued) ∧
    (s.link.busy = true ∨ s.link.operating = true → s.link.suspensionCount.isSome) ∧
    (∀ n, s.link.suspensionCount = some n → n ≤ s.params.suspendMax ∧ (s.link.suspends → n < s.params.suspendMax)) := by
  rw [Link.engaged_iff]
  rfl

/-! ### Links that carry their operation on -/

/-- The link goes on with its operation, or without one: its count stays, an operation was there before, a SUSPEND is issued where there is room for one, and
no suspension begins. -/
structure Link.Carries (room : Prop) (l l' : Link) : Prop where
  count : l'.suspensionCount = l.suspensionCount
  engaged : l'.busy = true ∨ l'.operating = true → l.busy = true ∨ l.operating = true
  suspends : l'.suspends → l.suspends ∨ room
  stays : l.state = .suspending → l'.state ≠ .suspended

theorem Link.Carries.of_same {room : Prop} {l l' : Link} (count : l'.suspensionCount = l.suspensionCount) (state : l'.state = l.state)
    (flight : l'.inFlight = l.inFlight) : l.Carries room l' where
  count := count
  engaged := by simp only [Link.busy, Link.operating, state, flight, imp_self]
  suspends := by simp only [Link.suspends, state, flight]; exact .inl
  stays before := by rw [state, before]; nofun

theorem Link.Carries.refl (room : Prop) (l : Link) : l.Carries room l := .of_same rfl rfl rfl

/-- Another transaction than those of the operation is in flight, or none. -/
theorem Link.Carries.of_plain {room : Prop} {l l' : Link} (count : l'.suspensionCount = l.suspensionCount) (state : l'.state = l.state)
    (plain : l'.operating = false) : l.Carries room l' where
  count := count
  engaged := by
    rw [plain, show l'.busy = l.busy by simp only [Link.busy, state]]
    exact fun h => .inl (h.resolve_right Bool.false_ne_true)
  suspends h := .inl (h.elim (fun flight => by rw [Link.operating, flight] at plain; cases plain) fun after => .inr (state ▸ after))
  stays before := by rw [state, before]; nofun

/-- The link has no operation in hand. -/
theorem Link.Carries.of_unengaged {room : Prop} {l l' : Link} (count : l'.suspensionCount = l.suspensionCount) (free : l'.busy = false)
    (plain : l'.operating = false) : l.Carries room l' := by
  have none : ¬ (l'.busy = true ∨ l'.operating = true) := by simp [free, plain]
  exact ⟨count, fun h => absurd h none, fun h => absurd (Link.suspends_engaged h) none,
    fun _ after => by rw [Link.busy, after] at free; cases free⟩

/-- The device has accepted a command of the operation, which runs on (R58, R66). -/
theorem Link.Carries.of_accepted {room : Prop} {l l' : Link} (operating : l.operating = true) (count : l'.suspensionCount = l.suspensionCount)
    (state : l'.state = .opBusy) (flight : l'.inFlight = none) : l.Carries room l' where
  count := count
  engaged _ := .inr operating
  suspends h := by
    rcases h with suspend | suspending
    · rw [flight] at suspend; cases suspend
    · rw [state] at suspending; cases suspending
  stays _ := by rw [state]; nofun

theorem Link.Carries.of_ended {room : Prop} {l l' : Link} (h : l.ended.Carries room l') : l.Carries room l' where
  count := h.count
  engaged after := .inl ((h.engaged after).resolve_right nofun)
  suspends after := (h.suspends after).imp_left fun before => .inr (before.resolve_left nofun)
  stays := h.stays

/-! ### The operations of the link controller -/

theorem Link.issueRead_awake {l : Link} (awake : l.state ≠ .suspended) (owner : Owner) (addr count : Nat) :
    l.issueRead owner addr count = { l with state := .reading, owner := some owner, inFlight := some (.read addr count) } := if_neg awake

theorem Link.issueRead_suspended {l : Link} (suspended : l.state = .suspended) (owner : Owner) (addr count : Nat) :
    l.issueRead owner addr count = { l with
      state := .suspendedReading, owner := some owner, inFlight := some (.read addr count)
      fetchesThisSuspension := some (l.fetchesThisSuspension.getD 0 + 1) } := if_pos suspended

theorem Link.issueRead_carries (room : Prop) (l : Link) (owner : Owner) (addr count : Nat) : l.Carries room (l.issueRead owner addr count) := by
  by_cases suspended : l.state = .suspended
  · rw [Link.issueRead_suspended suspended]
    exact ⟨rfl, fun _ => .inl (by rw [Link.busy, suspended]), nofun, fun _ => nofun⟩
  · rw [Link.issueRead_awake suspended]
    exact .of_unengaged rfl rfl rfl

theorem Link.readEnded_carries (room : Prop) (l : Link) : l.Carries room l.readEnded := by
  by_cases reading : l.state = .suspendedReading
  · have ended : l.readEnded = { l.ended with state := .suspended } := by rw [Link.readEnded, if_pos reading]
    rw [ended]
    exact ⟨rfl, fun _ => .inl (by rw [Link.busy, reading]), nofun, fun before => by rw [reading] at before; cases before⟩
  · have ended : l.readEnded = { l.ended with state := .idle } := by rw [Link.readEnded, if_neg reading]
    rw [ended]
    exact .of_unengaged rfl rfl rfl

theorem Link.endSuspension_carries (room : Prop) (l : Link) : l.Carries room l.endSuspension := by
  unfold Link.endSuspension
  split
  · rename_i idle
    exact ⟨rfl, fun _ => .inl (by rw [Link.busy, idle.1]), fun h => .inl (.inr (h.resolve_left nofun)), fun before => by
      rw [idle.1] at before; cases before⟩
  · exact .refl _ _

theorem State.drainStart_link (s : State) (cause : DrainCause) : (s.drainStart cause).link = s.link.endSuspension := rfl

/-- A SUSPEND is issued in OP_BUSY alone, while the operation may be suspended once more (R64). -/
theorem State.suspendDue_iff {s : State} : s.suspendDue = true ↔
    s.link.state = .opBusy ∧ s.ReadWaits ∧ s.suspensionLeft ∧ s.control.mode = .running := by
  simp only [State.suspendDue, Bool.and_eq_true, beq_iff_eq, decide_eq_true_iff, State.fetchPending_iff, State.suspensionLeft]
  exact ⟨fun ⟨⟨⟨⟨busy, waits⟩, _⟩, left⟩, mode⟩ => ⟨busy, waits, left, mode⟩,
    fun ⟨busy, waits, left, mode⟩ => ⟨⟨⟨⟨busy, waits⟩, Nat.zero_lt_of_lt left⟩, left⟩, mode⟩⟩

theorem State.takePoll_carries (s : State) : s.link.Carries s.suspensionLeft s.takePoll.link := by
  unfold State.takePoll
  split
  · rename_i due
    obtain ⟨busy, _, left, _⟩ := State.suspendDue_iff.mp due
    exact ⟨rfl, fun _ => .inl (by rw [Link.busy, busy]), fun _ => .inr left, fun before => by rw [busy] at before; cases before⟩
  · exact .of_plain rfl rfl rfl

theorem State.takeOwedPoll_carries (s : State) : s.link.Carries s.suspensionLeft s.takeOwedPoll.link := by
  unfold State.takeOwedPoll
  split
  · exact s.takePoll_carries
  · exact .of_same rfl rfl rfl

theorem State.timeOut_carries (room : Prop) (s : State) (phase : TimeoutPhase) : s.link.Carries room (s.timeOut phase).link := by
  simp only [State.timeOut]
  split
  · exact .of_plain rfl rfl rfl
  · exact .of_same rfl rfl rfl

theorem State.resetTaken_carries (room : Prop) (s : State) : s.link.Carries room s.resetTaken.link := by
  simp only [State.resetTaken]
  split <;> exact .of_unengaged rfl rfl rfl

theorem State.linkDown_link (s : State) : s.linkDown.link = s.link.lost := by
  simp only [State.linkDown]
  split
  · simp only [State.spendFree_link, State.downDuringCommit_frame, State.setLink_link]
  · simp only [State.enterHalted_frame, State.setLink_link]

end Sys2Proof.Machine
end

section
/-! PROOFS. The suspension count of an operation stays within SUSPEND_MAX (O59). -/

namespace Sys2Proof.Machine

/-! ### What a command does to the suspension count (R63) -/

/-- What a command does to the suspension count: the link carries its operation on, an operation is granted, the operation is suspended, or it ends. -/
inductive State.CountStep (c : Instr) (s t : State) : Prop
  | carries (link : s.link.Carries s.suspensionLeft t.link) (engine : s.link.suspensionCount.isSome → t.engine = s.engine)
  | granted (command : c = .arbiterDecision) (before : s.link.suspensionCount = none) (after : t.link.suspensionCount = some 0)
    (flight : (∃ page, t.link.inFlight = some (.erase page)) ∨ ∃ page bytes, t.link.inFlight = some (.program page bytes))
    (stage : t.engine.stage = .erase ∨ t.engine.stage = .program) (issued : t.engine.step = some .issued) (quiet : ¬ t.link.suspends)
  | suspended {n : Nat} (suspending : s.link.state = .suspending) (before : s.link.suspensionCount = some n)
    (suspended : t.link.state = .suspended) (after : t.link.suspensionCount = some (n + 1)) (engine : t.engine = s.engine)
    (quiet : ¬ t.link.suspends)
  | ended (count : t.link.suspensionCount = none) (kind : t.link.opKind = none) (free : t.link.busy = false)
    (plain : t.link.operating = false)

theorem State.CountStep.of_engine {c : Instr} {s t : State} (link : s.link.Carries s.suspensionLeft t.link) (engine : t.engine = s.engine) :
    s.CountStep c t := .carries link fun _ => engine

theorem State.CountStep.refl (c : Instr) (s : State) : s.CountStep c s := .of_engine (.refl _ _) rfl

/-- A command that acts under a condition, and changes nothing otherwise. -/
theorem State.CountStep.of_ite {c : Instr} {s t : State} {p : Prop} [Decidable p] (h : p → s.CountStep c t) :
    s.CountStep c (if p then t else s) := by
  split
  · exact h ‹_›
  · exact .refl c s

/-- An operation is in progress only while the engine awaits it (R58). -/
theorem State.SuspensionBudget.awaits {s : State} (budget : s.SuspensionBudget) (counted : s.link.suspensionCount.isSome) :
    (s.engine.stage = .erase ∨ s.engine.stage = .program) ∧ s.engine.step = some .issued := (s.suspensionBudget_iff.mp budget).1 counted

theorem State.SuspensionBudget.counted {s : State} (budget : s.SuspensionBudget) (engaged : s.link.busy = true ∨ s.link.operating = true) :
    s.link.suspensionCount.isSome := (s.suspensionBudget_iff.mp budget).2.1 engaged

theorem State.SuspensionBudget.uncounted {s : State} (budget : s.SuspensionBudget) (waiting : s.engine.step = some .waiting) :
    s.link.suspensionCount = none := Option.not_isSome_iff_eq_none.mp fun counted => by
  have issued := (budget.awaits counted).2
  rw [waiting] at issued
  cases issued

/-! ### The arbiter (R60, R62) -/

theorem State.arbitrate_cases (s : State) : s.arbitrate = s.grantOldest ∨ ∃ i, s.engineClaim = some i ∧ s.arbitrate = s.grantClaim i := by
  unfold State.arbitrate
  split
  · exact .inl rfl
  · split
    · exact .inl rfl
    · exact .inr ⟨_, ‹_›, rfl⟩

theorem State.arbitrateDrain_cases (s : State) : s.arbitrateDrain = s ∨ s.arbitrateDrain = s.grantOldest ∨
    ∃ i, s.engineClaim = some i ∧ s.arbitrateDrain = s.grantClaim i := by
  unfold State.arbitrateDrain
  split
  · exact .inr (.inr ⟨_, ‹_›, rfl⟩)
  · split
    · exact .inl rfl
    · exact .inr (.inl rfl)

/-- The arbiter grants nothing, the oldest read, or the engine's claim. -/
theorem execArbiterDecision_cases {s t : State} (h : execArbiterDecision s = .next t) :
    t = s ∨ s.linkFree = true ∧ (t = s.grantOldest ∨ ∃ i, s.engineClaim = some i ∧ t = s.grantClaim i) := by
  cases h
  split
  · rename_i free
    split
    · exact .inr ⟨free, s.arbitrate_cases⟩
    · exact .inr ⟨free, s.arbitrate_cases⟩
    · exact s.arbitrateDrain_cases.imp_right fun granted => ⟨free, granted⟩
    · exact .inl rfl
    · exact .inl rfl
  · exact .inl rfl

theorem State.grantOldest_count (c : Instr) (s : State) : s.CountStep c s.grantOldest := by
  refine .of_engine ?_ (by simp)
  unfold State.grantOldest State.grantFetch
  split
  · split
    · simpa using Link.Carries.refl s.suspensionLeft s.link
    · rename_i d _ _
      have read := Link.issueRead_carries s.suspensionLeft s.link (.fetch d) s.dtt[d].addr s.dtt[d].len
      exact ⟨read.count, read.engaged, read.suspends, read.stays⟩
  · exact .refl _ _

theorem State.grantClaim_count {s : State} {i : Slot} (budget : s.SuspensionBudget) (free : s.linkFree = true) (claim : s.engineClaim = some i) :
    s.CountStep .arbiterDecision (s.grantClaim i) := by
  obtain ⟨idle, -⟩ := State.linkFree_iff.mp free
  have waiting : s.engine.step = some .waiting := by
    by_contra other
    rw [State.engineClaim, if_neg other] at claim
    cases claim
  have before := budget.uncounted waiting
  have uncounted : ¬ s.link.suspensionCount.isSome := by rw [before]; nofun
  have quiet {l : Link} (state : l.state = s.link.state) (flight : l.inFlight ≠ some .suspend) : ¬ l.suspends := by
    rintro (suspend | suspending)
    · exact flight suspend
    · rw [state, idle] at suspending
      cases suspending
  have awake : s.link.state ≠ .suspended := by rw [idle]; nofun
  have reads (stage : s.engine.stage = .fill ∨ s.engine.stage = .verify) : s.CountStep .arbiterDecision (s.grantClaim i) := by
    refine .carries ?_ fun counted => absurd counted uncounted
    rw [State.grantClaim, State.grantEngine_read stage, Link.issueRead_awake awake]
    exact .of_unengaged rfl rfl rfl
  cases stage : s.engine.stage with
  | idle =>
    refine .carries ?_ fun counted => absurd counted uncounted
    rw [State.grantClaim, State.grantEngine, stage]
    exact .of_same rfl rfl rfl
  | fill => exact reads (.inl stage)
  | verify => exact reads (.inr stage)
  | erase =>
    rw [State.grantClaim, State.grantEngine_erase stage]
    exact .granted rfl before rfl (.inl ⟨_, rfl⟩) (.inl stage) rfl (quiet rfl nofun)
  | program =>
    rw [State.grantClaim, State.grantEngine_program stage]
    exact .granted rfl before rfl (.inr ⟨_, _, rfl⟩) (.inr stage) rfl (quiet rfl nofun)

/-! ### READ completions and STATUS replies (R57, R59, R65, R71) -/

/-- While the engine awaits an operation the bytes of a READ are none of its own (R58). -/
theorem State.deliver_engine {s : State} (stage : s.engine.stage = .erase ∨ s.engine.stage = .program) (owner : Option Owner) (bytes : List Byte) :
    (s.deliver owner bytes).engine = s.engine := by
  unfold State.deliver
  split
  · unfold State.engineBytes
    rcases stage with stage | stage <;> split <;> simp only [stage]
  · simp
  · simp
  · rfl
  · rfl

theorem State.operationCompletes_link (s : State) (failFlag : Bool) : (s.operationCompletes failFlag).link = s.link.operationOver := by
  simp only [State.operationCompletes, State.operationResult_frame, State.setLink_link]

theorem State.deviceRecovered_link (s : State) : s.deviceRecovered.link = s.link.operationOver := by
  unfold State.deviceRecovered
  split
  · simp only [State.attemptFails_frame, State.setLink_link]
  · split <;> rfl

theorem State.CountStep.of_over {c : Instr} {s t : State} (quiet : s.link.inFlight = none) (link : t.link = s.link.operationOver) :
    s.CountStep c t := by
  have plain : s.link.operationOver.operating = false := by simp only [Link.operating, Link.operationOver, quiet]
  exact .ended (by rw [link]; rfl) (by rw [link]; rfl) (by rw [link]; rfl) (by rw [link, plain])

/-- A STATUS reply, once its transaction has ended. -/
theorem State.takeReply_count {c : Instr} {s : State} (budget : s.SuspensionBudget) (quiet : s.link.inFlight = none) (cond : DeviceCondition)
    (failFlag : Bool) : s.CountStep c (s.takeReply cond failFlag) := by
  unfold State.takeReply
  split
  · exact .of_over quiet (s.operationCompletes_link failFlag)
  · exact .of_over quiet (s.operationCompletes_link failFlag)
  · rename_i suspending
    obtain ⟨n, before⟩ := Option.isSome_iff_exists.mp (budget.counted (.inl (by rw [Link.busy, suspending])))
    refine .suspended suspending before rfl ?_ rfl ?_
    · simp [State.operationSuspended, State.countSuspension, before]
    · rintro (suspend | state)
      · exact absurd (quiet.symm.trans suspend) nofun
      · cases state
  · exact .of_over quiet s.deviceRecovered_link
  · exact .of_engine s.takeOwedPoll_carries (by simp)

/-- The end of the transaction in flight changes nothing of the operation. -/
theorem State.SuspensionBudget.of_ended {s : State} (budget : s.SuspensionBudget) : (s.setLink s.link.ended).SuspensionBudget := by
  obtain ⟨awaits, counted, left⟩ := s.suspensionBudget_iff.mp budget
  refine (State.suspensionBudget_iff _).mpr ⟨awaits, fun engaged => counted (.inl (engaged.resolve_right nofun)), fun n count => ?_⟩
  exact ⟨(left n count).1, fun suspends => (left n count).2 (.inr (suspends.resolve_left nofun))⟩

theorem State.CountStep.of_ended {c : Instr} {s t : State} (h : (s.setLink s.link.ended).CountStep c t) : s.CountStep c t := by
  cases h with
  | carries link engine => exact .carries link.of_ended engine
  | granted command before after flight stage issued quiet => exact .granted command before after flight stage issued quiet
  | suspended suspending before suspended after engine quiet => exact .suspended suspending before suspended after engine quiet
  | ended count kind free plain => exact .ended count kind free plain

/-! ### Every command -/

theorem exec_count {c : Instr} {s t : State} (budget : s.SuspensionBudget) (h : exec c s = .next t) : s.CountStep c t := by
  cases c with
  | powerOn => cases h; exact .ended rfl rfl rfl rfl
  | resetNAssertion =>
    cases h
    split
    · exact .refl _ s
    · exact .ended rfl rfl rfl rfl
  | takeHead =>
    refine .carries (by simpa only [execTakeHead_frame s t h] using .refl _ _) fun counted => ?_
    have busy : ¬ s.mayTake = true := fun may => by
      simp only [State.mayTake, Bool.and_eq_true, beq_iff_eq] at may
      rcases (budget.awaits counted).1 with stage | stage <;> rw [may.1] at stage <;> cases stage
    cases h
    rw [if_neg busy]
  | arbiterDecision =>
    rcases execArbiterDecision_cases h with rfl | ⟨free, rfl | ⟨i, claim, rfl⟩⟩
    · exact .refl _ t
    · exact s.grantOldest_count _
    · exact State.grantClaim_count budget free claim
  | longOperationAccepted =>
    cases h
    split
    · exact .of_engine (.of_accepted (by simp only [Link.operating, *]) rfl rfl rfl) rfl
    · exact .of_engine (.of_accepted (by simp only [Link.operating, *]) rfl rfl rfl) rfl
    · exact .refl _ s
  | readCompletion bytes =>
    cases h
    split
    · refine .of_ite fun _ => .carries (by simpa using s.link.readEnded_carries _) fun counted => ?_
      exact State.deliver_engine (s := s.setLink s.link.readEnded) (budget.awaits counted).1 s.link.owner bytes
    · exact .refl _ s
  | pollTime =>
    cases h
    refine .of_ite fun _ => ?_
    split
    · exact .of_engine s.takePoll_carries (by simp)
    · exact .of_engine (.of_same rfl rfl rfl) rfl
  | suspendAccepted =>
    cases h
    refine .of_ite fun suspend => ?_
    split
    · exact .of_engine (.of_plain rfl rfl rfl) rfl
    · exact .of_engine ⟨rfl, fun _ => .inr (by rw [Link.operating, suspend]), fun _ => .inl (.inl suspend), fun _ => nofun⟩ rfl
  | statusReply cond failFlag =>
    cases h
    refine .of_ite fun _ => ?_
    split
    · exact .of_engine (.of_plain rfl rfl rfl) rfl
    · exact .of_ended (State.takeReply_count budget.of_ended rfl cond failFlag)
  | suspendedFetchStep =>
    cases h
    refine .of_ite fun _ => ?_
    split
    · refine .of_engine ?_ (by simp)
      unfold State.serveSuspended
      split
      · simpa using .refl _ _
      · exact Link.issueRead_carries _ _ _ _ _
    · exact .refl _ s
  | endSuspension =>
    cases h
    refine .of_ite fun ⟨idle, _⟩ => .of_engine ?_ rfl
    have suspended : s.link.state = .suspended ∧ s.link.quiet = true := by
      simpa only [State.suspendedIdle, Bool.and_eq_true, beq_iff_eq] using idle
    have resume := s.link.endSuspension_carries s.suspensionLeft
    rwa [Link.endSuspension, if_pos suspended] at resume
  | resumeAccepted =>
    cases h
    exact .of_ite fun resume => .of_engine (.of_accepted (by rw [Link.operating, resume]) rfl rfl rfl) rfl
  | operationTimerExpiry => cases h; exact .of_ite fun _ => .of_engine (s.timeOut_carries _ _) (by simp)
  | suspendWaitTimerExpiry => cases h; exact .of_ite fun _ => .of_engine (s.timeOut_carries _ _) (by simp)
  | resetAccepted => cases h; exact .of_ite fun _ => .of_engine (s.resetTaken_carries _) (by simp)
  | resetWaitTimerExpiry =>
    cases h
    refine .of_ite fun _ => ?_
    have lost := s.linkDown_link
    exact .ended (by rw [lost]; rfl) (by rw [lost]; rfl) (by rw [lost]; rfl) (by rw [lost]; rfl)
  | pfailAssertion =>
    refine .of_engine ?_ (by simp only [execPfailAssertion_frame s t h])
    cases h
    split
    · exact .refl _ _
    · unfold State.pfailAsserts
      split
      · exact s.link.endSuspension_carries _
      all_goals exact .refl _ _
  | deferredDrainStart => cases h; exact .of_ite fun _ => .of_engine (s.link.endSuspension_carries _) (by simp)
  | reinitClaim =>
    cases h
    refine .of_ite fun _ => .of_engine ?_ (by simp)
    unfold State.takeReinitClaim
    split
    · exact s.link.endSuspension_carries _
    · exact .refl _ _
    · exact .refl _ _
    · simpa using .refl _ _
    · exact .refl _ _
  | deviceReset => cases h; exact .of_ite fun _ => .of_engine (.of_plain rfl rfl rfl) rfl
  | readA => cases h; exact .of_ite fun _ => .of_engine (Link.issueRead_carries _ _ _ _ _) rfl
  | readB => cases h; exact .of_ite fun _ => .of_engine (Link.issueRead_carries _ _ _ _ _) rfl
  | _ =>
    obtain ⟨link, engine⟩ := (exec_quiet h).link rfl
    exact .of_engine (link ▸ .refl _ _) engine

/-! ### SUSPEND_MAX while an operation is in progress -/

/-- No operation is in progress in START, where no entry is COMMITTING (R28, R29). -/
theorem State.StagingLaw.not_start {s : State} (law : s.StagingLaw) (budget : s.SuspensionBudget) (counted : s.link.suspensionCount.isSome) :
    s.control.mode ≠ .start := fun start => by
  obtain ⟨-, ⟨idle, -, hand, -⟩, -, settled, -⟩ := law
  have busy : s.engine.stage ≠ .idle := by
    rcases (budget.awaits counted).1 with stage | stage <;> rw [stage] <;> nofun
  obtain ⟨i, slot⟩ := Option.ne_none_iff_exists'.mp (mt idle.mpr busy)
  rcases settled (.inr start) i with state | state <;> rw [(hand i).mp slot] at state <;> cases state

/-- The parameters change at an application and at the resets alone, where no operation is in progress. -/
theorem exec_suspendMax {c : Instr} {s t : State} (law : s.StagingLaw) (budget : s.SuspensionBudget) (h : exec c s = .next t)
    (counted : t.link.suspensionCount.isSome) : t.params.suspendMax = s.params.suspendMax := by
  cases c with
  | powerOn => cases h; cases counted
  | resetNAssertion => cases h; split <;> rfl
  | apply =>
    have before : s.link.suspensionCount.isSome := by simpa only [execApply_frame s t h] using counted
    have outside : ¬ (s.inPhase .apply = true ∧ s.sequencer.applied = false) := fun ⟨phase, _⟩ =>
      law.not_start budget before (State.inPhase_iff.mp phase).1
    cases h
    rw [if_neg outside]
  | readCompletion bytes => simp only [execReadCompletion_frame bytes s t h]
  | statusReply cond failFlag => simp only [execStatusReply_frame cond failFlag s t h]
  | refreshStep => simp only [execRefreshStep_frame s t h]
  | pfailAssertion => simp only [execPfailAssertion_frame s t h]
  | deferredDrainStart => simp only [execDeferredDrainStart_frame s t h]
  | reinitClaim => simp only [execReinitClaim_frame s t h]
  | resetWaitTimerExpiry => simp only [execResetWaitTimerExpiry_frame s t h]
  | _ => rw [((exec_quiet h).params rfl).1]

/-! ### The budget (R63) -/

theorem exec_suspensionBudget {c : Instr} {s t : State} (law : s.StagingLaw) (budget : s.SuspensionBudget) (h : exec c s = .next t) :
    t.SuspensionBudget := by
  obtain ⟨awaits, counted, left⟩ := s.suspensionBudget_iff.mp budget
  refine t.suspensionBudget_iff.mpr ?_
  have same {n : Nat} (count : t.link.suspensionCount = some n) : t.params.suspendMax = s.params.suspendMax :=
    exec_suspendMax law budget h (by rw [count]; rfl)
  cases exec_count budget h with
  | carries link engine =>
    refine ⟨fun after => ?_, fun engaged => link.count ▸ counted (link.engaged engaged), fun n count => ?_⟩
    · have before := link.count ▸ after
      exact engine before ▸ awaits before
    · have before : s.link.suspensionCount = some n := link.count ▸ count
      have room : s.suspensionLeft → n < s.params.suspendMax := by rw [State.suspensionLeft, before]; exact id
      rw [same count]
      exact ⟨(left n before).1, fun suspends => (link.suspends suspends).elim (left n before).2 room⟩
  | granted command before after flight stage issued quiet =>
    refine ⟨fun _ => ⟨stage, issued⟩, fun _ => by rw [after]; rfl, fun n count => ⟨?_, fun suspends => absurd suspends quiet⟩⟩
    cases after.symm.trans count
    exact Nat.zero_le _
  | suspended suspending before suspended after engine quiet =>
    refine ⟨fun _ => engine ▸ awaits (by rw [before]; rfl), fun _ => by rw [after]; rfl, fun n count => ⟨?_, fun suspends => absurd suspends quiet⟩⟩
    rw [same count]
    cases after.symm.trans count
    exact (left _ before).2 (.inr suspending)
  | ended count kind free plain =>
    refine ⟨fun after => ?_, fun engaged => ?_, fun n after => ?_⟩
    · rw [count] at after; cases after
    · rw [free, plain] at engaged; exact engaged.elim nofun nofun
    · rw [count] at after; cases after

theorem State.tick_suspensionBudget {s : State} (budget : s.SuspensionBudget) : s.tick.SuspensionBudget := budget

/-- Settles O59: a command carries the operation on, grants one, suspends it or ends it (`exec_count`), and SUSPEND_MAX stays while one is in progress. -/
theorem suspensionCountStaysInBudget : Obligations.SuspensionCountStaysInBudget := by
  refine ⟨fun s t law budget h => ?_, fun c s t budget h => ⟨fun fresh => ?_, fun n count => ?_⟩⟩
  · exact step_of_exec (H := fun s => s.StagingLaw ∧ s.SuspensionBudget) (fun _ _ laws => laws)
      (fun _ laws => State.tick_suspensionBudget laws.2) (fun _ _ _ laws run => exec_suspensionBudget laws.1 laws.2 run) ⟨law, budget⟩ h
  · cases exec_count budget h with
    | carries link => exact .inl (link.count.trans fresh)
    | granted command _ after flight => exact .inr ⟨after, command, flight⟩
    | suspended _ before => rw [fresh] at before; cases before
    | ended after => exact .inl after
  · cases exec_count budget h with
    | carries link => exact .inl ⟨link.count.trans count, fun ⟨suspending, suspended⟩ => link.stays suspending suspended⟩
    | granted _ before => rw [count] at before; cases before
    | suspended suspending before suspended after =>
      cases count.symm.trans before
      exact .inr (.inl ⟨after, suspending, suspended⟩)
    | ended after kind => exact .inr (.inr ⟨after, kind⟩)

end Sys2Proof.Machine
end

section
/-! PROOFS. The oldest WAITING read is served (O20), and the completion of its fetch (O21). -/

namespace Sys2Proof.Machine

/-! ### The oldest read (R61) -/

theorem DttEntry.eligible_iff {d : DttEntry} : d.eligible = true ↔ d.state = .waiting ∧ d.kind = some .read := by
  simp only [DttEntry.eligible, Bool.and_eq_true, beq_iff_eq]

theorem State.oldestOf_mem {s : State} {l : List DttIndex} {j : DttIndex} (h : s.oldestOf l = some j) : s.dtt[j].eligible = true := by
  induction l with
  | nil => cases h
  | cons i rest ih =>
    unfold State.oldestOf at h
    split at h
    · rename_i eligible
      split at h
      · split at h
        · cases h; exact ih ‹_›
        · cases h; exact eligible
      · cases h; exact eligible
    · exact ih h

/-- A read whose arrival number lies below every other's is the oldest. -/
theorem State.oldestOf_eq {s : State} {d : DttIndex} (eligible : s.dtt[d].eligible = true)
    (oldest : ∀ j : DttIndex, j ≠ d → s.dtt[j].eligible = true → s.dtt[d].arrival.getD 0 < s.dtt[j].arrival.getD 0) {l : List DttIndex}
    (mem : d ∈ l) : s.oldestOf l = some d := by
  induction l with
  | nil => cases mem
  | cons i rest ih =>
    by_cases here : i = d
    · subst here
      rw [State.oldestOf, if_pos eligible]
      split
      · rename_i j found
        refine if_neg fun younger => ?_
        by_cases same : j = i
        · exact absurd younger (same ▸ Nat.lt_irrefl _)
        · exact absurd younger (Nat.lt_asymm (oldest j same (State.oldestOf_mem found)))
      · rfl
    · rw [State.oldestOf, ih ((List.mem_cons.mp mem).resolve_left (Ne.symm here))]
      split
      · exact if_pos (oldest i here ‹_›)
      · rfl

theorem State.oldestRead_eq {s : State} {d : DttIndex} (waiting : s.dtt[d].state = .waiting) (read : s.dtt[d].kind = some .read)
    (oldest : ∀ j : DttIndex, j ≠ d → s.dtt[j].state = .waiting → s.dtt[j].kind = some .read →
      s.dtt[d].arrival.getD 0 < s.dtt[j].arrival.getD 0) : s.oldestRead = some d :=
  State.oldestOf_eq (DttEntry.eligible_iff.mpr ⟨waiting, read⟩)
    (fun j other eligible => oldest j other (DttEntry.eligible_iff.mp eligible).1 (DttEntry.eligible_iff.mp eligible).2) (List.mem_finRange d)

/-! ### The coverage of a read (R24, R107) -/

theorem State.fullyCovered_of {s : State} {page off : Nat} {bytes : List Byte}
    (covered : ∀ (k : Nat) (h : k < bytes.length), s.coveredByte page (off + k) = some bytes[k]) :
    s.fullyCovered page off bytes.length = true ∧ s.coveredBytes page off bytes.length = bytes := by
  constructor
  · refine List.all_eq_true.mpr fun k mem => ?_
    rw [covered k (List.mem_range.mp mem)]
    rfl
  · refine List.ext_getElem (by simp [State.coveredBytes]) fun k _ h => ?_
    simp only [State.coveredBytes, List.getElem_map, List.getElem_range, covered k h, Option.getD_some]

theorem State.not_fullyCovered_of {s : State} {page off len k : Nat} (h : k < len) (uncovered : s.coveredByte page (off + k) = none) :
    ¬ s.fullyCovered page off len = true := fun full => by
  have here := List.all_eq_true.mp full k (List.mem_range.mpr h)
  rw [uncovered] at here
  cases here

theorem DttEntry.addr_eq {d : DttEntry} {addr : Nat} (h : d.address = some addr) : d.addr = addr := by rw [DttEntry.addr, h, Option.getD_some]

theorem DttEntry.len_eq {d : DttEntry} {len : Nat} (h : d.length = some len) : d.len = len := by rw [DttEntry.len, h, Option.getD_some]

section
variable {s : State} {d : DttIndex} {addr len : Nat}

/-- The entry of a read that staging covers is READY with the staged bytes (R107). -/
theorem State.completeFromStaging_eq (address : s.dtt[d].address = some addr) (length : s.dtt[d].length = some len) {bytes : List Byte}
    (size : bytes.length = len) (covered : ∀ (k : Nat) (h : k < bytes.length), s.coveredByte (addr / 512) (addr % 512 + k) = some bytes[k]) :
    s.grantCovered d = true ∧ s.completeFromStaging d = s.setDtt d
      { s.dtt[d] with state := .ready, data := some bytes, result := some .data, discard := some s.params.discardTime } := by
  subst size
  obtain ⟨full, read⟩ := State.fullyCovered_of covered
  rw [State.grantCovered, State.completeFromStaging, DttEntry.addr_eq address, DttEntry.len_eq length, pageOf, offsetOf, full, read]
  exact ⟨rfl, rfl⟩

theorem State.not_grantCovered (address : s.dtt[d].address = some addr) (length : s.dtt[d].length = some len)
    (uncovered : ∃ k < len, s.coveredByte (addr / 512) (addr % 512 + k) = none) : ¬ s.grantCovered d = true := by
  obtain ⟨k, below, none⟩ := uncovered
  rw [State.grantCovered, DttEntry.addr_eq address, DttEntry.len_eq length]
  exact State.not_fullyCovered_of below none

end

/-! ### The grants (R60, R61, R62, R65) -/

/-- From IDLE the oldest read is granted in RUNNING and DRAINED where the engine makes no claim or the streak is below READ_STREAK, and in DRAIN where the
engine has no work. -/
theorem exec_grantsOldest {s : State} {d : DttIndex} (free : s.linkFree = true) (waits : s.ReadWaits) (oldest : s.oldestRead = some d)
    (turn : ((s.control.mode = .running ∨ s.control.mode = .drained) ∧
        (s.engine.step ≠ some .waiting ∨ s.engine.slot = none ∨ s.link.fetchStreak < s.params.readStreak)) ∨
      (s.control.mode = .drain ∧ s.engine = Engine.initial ∧ s.commitQueue = [])) :
    exec .arbiterDecision s = .next (s.grantFetch d) := by
  have grants : s.grantOldest = s.grantFetch d := by rw [State.grantOldest, oldest]
  show Host.Outcome.next (if s.linkFree then _ else _) = _
  rw [if_pos free, ← grants]
  rcases turn with ⟨mode, first⟩ | ⟨drain, idle, empty⟩
  · have decides : s.arbitrate = s.grantOldest := by
      cases claim : s.engineClaim with
      | none => simp only [State.arbitrate, claim]
      | some i =>
        have streak : s.link.fetchStreak < s.params.readStreak := by
          rw [State.engineClaim] at claim
          split at claim
          · rename_i waiting
            exact (first.resolve_left (not_not_intro waiting)).resolve_left (by rw [claim]; nofun)
          · cases claim
        simp only [State.arbitrate, claim, State.fetchPending_iff.mpr waits, streak, decide_true, Bool.and_self, if_true]
    rcases mode with mode | mode <;> simp only [mode, decides]
  · simp [drain, State.arbitrateDrain, State.engineClaim, State.engineHasWork, idle, empty, Engine.initial]

theorem exec_servesSuspended {s : State} {d : DttIndex} (suspended : s.link.state = .suspended) (quiet : s.link.inFlight = none)
    (running : s.control.mode = .running) (left : s.link.fetchesThisSuspension.getD 0 < s.params.readStreak)
    (oldest : s.oldestRead = some d) : exec .suspendedFetchStep s = .next (s.serveSuspended d) := by
  have serves : s.suspendedIdle = true ∧ s.suspensionOpen = true := by
    simp [State.suspendedIdle, State.suspensionOpen, Link.quiet, suspended, quiet, running, left]
  show Host.Outcome.next (if _ ∧ _ then _ else _) = _
  rw [if_pos serves, oldest]

/-- Settles O20: the oldest read is the one granted, and the coverage lookup decides what the grant does. -/
theorem oldestWaitingReadIsServed : Obligations.OldestWaitingReadIsServed := by
  unfold Obligations.OldestWaitingReadIsServed
  intro s d addr len waiting read address length first quiet covered uncovered ready fetching
  have oldest : s.oldestRead = some d := State.oldestRead_eq waiting read first
  have here := DttEntry.addr_eq address
  have run := DttEntry.len_eq length
  refine ⟨fun idle turn => ?_, fun suspended running left => ?_⟩
  · rw [exec_grantsOldest (State.linkFree_iff.mpr ⟨idle, quiet⟩) ⟨d, waiting, read⟩ oldest turn]
    refine ⟨fun bytes ⟨size, all⟩ => ?_, fun gap => ?_⟩
    · obtain ⟨full, completes⟩ := State.completeFromStaging_eq address length size all
      rw [State.grantFetch, if_pos full, completes]
    · rw [State.grantFetch, if_neg (State.not_grantCovered address length gap), here, run, Link.issueRead_awake (by rw [idle]; nofun)]
      rfl
  · rw [exec_servesSuspended suspended quiet running left oldest]
    refine ⟨fun bytes ⟨size, all⟩ => ?_, fun gap => ?_⟩
    · obtain ⟨full, completes⟩ := State.completeFromStaging_eq address length size all
      rw [State.serveSuspended, if_pos full, completes]
    · rw [State.serveSuspended, if_neg (State.not_grantCovered address length gap), here, run, Link.issueRead_suspended suspended]
      rfl

/-! ### The completion of a fetch (R57, R109) -/

theorem exec_completesFetch {s : State} {d : DttIndex} {addr : Nat} {bytes : List Byte} (inFlight : s.link.inFlight = some (.read addr bytes.length))
    (owner : s.link.owner = some (.fetch d)) : exec (.readCompletion bytes) s = .next (State.completeFetch { s with link := s.link.afterRead } d bytes) := by
  have run : exec (.readCompletion bytes) s = .next (match s.link.inFlight with
    | some (.read _ count) => if bytes.length = count then (s.setLink s.link.readEnded).deliver s.link.owner bytes else s
    | _ => s) := rfl
  rw [run, inFlight]
  simp only [if_true, owner, State.deliver]
  rfl

theorem State.completeFetch_eq {s : State} {d : DttIndex} {addr : Nat} (fetching : s.dtt[d].state = .fetching)
    (address : s.dtt[d].address = some addr) (bytes : List Byte) : s.completeFetch d bytes = s.setDtt d { s.dtt[d] with
      state := .ready, data := some (s.overlay (addr / 512) (addr % 512) bytes), result := some .data, discard := some s.params.discardTime } := by
  rw [State.completeFetch, if_pos fetching, DttEntry.addr_eq address]
  rfl

/-- Settles O21: the fetch is completed with the array bytes overlaid by the coverage lookup. -/
theorem fetchCompletionOverlaysStagedBytes : Obligations.FetchCompletionOverlaysStagedBytes := by
  unfold Obligations.FetchCompletionOverlaysStagedBytes
  rintro s d addr _ bytes inFlight owner rfl fetching address
  refine ⟨s.overlay (addr / 512) (addr % 512) bytes, by simp [State.overlay], fun k below => ?_, ?_⟩
  · rw [State.overlay, List.getElem?_mapIdx, List.getElem?_eq_getElem below]
    cases s.coveredByte (addr / 512) (addr % 512 + k) <;> rfl
  · rw [exec_completesFetch inFlight owner]
    exact congrArg _ (State.completeFetch_eq (s := { s with link := s.link.afterRead }) fetching address bytes)

end Sys2Proof.Machine
end

section
/-! PROOFS. Polls, SUSPEND and accepted transactions (O28), STATUS replies and the end of a suspension (O29), timeouts and RESET (O30). -/

namespace Sys2Proof.Machine

/-! ### Polls (R54, R64) -/

theorem Link.polls_iff {l : Link} : l.polls = true ↔ l.state = .opBusy ∨ l.state = .suspending ∨ l.state = .resetting := by
  simp only [Link.polls, Bool.or_eq_true, beq_iff_eq, or_assoc]

theorem Link.quiet_iff {l : Link} : l.quiet = true ↔ l.inFlight = none := beq_iff_eq

/-- A poll taken where R64 allows a suspension is SUSPEND. -/
theorem State.takePoll_suspend {s : State}
    (allowed : s.link.state = .opBusy ∧ s.ReadWaits ∧ s.link.suspensionCount.getD 0 < s.params.suspendMax ∧ s.control.mode = .running) :
    s.takePoll = { s with link := { s.link with
      owner := some .controller, inFlight := some .suspend, suspendWait := some 0, pollTimer := none, pollOwed := false } } :=
  if_pos (State.suspendDue_iff.mpr allowed)

/-- Any other poll is STATUS. -/
theorem State.takePoll_status {s : State}
    (refused : ¬ (s.link.state = .opBusy ∧ s.ReadWaits ∧ s.link.suspensionCount.getD 0 < s.params.suspendMax ∧ s.control.mode = .running)) :
    s.takePoll = { s with link := { s.link with
      owner := some .controller, inFlight := some .status, pollTimer := some 10, pollOwed := false } } :=
  if_neg (mt State.suspendDue_iff.mp refused)

theorem exec_pollDue {s : State} (polls : s.link.state = .opBusy ∨ s.link.state = .suspending ∨ s.link.state = .resetting)
    (due : s.link.pollTimer = some 0) (owed : s.link.resetOwed = false) :
    exec .pollTime s = .next (if s.link.quiet then s.takePoll else s.setLink { s.link with pollOwed := true }) :=
  congrArg _ (if_pos ⟨Link.polls_iff.mpr polls, due, owed⟩)

/-- Settles O28: a poll that is due is taken or owed, and each transaction's end is the model's own update of the link. -/
theorem pollsAndAcceptedTransactions : Obligations.PollsAndAcceptedTransactions := by
  constructor <;> intro s
  · intro allowed
    refine ⟨fun owed due => ⟨fun quiet suspend => ?_, fun quiet polls refused => ?_, fun flight polls => ?_⟩, fun undue => ?_⟩
    · rw [exec_pollDue (.inl suspend.1) due owed, if_pos (Link.quiet_iff.mpr quiet), State.takePoll_suspend suspend]
    · rw [exec_pollDue polls due owed, if_pos (Link.quiet_iff.mpr quiet), State.takePoll_status refused]
    · rw [exec_pollDue polls due owed, if_neg (mt Link.quiet_iff.mp flight)]
      rfl
    · exact congrArg _ (if_neg fun now => undue now.2.1)
  · refine ⟨fun flight => ?_, fun flight owed => ?_, fun flight owed => ?_, fun flight => congrArg _ (if_pos flight)⟩
    · show Host.Outcome.next (match s.link.inFlight with
        | some (.erase _) | some (.program _ _) => s.setLink s.link.operationAccepted
        | _ => s) = _
      rcases flight with ⟨page, flight⟩ | ⟨page, bytes, flight⟩ <;> rw [flight] <;> rfl
    · exact congrArg _ ((if_pos flight).trans (if_neg (by rw [owed]; nofun)))
    · exact congrArg _ ((if_pos flight).trans (if_pos owed))

/-! ### STATUS replies (R54, R65) -/

/-- A reply that ends nothing: the poll that fell meanwhile is taken. -/
theorem State.takeReply_polls {s : State} {cond : DeviceCondition}
    (polls : s.link.state = .opBusy ∨ s.link.state = .suspending ∨ s.link.state = .resetting)
    (reply : cond = .busy ∨ (cond = .suspended ∧ s.link.state ≠ .suspending)) (failFlag : Bool) :
    s.takeReply cond failFlag = s.takeOwedPoll := by
  rcases reply with rfl | ⟨rfl, running⟩
  · rcases polls with state | state | state <;> simp only [State.takeReply, state]
  · rcases polls with state | state | state
    · simp only [State.takeReply, state]
    · exact absurd state running
    · simp only [State.takeReply, state]

theorem State.takeOwedPoll_owed {s : State} (polls : s.link.state = .opBusy ∨ s.link.state = .suspending ∨ s.link.state = .resetting)
    (owed : s.link.pollOwed = true) : s.takeOwedPoll = s.takePoll :=
  if_pos (by rw [owed, Link.polls_iff.mpr polls]; rfl)

theorem State.takeOwedPoll_none {s : State} (owed : s.link.pollOwed = false) : s.takeOwedPoll = s := by
  have kept : s.setLink { s.link with pollOwed := false } = s := by rw [← owed]; rfl
  exact (if_neg (by rw [owed]; nofun)).trans kept

theorem State.suspensionOver_iff {s : State} : s.suspensionOver = true ↔
    s.control.mode ≠ .running ∨ s.params.readStreak ≤ s.link.fetchesThisSuspension.getD 0 ∨ ¬ s.ReadWaits := by
  rw [← State.fetchPending_iff]
  simp only [State.suspensionOver, State.suspensionOpen, Bool.or_eq_true, Bool.not_eq_true', Bool.and_eq_false_iff, beq_eq_false_iff_ne,
    decide_eq_false_iff_not, not_lt, or_assoc, Bool.not_eq_true]

/-- Settles O29: the reply is taken by the state of the link, and RESUME is issued once the suspension is over. -/
theorem suspensionAndStatusReplies : Obligations.SuspensionAndStatusReplies := by
  refine ⟨fun s failFlag => ⟨fun flight owed suspending => ?_, fun suspended quiet ends => ?_⟩, fun s cond failFlag flight owed polls reply => ?_,
    fun s cond failFlag flight owed => congrArg _ ((if_pos flight).trans (if_pos owed))⟩
  · rw [exec_statusReply flight owed]
    have suspends : (s.setLink s.link.ended).takeReply .suspended failFlag = (s.setLink s.link.ended).operationSuspended := by
      have same : (s.setLink s.link.ended).link.state = s.link.state := rfl
      simp only [State.takeReply, same, suspending]
    rw [suspends]
    rfl
  · have idle : s.suspendedIdle = true := by
      rw [State.suspendedIdle, suspended, Link.quiet_iff.mpr quiet]
      rfl
    exact congrArg _ (if_pos ⟨idle, State.suspensionOver_iff.mpr ends⟩)
  · rw [exec_statusReply flight owed, State.takeReply_polls (s := s.setLink s.link.ended) polls reply]
    intro allowed
    refine ⟨fun none => ?_, fun due suspend => ?_, fun due refused => ?_⟩
    · rw [State.takeOwedPoll_none (s := s.setLink s.link.ended) none]
      rfl
    · rw [State.takeOwedPoll_owed (s := s.setLink s.link.ended) polls due, State.takePoll_suspend (s := s.setLink s.link.ended) suspend]
      rfl
    · rw [State.takeOwedPoll_owed (s := s.setLink s.link.ended) polls due, State.takePoll_status (s := s.setLink s.link.ended) refused]
      rfl

/-! ### Timeouts and RESET (R68, R69, R70, R71) -/

/-- The link once both operation timers have stopped (R70). -/
def Link.timersStopped (l : Link) : Link :=
  { l with opTimer := none, opExceeded := false, suspendWait := none, pollTimer := none, pollOwed := false }

theorem State.timeOut_eq {s : State} {kind : OpKind} (h : s.link.opKind = some kind) (phase : TimeoutPhase) : s.timeOut phase = { s with
    events := s.events.append (.arrayTimeout kind phase) s.link.opPage s.engine.slot none
    link := if s.link.inFlight = none then
        { s.link.timersStopped with owner := some .controller, inFlight := some .reset, resetWait := some 0, resetOwed := false }
      else { s.link.timersStopped with resetOwed := true } } := by
  obtain rfl : s.link.opKind.getD .erase = kind := by rw [h, Option.getD_some]
  rw [State.timeOut]
  by_cases quiet : s.link.inFlight = none
  · rw [if_pos quiet]
    exact if_pos (c := s.link.timersStopped.quiet = true) (Link.quiet_iff.mpr quiet)
  · rw [if_neg quiet]
    exact if_neg (c := s.link.timersStopped.quiet = true) (mt Link.quiet_iff.mp quiet)

theorem exec_operationTimesOut {s : State} (exceeded : s.link.opExceeded = true) (runs : s.link.state = .opBusy ∨ s.link.state = .suspending) :
    exec .operationTimerExpiry s = .next (s.timeOut (if s.link.state = .suspending then .suspending else .running)) := by
  refine congrArg _ (if_pos ?_)
  simpa only [State.operationTimedOut, Link.operationRuns, exceeded, Bool.and_true, Bool.or_eq_true, beq_iff_eq] using runs

theorem State.deviceRecovered_startUp {s : State} (kind : s.link.opKind = none) (phase : s.sequencer.phase = .deviceReset) :
    s.deviceRecovered = (s.setLink s.link.operationOver).setSequencer { s.sequencer with phase := .readA } := by
  rw [State.deviceRecovered, if_neg (by rw [kind]; nofun), if_pos phase]

/-- Settles O30: every timeout is `State.timeOut`, and the kind of the operation tells a recovery from the RESET of a start-up. -/
theorem timeoutResetsTheDevice : Obligations.TimeoutResetsTheDevice := by
  refine ⟨fun s kind h => ?_, fun s failFlag => ?_⟩
  · intro limit stopped after
    refine ⟨?_, fun exceeded busy => ?_, fun exceeded suspending => ?_, fun within => ?_,
      fun n timer => ⟨fun late => ?_, fun early => ?_⟩⟩
    · show s.operationLimit = 1000 * _
      cases kind with
      | erase => rw [State.operationLimit, h]; exact Nat.mul_comm _ _
      | program => rw [State.operationLimit, h]; exact Nat.mul_comm _ _
    · rw [exec_operationTimesOut exceeded (.inl busy), if_neg (by rw [busy]; nofun), State.timeOut_eq h]
      rfl
    · rw [exec_operationTimesOut exceeded (.inr suspending), if_pos suspending, State.timeOut_eq h]
      rfl
    · exact congrArg _ (if_neg (by rw [State.operationTimedOut, within, Bool.and_false]; nofun))
    · have expires : exec .suspendWaitTimerExpiry s = .next (s.timeOut .suspending) :=
        congrArg _ (if_pos (by rw [timer]; exact decide_eq_true late))
      rw [expires, State.timeOut_eq h]
      rfl
    · exact congrArg _ (if_neg (by rw [timer]; exact mt of_decide_eq_true (Nat.not_le.mpr early)))
  · intro resetting
    refine ⟨fun flight op => ?_, fun flight op => ?_, fun flight owed state op phase => ?_⟩
    · exact congrArg _ ((if_pos flight).trans (if_pos op))
    · exact congrArg _ ((if_pos flight).trans (if_neg (by rw [op]; nofun)))
    · have recovers : (s.setLink s.link.ended).takeReply .ready failFlag = (s.setLink s.link.ended).deviceRecovered := by
        have same : (s.setLink s.link.ended).link.state = s.link.state := rfl
        simp only [State.takeReply, same, state]
      rw [exec_statusReply flight owed, recovers, State.deviceRecovered_startUp (s := s.setLink s.link.ended) op phase]
      rfl

end Sys2Proof.Machine
end

section
/-! PROOFS. The first phases of a start-up (O37). -/

namespace Sys2Proof.Machine

/-- The codes 0 to 4 select a size, each twice the one before (R173). -/
theorem deviceSizeOf_valid {asize : BitVec 3} (h : asize.toNat ≤ 4) : deviceSizeOf asize = some (2048 * 2 ^ asize.toNat) := by
  unfold deviceSizeOf
  generalize asize.toNat = n at *
  interval_cases n <;> rfl

theorem deviceSizeOf_invalid {asize : BitVec 3} (h : 5 ≤ asize.toNat) : deviceSizeOf asize = none := by
  have code : asize.toNat < 8 := asize.isLt
  unfold deviceSizeOf
  generalize asize.toNat = n at *
  interval_cases n <;> rfl

theorem State.inPhase_of {s : State} {p : Phase} (start : s.control.mode = .start) (phase : s.sequencer.phase = p) : s.inPhase p = true :=
  State.inPhase_iff.mpr ⟨start, phase⟩

/-- Settles O37: each phase issues its command, and an invalid size code enters HALTED. -/
theorem startUpBegins : Obligations.StartUpBegins := by
  refine ⟨fun s asize start phase => ?_, fun s pages start idle quiet size => ?_⟩
  · have takes : exec (.size asize) s = .next (s.takeSize asize) := congrArg _ (if_pos (State.inPhase_of start phase))
    rw [takes]
    refine ⟨fun small => ?_, fun large => ?_⟩
    · rw [State.takeSize, deviceSizeOf_valid small]
      rfl
    · have halts : s.takeSize asize = s.enterHalted (.asizeInvalid asize) := by
        rw [State.takeSize, deviceSizeOf_invalid large]
      rw [halts]
      refine ⟨_, rfl, by rw [State.enterHalted_control], ?_, ?_⟩
      · simp only [State.enterHalted, State.haltNotice_frame, State.haltMode_sequencer]
      · simp only [State.enterHalted, State.haltNotice_frame, State.haltMode_events]
  · have free : s.linkFree = true := State.linkFree_iff.mpr ⟨idle, quiet⟩
    have awake : s.link.state ≠ .suspended := by rw [idle]; nofun
    have reads (c : Copy) : s.issueCopyRead c = { s with link := { s.link with
        state := .reading, owner := some .startup, inFlight := some (.read (copyPage pages c * 512) 82) } } := by
      rw [State.issueCopyRead, size, Link.issueRead_awake awake]
      rfl
    refine ⟨fun phase => ?_, fun phase => ?_, fun phase => ?_⟩
    · exact congrArg _ (if_pos ⟨State.inPhase_of start phase, free⟩)
    · exact (congrArg _ (if_pos ⟨State.inPhase_of start phase, free⟩)).trans (congrArg _ (reads .a))
    · exact (congrArg _ (if_pos ⟨State.inPhase_of start phase, free⟩)).trans (congrArg _ (reads .b))

end Sys2Proof.Machine
end

section
/-! PROOFS. Requests that a check turns away (O9, O13), READs that must be fetched (O12), and FENCEs that are not recorded (O14). -/

namespace Sys2Proof.Machine

/-! ### The checks, in their order (R75, R79) -/

theorem formatOk_eq_false {addr len : Nat} (bad : ¬ (1 ≤ len ∧ addr % 64 + len ≤ 64)) : formatOk addr len = false :=
  Bool.eq_false_iff.mpr fun ok => bad (formatOk_iff.mp ok)

theorem State.rangeOk_eq_false {s : State} {addr : Nat} (bad : ¬ addr < s.params.windowPages * 512) : s.rangeOk addr = false :=
  Bool.eq_false_iff.mpr fun ok => bad (State.rangeOk_iff.mp ok)

section
variable {s : State} {req : Requester} {addr len : Nat} {data : List Byte}

theorem State.takeWrite_badFormat (bad : ¬ (1 ≤ len ∧ addr % 64 + len ≤ 64)) :
    s.takeWrite req addr len data = s.refuseWrite .format none req addr := if_pos (formatOk_eq_false bad)

theorem State.takeWrite_badRange (format : 1 ≤ len ∧ addr % 64 + len ≤ 64) (bad : ¬ addr < s.params.windowPages * 512) :
    s.takeWrite req addr len data = s.refuseWrite .range none req addr := by
  rw [State.takeWrite, formatOk_iff.mpr format, State.rangeOk_eq_false bad]
  rfl

theorem State.takeWrite_atGate (format : 1 ≤ len ∧ addr % 64 + len ≤ 64) (range : addr < s.params.windowPages * 512) :
    s.takeWrite req addr len data = s.gateWrite req addr data := by
  rw [State.takeWrite, formatOk_iff.mpr format, State.rangeOk_iff.mpr range]
  rfl

theorem State.protectWrite_refused {m : AccessMode} (mode : s.effectiveMode (pageOf addr) = m) (other : m ≠ .readWrite) :
    s.protectWrite req addr data = s.refuseWrite .protect (some m) req addr := by
  rw [State.protectWrite, mode]
  cases m with
  | readWrite => exact absurd rfl other
  | readOnly => rfl
  | noAccess => rfl

theorem State.takeRead_badFormat (bad : ¬ (1 ≤ len ∧ addr % 64 + len ≤ 64)) :
    s.takeRead req addr len = s.refuseRead .format none req addr := if_pos (formatOk_eq_false bad)

theorem State.takeRead_badRange (format : 1 ≤ len ∧ addr % 64 + len ≤ 64) (bad : ¬ addr < s.params.windowPages * 512) :
    s.takeRead req addr len = (s.refuseReissue req addr len).refuseRead .range none req addr := by
  rw [State.takeRead, formatOk_iff.mpr format, State.rangeOk_eq_false bad]
  rfl

theorem State.takeRead_atGate (format : 1 ≤ len ∧ addr % 64 + len ≤ 64) (range : addr < s.params.windowPages * 512) :
    s.takeRead req addr len = s.gateRead req addr len := by
  rw [State.takeRead, formatOk_iff.mpr format, State.rangeOk_iff.mpr range]
  rfl

theorem State.protectRead_noAccess (mode : s.effectiveMode (pageOf addr) = .noAccess) :
    s.protectRead req addr len = (s.refuseReissue req addr len).refuseRead .protect (some .noAccess) req addr := by
  rw [State.protectRead, mode]

theorem State.protectRead_allowed (mode : s.effectiveMode (pageOf addr) ≠ .noAccess) : s.protectRead req addr len = s.readPath req addr len := by
  unfold State.protectRead
  split
  · exact absurd ‹_› mode
  · rfl

end

theorem exec_writeRequest_taken {s : State} (reset : s.resetAsserted = false) (req : Requester) (addr : BitVec 24) (len : BitVec 7)
    (data : List Byte) : exec (.writeRequest req addr len data) s = .next (s.takeWrite req addr.toNat len.toNat data) :=
  congrArg Host.Outcome.next (if_neg (Bool.eq_false_iff.mp reset))

theorem exec_readRequest_taken {s : State} (reset : s.resetAsserted = false) (req : Requester) (addr : BitVec 24) (len : BitVec 7) :
    exec (.readRequest req addr len) s = .next (s.takeRead req addr.toNat len.toNat) :=
  congrArg Host.Outcome.next (if_neg (Bool.eq_false_iff.mp reset))

theorem exec_fenceRequest_taken {s : State} (reset : s.resetAsserted = false) (req : Requester) :
    exec (.fenceRequest req) s = .next (s.takeFence req) :=
  congrArg Host.Outcome.next (if_neg (Bool.eq_false_iff.mp reset))

/-! ### WRITE requests -/

/-- Settles O9: each clause is one check that turns the WRITE away, after those before it have passed. -/
theorem writeRefusedByTheChecks : Obligations.WriteRefusedByTheChecks := by
  unfold Obligations.WriteRefusedByTheChecks
  intro s req addr len data refusal formatGood rangeGood
  refine ⟨fun held => congrArg _ (if_pos held), fun reset bad => ?_, fun reset format bad => ?_,
    fun reset format range => ⟨fun halted => ?_, fun waits => ?_, fun m running mode other => ?_⟩⟩
  · rw [exec_writeRequest_taken reset, State.takeWrite_badFormat bad]
    rfl
  · rw [exec_writeRequest_taken reset, State.takeWrite_badRange format bad]
    rfl
  all_goals rw [exec_writeRequest_taken reset, State.takeWrite_atGate format range, State.gateWrite]
  · rw [halted]
    rfl
  · rcases waits with mode | mode | mode <;> rw [mode] <;> rfl
  · rw [running]
    exact congrArg _ (State.protectWrite_refused mode other)

/-! ### READ requests -/

theorem exec_readRequest_admitted {s : State} {addr : BitVec 24} {len : BitVec 7} (h : s.AdmitsRead addr len) (req : Requester) :
    exec (.readRequest req addr len) s = .next (s.readPath req addr.toNat len.toNat) := by
  obtain ⟨reset, notStart, positive, block, range, mode⟩ := h
  rw [exec_readRequest_taken reset, State.takeRead_atGate ⟨positive, block⟩ range, State.gateRead, if_neg notStart,
    State.protectRead_allowed mode]

/-- An admitted READ that no delayed entry matches and that staging covers only in part is handed off by the mode (R90 step 3). -/
theorem exec_readRequest_uncovered {s : State} {req : Requester} {addr : BitVec 24} {len : BitVec 7} (admits : s.AdmitsRead addr len)
    (unmatched : s.matchDtt (.read req addr.toNat len.toNat) = none)
    (uncovered : ∃ k < len.toNat, s.coveredByte (addr.toNat / 512) (addr.toNat % 512 + k) = none) :
    exec (.readRequest req addr len) s = .next (s.handOffRead req addr.toNat len.toNat) := by
  obtain ⟨k, inside, missing⟩ := uncovered
  have partly : ¬ s.fullyCovered (pageOf addr.toNat) (offsetOf addr.toNat) len.toNat = true := State.not_fullyCovered_of inside missing
  rw [exec_readRequest_admitted admits, State.readPath, unmatched]
  exact congrArg _ (if_neg partly)

/-- A requester at its quota, or a full table, leaves a recording claim without an entry (R97, R104). -/
theorem State.recordSlot_eq_none {s : State} {req : Requester} (noPlace : 2 ≤ s.heldBy req ∨ ∀ d : DttIndex, s.dtt[d].state ≠ .free) :
    s.recordSlot req = none := by
  unfold State.recordSlot
  split
  · rename_i room
    exact find?_finRange_eq_none.mpr fun d => beq_eq_false_iff_ne.mpr (noPlace.resolve_left (by omega) d)
  · rfl

/-- Settles O12: RUNNING hands the READ to the table, which has an entry for it or counts it. -/
theorem uncoveredReadIsRecorded : Obligations.UncoveredReadIsRecorded := by
  unfold Obligations.UncoveredReadIsRecorded
  intro s req addr len admits running unmatched uncovered
  rw [exec_readRequest_uncovered admits unmatched uncovered, State.handOffRead, running]
  refine ⟨fun d room free lowest => ?_, fun noPlace => ?_⟩
  · simp only [State.recordRead, State.recordSlot_eq_some room free lowest]
    rfl
  · simp only [State.recordRead, State.recordSlot_eq_none noPlace]
    rfl

/-- Settles O13: a RANGE or PROTECT refusal is of the state that `refuseReissue` leaves; past the checks the mode decides. -/
theorem readRefused : Obligations.ReadRefused := by
  unfold Obligations.ReadRefused
  intro s req addr len refusal formatGood rangeGood released
  have refused (k : FaultKind) (found : Option AccessMode) :
      (s.refuseReissue req addr.toNat len.toNat).refuseRead k found req addr.toNat = refusal released k found := by
    have kept := s.refuseReissue_frame req addr.toNat len.toNat
    simp only [State.refuseRead, State.appendEvent, kept]
    rfl
  refine ⟨fun held => congrArg _ (if_pos held), fun reset bad => ?_, fun reset format bad => ?_,
    fun reset format range start => ?_, fun reset format range notStart mode => ?_, fun admits unmatched uncovered => ?_⟩
  · rw [exec_readRequest_taken reset, State.takeRead_badFormat bad]
    rfl
  · rw [exec_readRequest_taken reset, State.takeRead_badRange format bad, refused]
  · rw [exec_readRequest_taken reset, State.takeRead_atGate format range, State.gateRead, if_pos start]
    rfl
  · rw [exec_readRequest_taken reset, State.takeRead_atGate format range, State.gateRead, if_neg notStart,
      State.protectRead_noAccess mode, refused]
  · rw [exec_readRequest_uncovered admits unmatched uncovered, State.handOffRead]
    refine ⟨fun waits => ?_, fun halted => ?_⟩
    · rcases waits with mode | mode <;> rw [mode] <;> rfl
    · rw [halted]
      rfl

/-! ### FENCE requests -/

theorem exec_fenceRequest_matched {s : State} {req : Requester} {i : DttIndex} (admits : s.AdmitsFence)
    (matched : s.matchDtt (.fence req) = some i) : exec (.fenceRequest req) s = .next (s.answerMatch i) := by
  obtain ⟨reset, mode⟩ := admits
  have path : s.fencePath req = s.answerMatch i := by rw [State.fencePath, matched]
  rw [exec_fenceRequest_taken reset, State.takeFence]
  rcases mode with mode | mode | mode <;> rw [mode, ← path]

theorem DttEntry.moveUp_none (d : DttEntry) : d.moveUp none = d := rfl

/-- No arrival number closes up behind an entry that has none, as a FENCE's (R105). -/
theorem State.freeDtt_of_no_arrival {s : State} {i : DttIndex} (h : s.dtt[i].arrival = none) :
    s.freeDtt i = s.setDtt i DttEntry.initial := by
  have same : s.dtt.map (DttEntry.moveUp none) = s.dtt := (Vector.map_congr_left fun d _ => d.moveUp_none).trans (Vector.map_id _)
  rw [State.freeDtt, h, same]
  rfl

theorem State.failedFor_eq_some {s : State} {req : Requester} {i : Slot} (failed : s.entries[i].state = .failed)
    (written : s.entries[i].writers.getLsbD req.val = true)
    (lowest : ∀ j : Slot, j < i → s.entries[j].state = .failed → s.entries[j].writers.getLsbD req.val = false) :
    s.failedFor req = some i := by
  refine State.firstSlot_eq_some.mpr ⟨Bool.and_eq_true_iff.mpr ⟨beq_iff_eq.mpr failed, written⟩, fun j before => ?_⟩
  refine Bool.eq_false_iff.mpr fun h => ?_
  obtain ⟨failed, written⟩ := Bool.and_eq_true_iff.mp h
  rw [Entry.writtenBy, lowest j before (beq_iff_eq.mp failed)] at written
  cases written

/-- With no bytes of the requester staged its fence is DONE (R121 case 2). -/
theorem State.decideFence_unwritten {s : State} {req : Requester}
    (unwritten : ∀ i : Slot, s.entries[i].state ≠ .free → s.entries[i].writers.getLsbD req.val = false) :
    s.decideFence req = s.respond .done := by
  have noFailed (i : Slot) (failed : s.entries[i].state = .failed) := unwritten i (by rw [failed]; decide)
  have noWait : s.fenceSlots req = [] := List.eq_nil_iff_forall_not_mem.mpr fun i mem => by
    obtain ⟨used, written⟩ := (State.mem_fenceSlots noFailed).mp mem
    exact Bool.eq_false_iff.mp (unwritten i used) written
  simp only [State.decideFence, State.failedFor_eq_none noFailed, noWait, if_true]

/-- With bytes of the requester staged, none of them FAILED, its fence must wait (R121 cases 3 and 4). -/
theorem State.decideFence_waits {s : State} {req : Requester}
    (noFailed : ∀ i : Slot, s.entries[i].state = .failed → s.entries[i].writers.getLsbD req.val = false)
    (staged : ∃ i : Slot, s.entries[i].state ≠ .free ∧ s.entries[i].writers.getLsbD req.val = true) :
    s.decideFence req = s.recordFence req := by
  obtain ⟨i, here⟩ := staged
  have waits : s.fenceSlots req ≠ [] := List.ne_nil_of_mem ((State.mem_fenceSlots noFailed).mpr here)
  simp only [State.decideFence, State.failedFor_eq_none noFailed, waits, if_false]

/-- Settles O14: the gate answers, or the matching entry, or the fence logic's decision. -/
theorem fenceIsAnsweredOrCollected : Obligations.FenceIsAnsweredOrCollected := by
  unfold Obligations.FenceIsAnsweredOrCollected
  refine ⟨fun s req => ⟨fun waits => ?_, fun reset halted => ?_, fun admits unmatched =>
      ⟨fun i failed written lowest => ?_, fun unwritten => ?_⟩⟩,
    fun s req admits => ⟨fun i matched notReady => ?_, fun i matched ready arrival => ?_,
      fun unmatched noFailed staged noPlace => ?_⟩⟩
  · by_cases held : s.resetAsserted = true
    · exact congrArg _ (if_pos held)
    · rw [exec_fenceRequest_taken (Bool.eq_false_iff.mpr held), State.takeFence, waits.resolve_left held]
      rfl
  · rw [exec_fenceRequest_taken reset, State.takeFence, halted]
    rfl
  · rw [exec_fenceRequest_unmatched admits unmatched, State.decideFence, State.failedFor_eq_some failed written lowest]
    rfl
  · rw [exec_fenceRequest_unmatched admits unmatched, State.decideFence_unwritten unwritten]
    rfl
  · rw [exec_fenceRequest_matched admits matched, State.answerMatch, if_neg notReady]
    rfl
  · rw [exec_fenceRequest_matched admits matched, State.answerMatch, if_pos ready, State.freeDtt_of_no_arrival arrival, DttEntry.answer]
    exact ⟨fun done => by rw [done]; rfl, fun k fault => by rw [fault]; rfl⟩
  · rw [exec_fenceRequest_unmatched admits unmatched, State.decideFence_waits noFailed staged, State.recordFence,
      State.recordSlot_eq_none noPlace]
    rfl

end Sys2Proof.Machine
end

section
/-! SUPPORT. The delayed transaction table: what carries an entry on, what frees one, and what records one. -/

namespace Sys2Proof.Machine

/-! ### One entry -/

/-- The entry keeps its use and its key (R96, R97). -/
structure DttEntry.SameUse (e f : DttEntry) : Prop where
  free : f.state = .free ↔ e.state = .free
  kind : f.kind = e.kind
  requester : f.requester = e.requester
  address : f.address = e.address
  length : f.length = e.length

/-- The entry keeps its use, its key and its arrival number, and stays as it is while every field is none. -/
structure DttEntry.Carried (e f : DttEntry) : Prop extends e.SameUse f where
  arrival : f.arrival = e.arrival
  initial : e = DttEntry.initial → f = DttEntry.initial

theorem DttEntry.Carried.refl (e : DttEntry) : e.Carried e := ⟨⟨.rfl, rfl, rfl, rfl, rfl⟩, rfl, id⟩

theorem DttEntry.Carried.trans {e f g : DttEntry} (h : e.Carried f) (h' : f.Carried g) : e.Carried g :=
  ⟨⟨h'.free.trans h.free, h'.kind.trans h.kind, h'.requester.trans h.requester, h'.address.trans h.address, h'.length.trans h.length⟩,
    h'.arrival.trans h.arrival, h'.initial ∘ h.initial⟩

/-- An entry in use moves on to another state, with other data, result, wait set and discard timer. -/
theorem DttEntry.Carried.of_used {e : DttEntry} (used : e.state ≠ .free) {state : DttState} (after : state ≠ .free) (data : Option (List Byte))
    (result : Option DttResult) (waitSet : Option (List WaitPair)) (discard : Option Nat) :
    e.Carried { e with state := state, data := data, result := result, waitSet := waitSet, discard := discard } :=
  ⟨⟨iff_of_false after used, rfl, rfl, rfl, rfl⟩, rfl, fun initial => absurd (congrArg DttEntry.state initial) used⟩

theorem DttEntry.SameUse.hasKey {e f : DttEntry} (h : e.SameUse f) (k : DttKey) : f.hasKey k = e.hasKey k := by
  cases k <;> simp only [DttEntry.hasKey, h.kind, h.requester, h.address, h.length]

theorem DttEntry.SameUse.used {e f : DttEntry} (h : e.SameUse f) : (f.state != .free) = (e.state != .free) := by
  rw [Bool.eq_iff_iff, bne_iff_ne, bne_iff_ne, ne_eq, h.free]

/-- The requester that a key names. -/
def DttKey.requester : DttKey → Requester
  | .read req _ _ => req
  | .fence req => req

theorem DttEntry.hasKey_read {d : DttEntry} {req : Requester} {addr len : Nat} : d.hasKey (.read req addr len) = true ↔
    d.kind = some .read ∧ d.requester = some req ∧ d.address = some addr ∧ d.length = some len := by
  simp only [DttEntry.hasKey, Bool.and_eq_true, beq_iff_eq, and_assoc]

theorem DttEntry.hasKey_fence {d : DttEntry} {req : Requester} : d.hasKey (.fence req) = true ↔
    d.kind = some .fence ∧ d.requester = some req := by
  simp only [DttEntry.hasKey, Bool.and_eq_true, beq_iff_eq]

theorem DttEntry.requester_of_hasKey {d : DttEntry} {k : DttKey} (h : d.hasKey k = true) : d.requester = some k.requester := by
  cases k with
  | read req addr len => exact (DttEntry.hasKey_read.mp h).2.1
  | fence req => exact (DttEntry.hasKey_fence.mp h).2

/-- An entry has one key at most. -/
theorem DttEntry.hasKey_unique {d : DttEntry} {k k' : DttKey} (h : d.hasKey k = true) (h' : d.hasKey k' = true) : k = k' := by
  cases k <;> cases k' <;> simp only [DttEntry.hasKey_read, DttEntry.hasKey_fence] at h h' <;> simp_all

/-! ### The operations on one entry -/

theorem DttEntry.tick_carried (d : DttEntry) : d.Carried d.tick := ⟨⟨.rfl, rfl, rfl, rfl, rfl⟩, rfl, by rintro rfl; rfl⟩

theorem DttEntry.patch_carried (d : DttEntry) (page off : Nat) (data : List Byte) : d.Carried (d.patch page off data) := by
  unfold DttEntry.patch
  split
  · rename_i ready
    have used : d.state ≠ .free := by rw [ready.1]; nofun
    exact .of_used used used _ _ _ _
  · exact .refl d

theorem DttEntry.haltNotice_carried (start : Option Nat) (d : DttEntry) : d.Carried (d.haltNotice start) := by
  unfold DttEntry.haltNotice
  split
  · rename_i waiting
    exact .of_used (by rw [waiting]; nofun) (state := .ready) nofun _ _ _ _
  · exact .refl d

theorem DttEntry.used_of_waitsOn {d : DttEntry} {p : WaitPair} (waits : d.waitsOn p = true) : d.state ≠ .free := by
  rw [(DttEntry.waitsOn_iff.mp waits).1]
  nofun

theorem DttEntry.dropPair_carried (start : Option Nat) (p : WaitPair) (d : DttEntry) : d.Carried (d.dropPair start p) := by
  unfold DttEntry.dropPair
  split
  · have used := DttEntry.used_of_waitsOn ‹_›
    split
    · exact .of_used used (state := .ready) nofun _ _ _ _
    · exact .of_used used used _ _ _ _
  · exact .refl d

theorem DttEntry.failedFence_carried (start : Option Nat) {p : WaitPair} {d : DttEntry} (waits : d.waitsOn p = true) :
    d.Carried (d.failedFence start) := .of_used (DttEntry.used_of_waitsOn waits) (state := .ready) nofun _ _ _ _

theorem DttEntry.down_carried (start : Option Nat) (pair : Option WaitPair) (d : DttEntry) (step : DownStep) :
    d.Carried (d.down start pair step) := by
  cases step with
  | report =>
    simp only [DttEntry.down]
    split
    · rename_i waits
      obtain ⟨p, _, waits⟩ := Option.any_eq_true .. |>.mp waits
      exact d.failedFence_carried start waits
    · exact .refl d
  | notice => exact d.haltNotice_carried start
  | engine | halt | queuedConfig => exact .refl d

theorem DttEntry.foldl_down_carried (start : Option Nat) (pair : Option WaitPair) (d : DttEntry) (l : List DownStep) :
    d.Carried (l.foldl (DttEntry.down start pair) d) :=
  List.foldlRecOn l _ (.refl d) fun e carried step _ => carried.trans (e.down_carried start pair step)

/-! ### Arrival numbers that close up (R105) -/

/-- An arrival number after the READ with number `gone` has left. -/
def closeUp : Option Nat → Option Nat → Option Nat
  | some n, some m => if n < m then some (m - 1) else some m
  | _, a => a

theorem closeUp_some (n m : Nat) : closeUp (some n) (some m) = some (if n < m then m - 1 else m) := (apply_ite some _ _ _).symm

/-- Numbers other than the one that has left stay apart. -/
theorem closeUp_injective {gone : Option Nat} {m k : Nat} (hm : gone ≠ some m) (hk : gone ≠ some k)
    (same : closeUp gone (some m) = closeUp gone (some k)) : m = k := by
  cases gone with
  | none => exact Option.some.inj same
  | some n =>
    have nm : n ≠ m := fun h => hm (congrArg some h)
    have nk : n ≠ k := fun h => hk (congrArg some h)
    rw [closeUp_some, closeUp_some, Option.some_inj] at same
    split at same <;> split at same <;> omega

theorem DttEntry.moveUp_eq (gone : Option Nat) (d : DttEntry) : d.moveUp gone = { d with arrival := closeUp gone d.arrival } := by
  obtain ⟨state, kind, requester, address, length, data, result, waitSet, arrival, discard⟩ := d
  cases gone with
  | none => rfl
  | some n =>
    cases arrival with
    | none => rfl
    | some m => by_cases later : n < m <;> simp [DttEntry.moveUp, closeUp, later]

theorem DttEntry.moveUp_sameUse (gone : Option Nat) (d : DttEntry) : d.SameUse (d.moveUp gone) := by
  rw [DttEntry.moveUp_eq]
  exact ⟨.rfl, rfl, rfl, rfl, rfl⟩

theorem State.freeDtt_get (s : State) (i j : DttIndex) :
    (s.freeDtt i).dtt[j] = if j = i then DttEntry.initial else s.dtt[j].moveUp s.dtt[i].arrival := by
  refine (getFin_set (s.dtt.map (DttEntry.moveUp s.dtt[i].arrival)) i j DttEntry.initial).trans ?_
  rw [Fin.getElem_fin, Vector.getElem_map]
  rfl

end Sys2Proof.Machine
end

section
/-! PROOFS. A reissued READ collects its result (O11), and the discard timer frees a READY entry (O32). -/

namespace Sys2Proof.Machine

/-- Settles O11: past the checks the matching entry answers, and its place in the arrival order closes up. -/
theorem reissuedReadCollectsItsResult : Obligations.ReissuedReadCollectsItsResult := by
  unfold Obligations.ReissuedReadCollectsItsResult
  intro s req addr len i admits matched
  have path : s.readPath req addr.toNat len.toNat = s.answerMatch i := by rw [State.readPath, matched]
  rw [exec_readRequest_admitted admits, path, State.answerMatch]
  refine ⟨fun notReady => by rw [if_neg notReady]; rfl, fun n ready arrival => ?_⟩
  have others (j : DttIndex) (other : j ≠ i) : (s.freeDtt i).dtt[j] = { s.dtt[j] with arrival := closeUp (some n) s.dtt[j].arrival } := by
    rw [s.freeDtt_get, if_neg other, DttEntry.moveUp_eq, arrival]
  rw [if_pos ready]
  refine ⟨_, rfl, rfl, (s.freeDtt_get i i).trans (if_pos rfl), fun bytes result data => ?_, fun k result => ?_,
    fun j m other number later => ?_, fun j other first => ?_⟩
  · exact congrArg some (by rw [DttEntry.answer, result, data]; rfl)
  · exact congrArg some (by rw [DttEntry.answer, result])
  · refine (others j other).trans ?_
    rw [number, closeUp_some, if_pos later]
  · refine (others j other).trans ?_
    cases number : s.dtt[j].arrival with
    | none => rw [closeUp, ← number]; nofun
    | some m => rw [closeUp_some, if_neg (Nat.not_lt.mpr (first m number)), ← number]

theorem DttEntry.discardPage_read {d : DttEntry} {addr : Nat} (kind : d.kind = some .read) (address : d.address = some addr) :
    d.discardPage = some (addr / 512) := by
  rw [DttEntry.discardPage, if_pos kind, DttEntry.addr_eq address, pageOf]

theorem DttEntry.discardPage_fence {d : DttEntry} (kind : d.kind = some .fence) : d.discardPage = none :=
  if_neg (by rw [kind]; nofun)

/-- Settles O32: an expiry acts when the timer of a READY entry stands at 0, and frees the entry with its record. -/
theorem discardTimerFreesTheEntry : Obligations.DiscardTimerFreesTheEntry := by
  unfold Obligations.DiscardTimerFreesTheEntry
  constructor
  · intro s d kind result addr ready timer hkind hresult address
    have run : exec (.discardTimerExpiry d) s =
        .next ((s.freeDtt d).appendEvent (.readDiscarded kind result) s.dtt[d].discardPage none s.dtt[d].requester) := by
      refine congrArg Host.Outcome.next ((if_pos ⟨ready, timer⟩).trans ?_)
      rw [State.discardResult, hkind, hresult]
    refine ⟨_, run, rfl, (s.freeDtt_get d d).trans (if_pos rfl), ?_, fun j other => ?_⟩
    · cases kind with
      | read => rw [DttEntry.discardPage_read hkind (address rfl)]; rfl
      | fence => rw [DttEntry.discardPage_fence hkind]; rfl
    · refine (s.freeDtt_get d j).trans ?_
      rw [if_neg other, DttEntry.moveUp_eq]
      cases s.dtt[d].arrival <;> cases s.dtt[j].arrival <;> rfl
  · exact fun s d stopped => congrArg _ (if_neg fun due => stopped due.2)

end Sys2Proof.Machine
end

section
/-! SUPPORT. What every command does to the delayed transaction table. -/

namespace Sys2Proof.Machine

/-! ### Commands that carry every entry on -/

/-- Every delayed entry is carried on. -/
def State.DttCarried (s t : State) : Prop := ∀ d : DttIndex, s.dtt[d].Carried t.dtt[d]

theorem State.DttCarried.of_same {s t : State} (dtt : t.dtt = s.dtt) : s.DttCarried t := fun d => by rw [dtt]; exact .refl _

theorem State.DttCarried.trans {s t u : State} (h : s.DttCarried t) (h' : t.DttCarried u) : s.DttCarried u := fun d => (h d).trans (h' d)

theorem State.setDtt_carried {s : State} {i : DttIndex} {e : DttEntry} (h : s.dtt[i].Carried e) : s.DttCarried (s.setDtt i e) := fun d => by
  rw [s.setDtt_get]
  split
  · subst d; exact h
  · exact .refl _

theorem State.tick_carried (s : State) : s.DttCarried s.tick := fun d => by
  rw [s.tick_dtt_get]
  exact s.dtt[d].tick_carried

/-! ### Reports, the notice of HALTED, and the link DOWN (R116, R125, R126) -/

theorem State.reportCommitted_carried (s : State) (p : WaitPair) : s.DttCarried (s.reportCommitted p) := fun d => by
  rw [s.reportCommitted_dtt]
  exact s.dtt[d].dropPair_carried _ p

theorem State.reportFailed_carried (s : State) (p : WaitPair) (page : Option Nat) : s.DttCarried (s.reportFailed p page) := fun d => by
  rw [s.reportFailed_dtt]
  split
  · exact s.dtt[d].failedFence_carried _ ‹_›
  · exact .refl _

theorem State.enterHalted_carried (s : State) (cause : HaltCause) : s.DttCarried (s.enterHalted cause) :=
  State.DttCarried.trans (t := s.haltMode cause) (.of_same (by simp)) fun d => by
    rw [State.enterHalted, State.haltNotice_dtt]
    exact DttEntry.haltNotice_carried _ _

theorem State.linkDown_carried (s : State) : s.DttCarried s.linkDown := by
  obtain ⟨i, l, n, -, down⟩ := s.linkDown_falls
  rw [down]
  exact fun d => (State.foldl_downStep_dtt l (s.setLink s.link.lost) i d).symm ▸ DttEntry.foldl_down_carried _ _ _ l

/-! ### The engine's results (R32 to R41) -/

theorem State.commitSucceeds_carried (s : State) (i : Slot) : s.DttCarried (s.commitSucceeds i) := by
  simp only [State.commitSucceeds]
  split
  · exact .of_same (by simp)
  · exact (State.reportCommitted_carried (s.freeEntry i).engineIdle (s.pairOf i)).trans (.of_same (by simp))

theorem State.commitFails_carried (s : State) (i : Slot) (cause : CommitCause) : s.DttCarried (s.commitFails i cause) := by
  simp only [State.commitFails]
  split
  · exact .of_same (by simp)
  · exact (State.DttCarried.of_same (by simp)).trans (State.reportFailed_carried _ _ _)

theorem State.attemptFails_carried (s : State) (cause : CommitCause) : s.DttCarried (s.attemptFails cause) := by
  unfold State.attemptFails
  split
  · exact .of_same rfl
  · rename_i i _
    split
    · exact .of_same (by simp)
    · exact (s.countAttempt i).commitFails_carried i cause

theorem State.operationResult_carried (s : State) (failFlag : Bool) : s.DttCarried (s.operationResult failFlag) := by
  unfold State.operationResult
  split
  · exact .of_same rfl
  · split
    · split
      · exact s.attemptFails_carried _
      · exact .of_same rfl
    · split
      · exact s.attemptFails_carried _
      · split
        · exact .of_same rfl
        · exact s.commitSucceeds_carried _
    · exact .of_same rfl

theorem State.fillCompletes_carried (s : State) (i : Slot) (bytes : List Byte) : s.DttCarried (s.fillCompletes i bytes) := by
  simp only [State.fillCompletes]
  split
  · exact (State.DttCarried.of_same (by simp)).trans (State.reportCommitted_carried _ _)
  · exact .of_same rfl

theorem State.verifyCompletes_carried (s : State) (i : Slot) (bytes : List Byte) : s.DttCarried (s.verifyCompletes i bytes) := by
  unfold State.verifyCompletes
  split
  · exact s.commitSucceeds_carried i
  · exact (s.setPage (s.entries[i].page.getD 0) .undefined).attemptFails_carried _

theorem State.engineBytes_carried (s : State) (bytes : List Byte) : s.DttCarried (s.engineBytes bytes) := by
  unfold State.engineBytes
  split
  · exact .of_same rfl
  · split
    · exact s.fillCompletes_carried _ bytes
    · exact s.verifyCompletes_carried _ bytes
    · exact .of_same rfl

theorem State.takeReply_carried (s : State) (cond : DeviceCondition) (failFlag : Bool) : s.DttCarried (s.takeReply cond failFlag) := by
  have completes : s.DttCarried (s.operationCompletes failFlag) :=
    (State.DttCarried.of_same (by simp)).trans (State.operationResult_carried _ failFlag)
  unfold State.takeReply
  split
  · exact completes
  · exact completes
  · exact .of_same (by simp)
  · unfold State.deviceRecovered
    split
    · exact (s.setLink s.link.operationOver).attemptFails_carried .timeout
    · split <;> exact .of_same rfl
  · exact .of_same (by simp)

/-! ### Grants and fetches (R107 to R109) -/

theorem State.readyData_carried {s : State} {i : DttIndex} (used : s.dtt[i].state ≠ .free) (bytes : List Byte) :
    s.DttCarried (s.readyData i bytes) := State.setDtt_carried (.of_used used (state := .ready) nofun _ _ _ _)

theorem State.setFetching_carried {s : State} {i : DttIndex} (used : s.dtt[i].state ≠ .free) : s.DttCarried (s.setFetching i) :=
  State.setDtt_carried (.of_used used (state := .fetching) nofun _ _ _ _)

theorem State.oldestRead_used {s : State} {i : DttIndex} (oldest : s.oldestRead = some i) : s.dtt[i].state ≠ .free := by
  rw [(DttEntry.eligible_iff.mp (State.oldestOf_mem oldest)).1]
  nofun

theorem State.grantOldest_carried (s : State) : s.DttCarried s.grantOldest := by
  unfold State.grantOldest
  split
  · have used := State.oldestRead_used ‹_›
    unfold State.grantFetch
    split
    · exact State.readyData_carried used _
    · exact State.setFetching_carried used
  · exact .of_same rfl

theorem State.serveSuspended_carried {s : State} {i : DttIndex} (used : s.dtt[i].state ≠ .free) : s.DttCarried (s.serveSuspended i) := by
  unfold State.serveSuspended
  split
  · exact State.readyData_carried used _
  · exact State.setFetching_carried used

theorem State.deliver_carried (s : State) (owner : Option Owner) (bytes : List Byte) : s.DttCarried (s.deliver owner bytes) := by
  unfold State.deliver
  split
  · exact s.engineBytes_carried bytes
  · unfold State.completeFetch
    split
    · rename_i fetching
      exact State.readyData_carried (by rw [fetching]; nofun) _
    · exact .of_same rfl
  · exact .of_same (by simp)
  · exact .of_same rfl
  · exact .of_same rfl

/-! ### Accepted writes (R110) -/

theorem State.answerWrite_carried (s : State) (outcome : WriteOutcome) (req : Requester) (addr : Nat) (data : List Byte) :
    s.DttCarried (s.answerWrite outcome req addr data) := by
  cases outcome with
  | absorbed => exact fun d => (s.patchReady_get (pageOf addr) (offsetOf addr) data d).symm ▸ s.dtt[d].patch_carried _ _ _
  | pressure | busy | exhausted => exact .of_same rfl

theorem State.takeWrite_carried (s : State) (req : Requester) (addr len : Nat) (data : List Byte) :
    s.DttCarried (s.takeWrite req addr len data) := by
  have path : s.DttCarried (s.writePath req addr data) :=
    (State.DttCarried.of_same (by simp)).trans (State.answerWrite_carried _ _ req addr data)
  unfold State.takeWrite State.gateWrite State.protectWrite
  split
  · exact .of_same rfl
  split
  · exact .of_same rfl
  split
  · split
    · exact path
    · exact .of_same rfl
  all_goals exact .of_same rfl

/-! ### Entries that are freed and recorded -/

/-- The command is the request that the key names (R97). -/
def DttKey.RequestedBy (k : DttKey) (c : Instr) : Prop :=
  (∃ req addr len, c = .readRequest req addr len ∧ k = .read req addr.toNat len.toNat) ∨ ∃ req, c = .fenceRequest req ∧ k = .fence req

/-- An entry as a request with a key is recorded, a READ with the next arrival number (R103, R105). -/
structure DttEntry.Records (e : DttEntry) (k : DttKey) (next : Nat) : Prop where
  used : e.state ≠ .free
  key : e.hasKey k = true
  arrival : e.arrival = if e.kind = some .read then some next else none

/-- What a command does to the delayed transaction table: it carries every entry on, frees one, records a request in a FREE one, or resets them all. -/
inductive State.DelayedStep (c : Instr) (s t : State) : Prop
  | carried (h : s.DttCarried t)
  | freed (i : DttIndex) (used : s.dtt[i].state ≠ .free) (dtt : t.dtt = (s.freeDtt i).dtt)
  | recorded (i : DttIndex) (k : DttKey) (e : DttEntry) (free : s.dtt[i].state = .free) (unmatched : s.matchDtt k = none)
    (room : s.heldBy k.requester < 2) (requested : k.RequestedBy c) (entry : e.Records k s.readCount) (dtt : t.dtt = (s.setDtt i e).dtt)
  | reset (dtt : t.dtt = State.reset.dtt)

theorem State.DelayedStep.of_same {c : Instr} {s t : State} (dtt : t.dtt = s.dtt) : s.DelayedStep c t := .carried (.of_same dtt)

theorem State.DelayedStep.congr {c : Instr} {s t u : State} (h : s.DelayedStep c t) (same : u.dtt = t.dtt) : s.DelayedStep c u := by
  cases h with
  | carried h => exact .carried (h.trans (.of_same same))
  | freed i used dtt => exact .freed i used (same.trans dtt)
  | recorded i k e free unmatched room requested entry dtt =>
    exact .recorded i k e free unmatched room requested entry (same.trans dtt)
  | reset dtt => exact .reset (same.trans dtt)

/-- A command that acts under a condition, and changes nothing otherwise. -/
theorem State.DelayedStep.of_ite {c : Instr} {s t : State} {p : Prop} [Decidable p] (h : p → s.DelayedStep c t) :
    s.DelayedStep c (if p then t else s) := by
  split
  · exact h ‹_›
  · exact .of_same rfl

theorem State.matchDtt_eq_none {s : State} {k : DttKey} : s.matchDtt k = none ↔
    ∀ i : DttIndex, s.dtt[i].state ≠ .free → s.dtt[i].hasKey k = false := by
  simp only [State.matchDtt, find?_finRange_eq_none, Bool.and_eq_false_imp, bne_iff_ne]

theorem State.matchDtt_used {s : State} {k : DttKey} {i : DttIndex} (h : s.matchDtt k = some i) : s.dtt[i].state ≠ .free :=
  bne_iff_ne.mp (Bool.and_eq_true_iff.mp (find?_finRange_eq_some.mp h).1).1

theorem State.recordSlot_some {s : State} {req : Requester} {i : DttIndex} (h : s.recordSlot req = some i) :
    s.heldBy req < 2 ∧ s.dtt[i].state = .free := by
  unfold State.recordSlot at h
  split at h
  · exact ⟨‹_›, beq_iff_eq.mp (find?_finRange_eq_some.mp h).1⟩
  · cases h

theorem State.answerMatch_delayed (c : Instr) {s : State} {k : DttKey} {i : DttIndex} (h : s.matchDtt k = some i) :
    s.DelayedStep c (s.answerMatch i) := by
  unfold State.answerMatch
  split
  · exact .freed i (State.matchDtt_used h) rfl
  · exact .of_same rfl

theorem State.refuseReissue_delayed (c : Instr) (s : State) (req : Requester) (addr len : Nat) :
    s.DelayedStep c (s.refuseReissue req addr len) := by
  unfold State.refuseReissue
  split
  · split
    · exact .of_same rfl
    · exact .freed _ (State.matchDtt_used ‹_›) rfl
  · exact .of_same rfl

section
variable {c : Instr} {s : State} {req : Requester} {addr len : Nat}

theorem State.recordRead_delayed (unmatched : s.matchDtt (.read req addr len) = none) (requested : (DttKey.read req addr len).RequestedBy c) :
    s.DelayedStep c (s.recordRead req addr len) := by
  unfold State.recordRead
  split
  · rename_i i place
    obtain ⟨room, free⟩ := State.recordSlot_some place
    exact .recorded i _ (recordedRead req addr len s.readCount) free unmatched room requested
      ⟨nofun, DttEntry.hasKey_read.mpr ⟨rfl, rfl, rfl, rfl⟩, rfl⟩ rfl
  · exact .of_same rfl

theorem State.recordFence_delayed (unmatched : s.matchDtt (.fence req) = none) (requested : (DttKey.fence req).RequestedBy c) :
    s.DelayedStep c (s.recordFence req) := by
  unfold State.recordFence
  split
  · rename_i i place
    obtain ⟨room, free⟩ := State.recordSlot_some place
    exact .recorded i _ (recordedFence req ((s.fenceSlots req).map s.pairOf)) free unmatched room requested
      ⟨nofun, DttEntry.hasKey_fence.mpr ⟨rfl, rfl⟩, rfl⟩ (by simp)
  · exact .of_same rfl

/-- A READ through its checks, the match and the coverage lookup (R79, R90). -/
theorem State.takeRead_delayed (requested : (DttKey.read req addr len).RequestedBy c) : s.DelayedStep c (s.takeRead req addr len) := by
  have refused (kind : FaultKind) (found : Option AccessMode) :
      s.DelayedStep c ((s.refuseReissue req addr len).refuseRead kind found req addr) :=
    (s.refuseReissue_delayed c req addr len).congr rfl
  have path : s.DelayedStep c (s.readPath req addr len) := by
    unfold State.readPath State.handOffRead
    split
    · exact State.answerMatch_delayed c ‹_›
    · split
      · exact .of_same rfl
      · split
        · exact State.recordRead_delayed ‹_› requested
        all_goals exact .of_same rfl
  unfold State.takeRead State.gateRead State.protectRead
  split
  · exact .of_same rfl
  split
  · exact refused _ _
  split
  · exact .of_same rfl
  split
  · exact refused _ _
  · exact path

/-- A FENCE through the gate, the match and the fence logic's decision (R94, R121). -/
theorem State.takeFence_delayed (requested : (DttKey.fence req).RequestedBy c) : s.DelayedStep c (s.takeFence req) := by
  have path : s.DelayedStep c (s.fencePath req) := by
    unfold State.fencePath State.decideFence
    split
    · exact State.answerMatch_delayed c ‹_›
    · split
      · exact .of_same rfl
      · split
        · exact .of_same rfl
        · exact State.recordFence_delayed ‹_› requested
  unfold State.takeFence
  split
  · exact .of_same rfl
  · exact .of_same rfl
  all_goals exact path

end

/-! ### Every command -/

theorem State.runCommand_dtt (s : State) (c : MgmtCommand) : (s.runCommand c (commandOwner c)).dtt = s.dtt := by
  unfold State.runCommand
  (repeat' split) <;> simp

/-- The management port does not reach the delayed transaction table. -/
theorem exec_port_dtt {c : Instr} {s t : State} (h : exec c s = .next t) (port : portCommand c) : t.dtt = s.dtt := by
  have onPort {f : State → State} (kept : (f s).dtt = s.dtt) : (s.onPort f).dtt = s.dtt := by
    unfold State.onPort
    split
    · exact kept
    · rfl
  cases c with
  | sync | retryEntry | discardEntry | setRegion | freezeRegion | writeConfig | reinit | clearCounters | inspectEntry =>
    cases h
    exact onPort (s.runCommand_dtt _)
  | unknownCommand | pointerWrite | registerWrite | evdataRead | evlostRead | counterLowByteRead | cfgIndexWrite | cfgDataRead
  | cfgDataWrite | transferEnd =>
    cases h
    exact onPort (by simp)
  | _ => exact port.elim

theorem exec_delayed {c : Instr} {s t : State} (h : exec c s = .next t) : s.DelayedStep c t := by
  cases c with
  | powerOn => cases h; exact .reset rfl
  | resetNAssertion =>
    cases h
    split
    · exact .of_same rfl
    · exact .reset rfl
  | resetNDeassertion => cases h; exact .of_ite fun _ => .of_same rfl
  | writeRequest req addr len data =>
    cases h
    split
    · exact .of_same rfl
    · exact .carried (s.takeWrite_carried req addr.toNat len.toNat data)
  | readRequest req addr len =>
    cases h
    split
    · exact .of_same rfl
    · exact State.takeRead_delayed (.inl ⟨req, addr, len, rfl, rfl⟩)
  | fenceRequest req =>
    cases h
    split
    · exact .of_same rfl
    · exact State.takeFence_delayed (.inr ⟨req, rfl, rfl⟩)
  | arbiterDecision =>
    rcases execArbiterDecision_cases h with rfl | ⟨-, rfl | ⟨i, -, rfl⟩⟩
    · exact .of_same rfl
    · exact .carried s.grantOldest_carried
    · exact .of_same (by simp)
  | readCompletion bytes =>
    cases h
    split
    · exact .of_ite fun _ => .carried ((s.setLink s.link.readEnded).deliver_carried s.link.owner bytes)
    · exact .of_same rfl
  | statusReply cond failFlag =>
    cases h
    refine .of_ite fun _ => ?_
    split
    · exact .of_same rfl
    · exact .carried ((s.setLink s.link.ended).takeReply_carried cond failFlag)
  | suspendedFetchStep =>
    cases h
    refine .of_ite fun _ => ?_
    split
    · exact .carried (State.serveSuspended_carried (State.oldestRead_used ‹_›))
    · exact .of_same rfl
  | resetWaitTimerExpiry => cases h; exact .of_ite fun _ => .carried s.linkDown_carried
  | discardTimerExpiry i =>
    cases h
    refine .of_ite fun ⟨ready, _⟩ => ?_
    unfold State.discardResult
    split
    · exact .freed i (by rw [ready]; nofun) rfl
    · exact .of_same rfl
  | size asize =>
    cases h
    refine .of_ite fun _ => ?_
    unfold State.takeSize
    split
    · exact .of_same rfl
    · exact .carried (s.enterHalted_carried _)
  | sync | retryEntry | discardEntry | setRegion | freezeRegion | writeConfig | reinit | clearCounters | inspectEntry | unknownCommand
  | pointerWrite | registerWrite | evdataRead | evlostRead | counterLowByteRead | cfgIndexWrite | cfgDataRead | cfgDataWrite | transferEnd =>
    exact .of_same (exec_port_dtt h trivial)
  | _ =>
    -- No operation of the other commands reaches the table, as its frame lemma says.
    exact .of_same (by cases h; (repeat' split) <;> simp)

end Sys2Proof.Machine
end

section
/-! PROOFS. The limits and the keys of the delayed transaction table (O56), and the arrival order of its READs (O57). -/

namespace Sys2Proof.Machine

/-! ### Counting entries -/

/-- One index more meets the test. -/
theorem length_filter_finRange_succ {n : Nat} {p q : Fin n → Bool} {i : Fin n} (before : p i = false) (after : q i = true)
    (others : ∀ j : Fin n, j ≠ i → q j = p j) : ((List.finRange n).filter q).length = ((List.finRange n).filter p).length + 1 := by
  have out : i ∉ (List.finRange n).filter p := fun mem => by
    rw [(List.mem_filter.mp mem).2] at before
    cases before
  have nodup := List.nodup_finRange n
  have perm : ((List.finRange n).filter q).Perm (i :: (List.finRange n).filter p) := by
    refine (List.perm_ext_iff_of_nodup (nodup.filter q) (List.nodup_cons.mpr ⟨out, nodup.filter p⟩)).mpr fun j => ?_
    by_cases here : j = i
    · subst here; simp [after]
    · simp [here, others j here]
  rw [perm.length_eq, List.length_cons]

/-! ### The limits and the keys (R97) -/

/-- Where every entry is freed or keeps its use, the limits and the keys hold as before. -/
theorem State.DttQuota.of_sameUse {s t : State} (quota : s.DttQuota)
    (h : ∀ d : DttIndex, t.dtt[d].state = .free ∨ s.dtt[d].SameUse t.dtt[d]) : t.DttQuota := by
  obtain ⟨limit, keys⟩ := quota
  have same {d : DttIndex} (used : t.dtt[d].state ≠ .free) : s.dtt[d].SameUse t.dtt[d] := (h d).resolve_left used
  refine ⟨fun r => le_trans (List.Sublist.length_le (List.monotone_filter_right _ fun d held => ?_)) (limit r), fun k i j hi hj ki kj => ?_⟩
  · obtain ⟨used, requester⟩ := Bool.and_eq_true_iff.mp held
    have kept := same (bne_iff_ne.mp used)
    rw [← kept.used, ← kept.requester, used, requester]
    rfl
  · have si := same hi
    have sj := same hj
    exact keys k i j (mt si.free.mpr hi) (mt sj.free.mpr hj) (si.hasKey k ▸ ki) (sj.hasKey k ▸ kj)

/-- A request that matches no entry is recorded for a requester that holds fewer than two (R97, R103). -/
theorem State.DttQuota.of_recorded {s t : State} (quota : s.DttQuota) {i : DttIndex} {k : DttKey} {e : DttEntry}
    (free : s.dtt[i].state = .free) (unmatched : s.matchDtt k = none) (room : s.heldBy k.requester < 2) (used : e.state ≠ .free)
    (key : e.hasKey k = true) (dtt : t.dtt = (s.setDtt i e).dtt) : t.DttQuota := by
  obtain ⟨limit, keys⟩ := quota
  have get (j : DttIndex) : t.dtt[j] = if j = i then e else s.dtt[j] := by rw [dtt]; exact s.setDtt_get i j e
  have here : t.dtt[i] = e := (get i).trans (if_pos rfl)
  have other {j : DttIndex} (ne : j ≠ i) : t.dtt[j] = s.dtt[j] := (get j).trans (if_neg ne)
  have requester := DttEntry.requester_of_hasKey key
  have fresh {j : DttIndex} {k' : DttKey} (ne : j ≠ i) (usedj : t.dtt[j].state ≠ .free) (kj : t.dtt[j].hasKey k' = true)
      (ki : t.dtt[i].hasKey k' = true) : False := by
    rw [here] at ki
    rw [other ne] at usedj kj
    rw [DttEntry.hasKey_unique ki key, State.matchDtt_eq_none.mp unmatched j usedj] at kj
    cases kj
  refine ⟨fun r => ?_, fun k' j l hj hl kj kl => ?_⟩
  · by_cases own : r = k.requester
    · subst own
      have count : t.heldBy k.requester = s.heldBy k.requester + 1 := by
        refine length_filter_finRange_succ (i := i) ?_ ?_ fun j ne => by rw [other ne]
        · rw [free]; rfl
        · rw [here, requester, bne_iff_ne.mpr used]; exact beq_self_eq_true _
      omega
    · have count : t.heldBy r = s.heldBy r := congrArg List.length <| List.filter_congr fun j _ => by
        rw [get]
        split
        · subst j
          rw [free, requester, beq_eq_false_iff_ne.mpr fun same => own (Option.some.inj same).symm, Bool.and_false]
          rfl
        · rfl
      exact count ▸ limit r
  · by_cases ji : j = i <;> by_cases li : l = i
    · exact ji.trans li.symm
    · exact (fresh li hl kl (ji ▸ kj)).elim
    · exact (fresh ji hj kj (li ▸ kl)).elim
    · rw [other ji] at hj kj
      rw [other li] at hl kl
      exact keys k' j l hj hl kj kl

theorem exec_dttQuota {c : Instr} {s t : State} (quota : s.DttQuota) (h : exec c s = .next t) : t.DttQuota := by
  cases exec_delayed h with
  | carried h => exact quota.of_sameUse fun d => .inr (h d).toSameUse
  | freed i used dtt =>
    refine quota.of_sameUse fun d => ?_
    rw [dtt, s.freeDtt_get]
    split
    · exact .inl rfl
    · exact .inr (s.dtt[d].moveUp_sameUse _)
  | recorded i k e free unmatched room requested entry dtt => exact quota.of_recorded free unmatched room entry.used entry.key dtt
  | reset dtt => exact quota.of_sameUse fun d => .inl (by rw [dtt, State.reset_dtt]; rfl)

/-- A command takes an entry from FREE only to record its own request. -/
theorem exec_delayed_taken {c : Instr} {s t : State} {d : DttIndex} (h : exec c s = .next t) (free : s.dtt[d].state = .free)
    (used : t.dtt[d].state ≠ .free) : ∃ k : DttKey, s.matchDtt k = none ∧ t.dtt[d].hasKey k = true ∧ k.RequestedBy c := by
  cases exec_delayed h with
  | carried h => exact absurd ((h d).free.mpr free) used
  | freed i _ dtt =>
    rw [dtt, s.freeDtt_get] at used
    split at used
    · exact absurd rfl used
    · exact absurd ((s.dtt[d].moveUp_sameUse _).free.mpr free) used
  | recorded i k e _ unmatched _ requested entry dtt =>
    have get : t.dtt[d] = if d = i then e else s.dtt[d] := by rw [dtt]; exact s.setDtt_get i d e
    by_cases here : d = i
    · rw [if_pos here] at get
      exact ⟨k, unmatched, get ▸ entry.key, requested⟩
    · rw [get, if_neg here] at used
      exact absurd free used
  | reset dtt => rw [dtt, State.reset_dtt] at used; exact absurd rfl used

/-- Settles O56: a command carries the entries on, frees one, resets them, or records a request that matches none where its requester has room. -/
theorem stepsKeepTheDelayedQuota : Obligations.StepsKeepTheDelayedQuota := by
  refine ⟨fun s t quota h => ?_, fun s r i j quota hi hj fencei fencej ri rj => ?_, fun c s t d h free used => exec_delayed_taken h free used⟩
  · exact step_of_exec (fun _ _ law => law) (fun s law => law.of_sameUse fun d => .inr (s.tick_carried d).toSameUse)
      (fun _ _ _ law run => exec_dttQuota law run) quota h
  · exact quota.2 (.fence r) i j hi hj (DttEntry.hasKey_fence.mpr ⟨fencei, ri⟩) (DttEntry.hasKey_fence.mpr ⟨fencej, rj⟩)

/-! ### The arrival order (R105) -/

theorem State.ArrivalLaw.of_carried {s t : State} (law : s.ArrivalLaw) (h : s.DttCarried t) : t.ArrivalLaw := by
  obtain ⟨empty, unnumbered, numbered, distinct⟩ := law
  have count : t.readCount = s.readCount := congrArg List.length <| List.filter_congr fun d _ => by rw [(h d).used, (h d).kind]
  refine ⟨fun i free => (h i).initial (empty i ((h i).free.mp free)), fun i => ?_, fun i => ?_, fun i j => ?_⟩
  · rw [(h i).kind, (h i).arrival]; exact unnumbered i
  · rw [(h i).kind, (h i).arrival, count]; exact numbered i
  · rw [(h i).kind, (h j).kind, (h i).arrival, (h j).arrival]; exact distinct i j

/-- A READ entry is in use. -/
theorem State.ArrivalLaw.used {s : State} (law : s.ArrivalLaw) {i : DttIndex} (read : s.dtt[i].kind = some .read) : s.dtt[i].state ≠ .free :=
  fun free => by rw [law.1 i free] at read; cases read

/-- The READ entries are the numbered ones. -/
theorem State.ArrivalLaw.numbered_iff {s : State} (law : s.ArrivalLaw) {i : DttIndex} :
    s.dtt[i].arrival.isSome = true ↔ s.dtt[i].kind = some .read := by
  obtain ⟨-, unnumbered, numbered, -⟩ := law
  refine ⟨fun some => ?_, fun read => ?_⟩
  · by_contra fence
    rw [unnumbered i fence] at some
    cases some
  · obtain ⟨n, number, -⟩ := numbered i read
    rw [number]
    rfl

/-- The READ entry that leaves is one of those counted. -/
theorem State.ArrivalLaw.count_freed {s t : State} (law : s.ArrivalLaw) {i : DttIndex} (dtt : t.dtt = (s.freeDtt i).dtt) :
    s.readCount = if s.dtt[i].arrival.isSome then t.readCount + 1 else t.readCount := by
  have get (j : DttIndex) : t.dtt[j] = if j = i then DttEntry.initial else s.dtt[j].moveUp s.dtt[i].arrival := by
    rw [dtt]; exact s.freeDtt_get i j
  have other (j : DttIndex) (ne : j ≠ i) : (s.dtt[j].state != .free && s.dtt[j].kind == some .read) =
      (t.dtt[j].state != .free && t.dtt[j].kind == some .read) := by
    have same := s.dtt[j].moveUp_sameUse s.dtt[i].arrival
    rw [get, if_neg ne, same.used, same.kind]
  simp only [law.numbered_iff]
  split
  · rename_i read
    refine length_filter_finRange_succ (i := i) ?_ ?_ other
    · rw [get, if_pos rfl]; rfl
    · rw [bne_iff_ne.mpr (law.used read), read]; rfl
  · rename_i fence
    refine congrArg List.length <| List.filter_congr fun j _ => ?_
    by_cases here : j = i
    · subst here
      rw [get, if_pos rfl, beq_eq_false_iff_ne.mpr fence, Bool.and_false]
      rfl
    · exact other j here

/-- The arrival numbers close up behind the entry that leaves. -/
theorem State.ArrivalLaw.of_freed {s t : State} (law : s.ArrivalLaw) {i : DttIndex} (dtt : t.dtt = (s.freeDtt i).dtt) : t.ArrivalLaw := by
  have count := law.count_freed dtt
  have readi := law.numbered_iff (i := i)
  obtain ⟨empty, unnumbered, numbered, distinct⟩ := law
  have here : t.dtt[i] = DttEntry.initial := by rw [dtt, s.freeDtt_get, if_pos rfl]
  have other {j : DttIndex} (ne : j ≠ i) : t.dtt[j] = { s.dtt[j] with arrival := closeUp s.dtt[i].arrival s.dtt[j].arrival } := by
    rw [dtt, s.freeDtt_get, if_neg ne, DttEntry.moveUp_eq]
  have old {j : DttIndex} (read : t.dtt[j].kind = some .read) : j ≠ i ∧ s.dtt[j].kind = some .read := by
    have ne : j ≠ i := by rintro rfl; rw [here] at read; cases read
    exact ⟨ne, by rwa [other ne] at read⟩
  have apart {j : DttIndex} {m : Nat} (ne : j ≠ i) (read : s.dtt[j].kind = some .read) (number : s.dtt[j].arrival = some m) :
      s.dtt[i].arrival ≠ some m := fun same =>
    ne (distinct j i read (readi.mp (by rw [same]; rfl)) (number.trans same.symm))
  refine ⟨fun j free => ?_, fun j fence => ?_, fun j read => ?_, fun j k readj readk same => ?_⟩
  · by_cases ji : j = i
    · exact ji ▸ here
    · rw [other ji] at free ⊢
      rw [empty j free]
      cases s.dtt[i].arrival <;> rfl
  · by_cases ji : j = i
    · rw [ji, here]; rfl
    · rw [other ji] at fence ⊢
      rw [unnumbered j fence]
      cases s.dtt[i].arrival <;> rfl
  · obtain ⟨ne, read⟩ := old read
    obtain ⟨m, number, below⟩ := numbered j read
    have away := apart ne read number
    rw [other ne, number]
    cases gone : s.dtt[i].arrival with
    | none =>
      rw [gone] at count
      have count : s.readCount = t.readCount := count
      exact ⟨m, rfl, count ▸ below⟩
    | some n =>
      obtain ⟨n', same, first⟩ := numbered i (readi.mp (by rw [gone]; rfl))
      rw [gone] at same away count
      cases same
      have away : n ≠ m := fun h => away (congrArg some h)
      have count : s.readCount = t.readCount + 1 := count
      refine ⟨_, closeUp_some n m, ?_⟩
      split <;> omega
  · obtain ⟨nej, readj⟩ := old readj
    obtain ⟨nek, readk⟩ := old readk
    obtain ⟨m, numberj, _⟩ := numbered j readj
    obtain ⟨l, numberk, _⟩ := numbered k readk
    rw [other nej, other nek, numberj, numberk] at same
    have same := closeUp_injective (apart nej readj numberj) (apart nek readk numberk) same
    exact distinct j k readj readk (by rw [numberj, numberk, same])

/-- A READ is recorded with the next arrival number, a FENCE with none. -/
theorem State.ArrivalLaw.of_recorded {s t : State} (law : s.ArrivalLaw) {i : DttIndex} {k : DttKey} {e : DttEntry}
    (free : s.dtt[i].state = .free) (entry : e.Records k s.readCount) (dtt : t.dtt = (s.setDtt i e).dtt) : t.ArrivalLaw := by
  obtain ⟨empty, unnumbered, numbered, distinct⟩ := law
  have get (j : DttIndex) : t.dtt[j] = if j = i then e else s.dtt[j] := by rw [dtt]; exact s.setDtt_get i j e
  have here : t.dtt[i] = e := (get i).trans (if_pos rfl)
  have other {j : DttIndex} (ne : j ≠ i) : t.dtt[j] = s.dtt[j] := (get j).trans (if_neg ne)
  have count : t.readCount = if e.kind = some .read then s.readCount + 1 else s.readCount := by
    split
    · rename_i read
      refine length_filter_finRange_succ (i := i) ?_ ?_ fun j ne => by rw [other ne]
      · rw [free]; rfl
      · rw [here, read, bne_iff_ne.mpr entry.used]; rfl
    · rename_i fence
      refine congrArg List.length <| List.filter_congr fun j _ => ?_
      rw [get]
      split
      · subst j
        rw [free, beq_eq_false_iff_ne.mpr fence, Bool.and_false]
        rfl
      · rfl
  have grows : s.readCount ≤ t.readCount := by rw [count]; split <;> omega
  have newest (read : e.kind = some .read) : e.arrival = some s.readCount := by rw [entry.arrival, if_pos read]
  have older {j : DttIndex} (readj : s.dtt[j].kind = some .read) (read : e.kind = some .read) : s.dtt[j].arrival ≠ e.arrival := by
    obtain ⟨n, number, below⟩ := numbered j readj
    rw [number, newest read]
    exact fun same => Nat.ne_of_lt below (Option.some.inj same)
  refine ⟨fun j freej => ?_, fun j fence => ?_, fun j read => ?_, fun j l readj readl same => ?_⟩
  · by_cases ji : j = i
    · rw [ji, here] at freej; exact absurd freej entry.used
    · rw [other ji] at freej ⊢; exact empty j freej
  · by_cases ji : j = i
    · rw [ji, here] at fence ⊢; rw [entry.arrival, if_neg fence]
    · rw [other ji] at fence ⊢; exact unnumbered j fence
  · by_cases ji : j = i
    · rw [ji, here] at read ⊢
      exact ⟨_, newest read, by rw [count, if_pos read]; omega⟩
    · rw [other ji] at read ⊢
      obtain ⟨n, number, below⟩ := numbered j read
      exact ⟨n, number, lt_of_lt_of_le below grows⟩
  · by_cases ji : j = i <;> by_cases li : l = i
    · exact ji.trans li.symm
    · rw [ji, here] at readj same
      rw [other li] at readl same
      exact absurd same.symm (older readl readj)
    · rw [li, here] at readl same
      rw [other ji] at readj same
      exact absurd same (older readj readl)
    · rw [other ji] at readj same
      rw [other li] at readl same
      exact distinct j l readj readl same

theorem exec_arrivalLaw {c : Instr} {s t : State} (law : s.ArrivalLaw) (h : exec c s = .next t) : t.ArrivalLaw := by
  cases exec_delayed h with
  | carried h => exact law.of_carried h
  | freed i used dtt => exact law.of_freed dtt
  | recorded i k e free unmatched room requested entry dtt => exact law.of_recorded free entry dtt
  | reset dtt =>
    obtain ⟨-, -, -, -, -, -, -, initial, -⟩ := resetStateMeetsTheLaws
    exact initial.of_carried (.of_same dtt)

/-- Settles O57: the numbers are carried on, close up behind an entry that leaves, and go on at the end for a READ that is recorded. -/
theorem stepsKeepTheArrivalOrder : Obligations.StepsKeepTheArrivalOrder := fun _ _ law h =>
  step_of_exec (fun _ _ law => law) (fun s law => law.of_carried s.tick_carried) (fun _ _ _ law run => exec_arrivalLaw law run) law h

end Sys2Proof.Machine
end

section
/-! PROOFS. The effective mode of a page (O55), and SET_REGION and FREEZE_REGION (O45). -/

namespace Sys2Proof.Machine

/-! ### The effective mode (R136) -/

theorem Region.holds_iff {r : Region} {page : Nat} :
    r.holds page = true ↔ r.enabled = true ∧ r.first ≤ page ∧ page ≤ r.last := by
  simp only [Region.holds, Bool.and_eq_true, decide_eq_true_eq, and_assoc]

theorem AccessMode.stricter_eq_noAccess {a b : AccessMode} : a.stricter b = .noAccess ↔ a = .noAccess ∨ b = .noAccess := by
  cases a <;> cases b <;> simp [AccessMode.stricter]

theorem foldl_stricter_eq_noAccess (l : List Region) (m : AccessMode) :
    l.foldl (fun m r => m.stricter r.mode) m = .noAccess ↔ m = .noAccess ∨ ∃ r ∈ l, r.mode = .noAccess := by
  induction l generalizing m with
  | nil => simp
  | cons r l ih => simp only [List.foldl_cons, ih, AccessMode.stricter_eq_noAccess, List.exists_mem_cons_iff, or_assoc]

/-- A page is NO_ACCESS when some region that holds it is (R136). -/
theorem effectiveModeOf_eq_noAccess {rs : Vector Region 8} {page : Nat} :
    effectiveModeOf rs page = .noAccess ↔ ∃ n : RegionIndex, rs[n].holds page = true ∧ rs[n].mode = .noAccess := by
  rw [effectiveModeOf, foldl_stricter_eq_noAccess]
  simp only [reduceCtorEq, false_or, List.mem_filter, Vector.mem_toList_iff, Vector.mem_iff_getElem]
  constructor
  · rintro ⟨r, ⟨⟨n, hn, rfl⟩, holds⟩, mode⟩
    exact ⟨⟨n, hn⟩, holds, mode⟩
  · rintro ⟨n, holds, mode⟩
    exact ⟨rs[n], ⟨⟨n.val, n.isLt, rfl⟩, holds⟩, mode⟩

theorem AccessMode.eq_readOnly_iff {m : AccessMode} : m = .readOnly ↔ m ≠ .readWrite ∧ m ≠ .noAccess := by
  cases m <;> decide

/-- A page is READ_ONLY when some region that holds it is, and none is stricter (R136). -/
theorem effectiveModeOf_eq_readOnly {rs : Vector Region 8} {page : Nat} :
    effectiveModeOf rs page = .readOnly ↔ (∃ n : RegionIndex, rs[n].holds page = true ∧ rs[n].mode = .readOnly) ∧
      ∀ n : RegionIndex, rs[n].holds page = true → rs[n].mode ≠ .noAccess := by
  rw [AccessMode.eq_readOnly_iff, Ne, Ne, effectiveModeOf_eq_readWrite, effectiveModeOf_eq_noAccess]
  push Not
  refine and_congr_left fun allowed => exists_congr fun n => and_congr_right fun holds => ?_
  rw [AccessMode.eq_readOnly_iff]
  exact (and_iff_left (allowed n holds)).symm

/-- Settles O55: the fold of `stricter` over the regions that hold the page, read off for each of the three modes. -/
theorem effectiveModeIsTheMostRestrictive : Obligations.EffectiveModeIsTheMostRestrictive := by
  unfold Obligations.EffectiveModeIsTheMostRestrictive
  intro s page
  simp only [State.effectiveMode, ← Region.holds_iff]
  exact ⟨effectiveModeOf_eq_noAccess, effectiveModeOf_eq_readOnly, effectiveModeOf_eq_readWrite⟩

/-! ### The arguments of SET_REGION and FREEZE_REGION (R139, R143) -/

theorem State.argRegion_eq_none {s : State} (h : 8 ≤ (s.port.args[0]).toNat) : s.argRegion = none := dif_neg (not_lt.mpr h)

theorem State.argRegion_eq_some {s : State} {n : RegionIndex} (h : (s.port.args[0]).toNat = n.val) : s.argRegion = some n := by
  have small : s.arg 0 < 8 := by rw [State.arg]; exact h ▸ n.isLt
  rw [State.argRegion, dif_pos small]
  exact congrArg some (Fin.ext h)

theorem accessModeOfCode_code (m : AccessMode) : accessModeOfCode m.code = some m := by cases m <;> rfl

/-- The mode code 3 names no mode. -/
theorem State.argDescriptor_eq_none {s : State} (h : (s.port.args[3]).toNat % 4 = 3) : s.argDescriptor = none := by
  have code : s.arg 3 % 4 = 3 := h
  rw [State.argDescriptor, code]
  rfl

theorem State.argDescriptor_eq_some {s : State} {m : AccessMode} (h : (s.port.args[3]).toNat % 4 = m.code) :
    s.argDescriptor = some { enabled := (s.port.args[3]).getLsbD 8, first := (s.port.args[1]).toNat, last := (s.port.args[2]).toNat
                             mode := m, frozen := false } := by
  have code : s.arg 3 % 4 = m.code := h
  rw [State.argDescriptor, code, accessModeOfCode_code]
  rfl

/-! ### The checks of R139 -/

theorem State.descriptorOk_iff {s : State} {r : Region} :
    s.descriptorOk r = true ↔ r.first ≤ r.last ∧ r.last < s.params.windowPages := by
  simp only [State.descriptorOk, Bool.and_eq_true, decide_eq_true_eq]

theorem State.blocked_iff {s : State} {new : Vector Region 8} :
    s.blocked new = true ↔ ∃ (i : Slot) (page : Nat), s.entries[i].state ≠ .free ∧ s.entries[i].written ≠ 0#512 ∧
      s.entries[i].page = some page ∧ s.effectiveMode page = .readWrite ∧ effectiveModeOf new page ≠ .readWrite := by
  rw [← Bool.not_eq_false, State.not_blocked_iff]
  push Not
  refine exists_congr fun i => ?_
  rw [ne_eq, Bool.not_eq_false, Entry.blocksChange_iff]
  constructor
  · rintro ⟨used, written, page, rest⟩
    exact ⟨page, used, written, rest⟩
  · rintro ⟨page, used, written, rest⟩
    exact ⟨used, written, page, rest⟩

/-- Row 1 of R139, for the region number and the mode code. -/
theorem State.setRegionCommand_badArgument {s : State} (bad : s.argRegion = none ∨ s.argDescriptor = none) :
    s.setRegionCommand = s.refuse .badArgument := by
  rw [State.setRegionCommand]
  rcases bad with none | none <;> rw [none]
  cases s.argRegion <;> rfl

theorem State.setRegionCommand_of {s : State} {n : RegionIndex} {r : Region} (region : s.argRegion = some n)
    (descriptor : s.argDescriptor = some r) :
    s.setRegionCommand = if s.descriptorOk r then s.changeRegion n r else s.refuse .badArgument := by
  rw [State.setRegionCommand, region, descriptor]

theorem State.freezeRegionCommand_badArgument {s : State} (region : s.argRegion = none) :
    s.freezeRegionCommand = s.refuse .badArgument := by
  rw [State.freezeRegionCommand, region]

theorem State.freezeRegionCommand_of {s : State} {n : RegionIndex} (region : s.argRegion = some n) :
    s.freezeRegionCommand = if s.regions[n].frozen then s.refuse .frozen else (s.freeze n).finish := by
  rw [State.freezeRegionCommand, region]

/-- Settles O45: the rows of R139 as SET_REGION meets them, and the two of FREEZE_REGION. The descriptor of the arguments is the new one with its frozen flag clear. -/
theorem regionCommands : Obligations.RegionCommands := by
  unfold Obligations.RegionCommands
  intro s new admits running ended refusedSet bounds
  let u := s.noteCommand (some .setRegion)
  let v := s.noteCommand (some .freezeRegion)
  have setRuns {t : State} (h : u.setRegionCommand = t) : exec .setRegion s = .next (t.wrote cmdAddr) := by
    rw [← h]
    exact congrArg _ (State.writeCommand_admitted admits (by simp [acceptsMode, running]) _)
  have freezeRuns {t : State} (h : v.freezeRegionCommand = t) : exec .freezeRegion s = .next (t.wrote cmdAddr) := by
    rw [← h]
    exact congrArg _ (State.writeCommand_admitted admits (by simp [acceptsMode, running]) _)
  refine ⟨fun bad => ?_, fun beyond => ?_, fun n arg => ⟨fun given code => ?_, fun frozen => ?_, fun live => ?_⟩⟩
  · exact setRuns (State.setRegionCommand_badArgument (bad.imp State.argRegion_eq_none State.argDescriptor_eq_none))
  · exact freezeRuns (State.freezeRegionCommand_badArgument (State.argRegion_eq_none beyond))
  · have descriptor : u.argDescriptor = some { new with frozen := false } :=
      (State.argDescriptor_eq_some code).trans (congrArg (fun r : Region => some { r with frozen := false }) given.symm)
    have ok : u.descriptorOk { new with frozen := false } = true ↔ bounds := State.descriptorOk_iff
    have flag : new.frozen = s.regions[n].frozen := by rw [given]
    have same (live : s.regions[n].frozen = false) : { new with frozen := false } = new := by rw [← live, ← flag]
    have rows := State.setRegionCommand_of (State.argRegion_eq_some (s := u) arg) descriptor
    refine ⟨fun bad => ?_, fun good frozen => ?_, fun good live blocked => ?_, fun good live free => ?_⟩
    · exact setRuns (rows.trans (if_neg (mt ok.mp bad)))
    · exact setRuns (rows.trans ((if_pos (ok.mpr good)).trans (if_pos frozen)))
    · rw [same live] at rows ok
      exact setRuns (rows.trans ((if_pos (ok.mpr good)).trans
        ((if_neg (Bool.eq_false_iff.mp live)).trans (if_pos (State.blocked_iff.mpr blocked)))))
    · rw [same live] at rows ok
      have accepted := setRuns (rows.trans ((if_pos (ok.mpr good)).trans
        ((if_neg (Bool.eq_false_iff.mp live)).trans (if_neg (mt State.blocked_iff.mp free)))))
      have kept : { new with frozen := u.regions[n].frozen } = new := by rw [show u.regions[n].frozen = new.frozen from flag.symm]
      rw [State.replaceRegion, kept] at accepted
      exact accepted
  · exact freezeRuns ((State.freezeRegionCommand_of (s := v) (State.argRegion_eq_some arg)).trans (if_pos frozen))
  · exact freezeRuns ((State.freezeRegionCommand_of (s := v) (State.argRegion_eq_some arg)).trans (if_neg (Bool.eq_false_iff.mp live)))

end Sys2Proof.Machine
end

section
/-! PROOFS. CFG_INDEX and CFG_DATA (O50). -/

namespace Sys2Proof.Machine

/-! ### The bytes of a field (12) -/

theorem bytes16_at16 (l : List Byte) (i : Nat) : bytes16 (at16 l i) = [at8 l i, at8 l (i + 1)] := by
  rw [bytes16, at16, BitVec.extractLsb'_append_eq_right, BitVec.extractLsb'_append_eq_left]

theorem bytes32_append (h l : BitVec 16) : bytes32 (h ++ l) = bytes16 l ++ bytes16 h := by
  rw [bytes32, BitVec.extractLsb'_append_eq_of_add_le (by decide), BitVec.extractLsb'_append_eq_of_add_le (by decide),
    BitVec.extractLsb'_append_eq_of_le (by decide), BitVec.extractLsb'_append_eq_of_le (by decide)]
  rfl

theorem bytes32_at32 (l : List Byte) (i : Nat) :
    bytes32 (at32 l i) = [at8 l i, at8 l (i + 1), at8 l (i + 2), at8 l (i + 3)] := by
  rw [at32, bytes32_append, bytes16_at16, bytes16_at16]
  rfl

theorem extractLsb'_eq_byteOf {w : Nat} (x : BitVec w) (k : Nat) : x.extractLsb' (8 * k) 8 = byteOf x.toNat k := by
  refine BitVec.eq_of_toNat_eq ?_
  rw [BitVec.extractLsb'_toNat, byteOf, BitVec.toNat_ofNat, Nat.shiftRight_eq_div_pow, Nat.pow_mul]

theorem extractLsb'_ofNat_eq_byteOf (n : Nat) (k : Fin 2) : (BitVec.ofNat 16 n).extractLsb' (8 * k.val) 8 = byteOf n k.val := by
  rw [extractLsb'_eq_byteOf, BitVec.toNat_ofNat]
  refine BitVec.eq_of_toNat_eq ?_
  fin_cases k
  · simp [byteOf]
  · simp only [byteOf, BitVec.toNat_ofNat]
    omega

/-! ### The fields and their bytes (12.2) -/

theorem map_at8_range (l : List Byte) : (List.range l.length).map (at8 l) = l := by
  refine List.ext_getElem (by simp) fun i _ h => ?_
  rw [List.getElem_map, List.getElem_range, at8, List.getD_eq_getElem _ _ h]

theorem bytes_fieldsOf {l : List Byte} (h : l.length = 30) : (fieldsOf l).bytes = l := by
  have spelt : (fieldsOf l).bytes = (List.range 30).map (at8 l) := by
    simp only [RecordFields.bytes, fieldsOf, bytes32_at32, bytes16_at16]
    rfl
  rw [spelt, ← h, map_at8_range]

theorem RecordFields.bytes_setByte (f : RecordFields) (i : Nat) (v : Byte) : (f.setByte i v).bytes = f.bytes.set i v :=
  bytes_fieldsOf ((List.length_set ..).trans f.length_bytes)

/-! ### The bytes of a record (12.2) -/

theorem ConfigRecord.bytes_field (r : ConfigRecord) {i : Nat} (h : i < 30) : r.fields.bytes[i]? = some (at8 r.bytes i) := by
  have inFields : i < r.fields.bytes.length := h
  rw [ConfigRecord.bytes, recordBody, List.append_assoc, at8, List.getD_append _ _ _ _ inFields, List.getD_eq_getElem _ _ inFields,
    List.getElem?_eq_getElem inFields]

theorem ConfigRecord.rawRegionAt_bytes (r : ConfigRecord) (n : RegionIndex) : rawRegionAt r.bytes (30 + 6 * n.val) = r.regions[n] := by
  rw [ConfigRecord.bytes, recordBody, List.append_assoc, ← r.fields.length_bytes, rawRegionAt_append_right,
    rawRegionAt_flatMap (by rw [Vector.length_toList]; exact n.isLt), Vector.getElem_toList]
  rfl

theorem ConfigRecord.bytes_crc (r : ConfigRecord) (k : Fin 4) : at8 r.bytes (78 + k.val) = byteOf r.crc.toNat k.val := by
  rw [ConfigRecord.bytes, ← length_recordBody r.fields r.regions, at8_append_right, ← extractLsb'_eq_byteOf]
  fin_cases k <;> rfl

/-- The bytes from an offset are those of the descriptor that they hold. -/
theorem at8_rawRegionAt (l : List Byte) (i : Nat) (j : Fin 6) : at8 l (i + j.val) = at8 (rawRegionAt l i).bytes j.val := by
  simp only [RawRegion.bytes, rawRegionAt, bytes16_at16]
  fin_cases j <;> rfl

theorem ConfigRecord.bytes_region (r : ConfigRecord) (n : RegionIndex) (j : Fin 6) :
    at8 r.bytes (30 + 6 * n.val + j.val) = at8 r.regions[n].bytes j.val := by
  rw [at8_rawRegionAt, r.rawRegionAt_bytes]

/-- The six bytes of a live descriptor as the shadow shows them (R146, 12.2). -/
theorem Region.bytes_raw (r : Region) (j : Fin 6) :
    (j.val < 2 → at8 r.raw.bytes j.val = byteOf r.first j.val) ∧
    (2 ≤ j.val → j.val < 4 → at8 r.raw.bytes j.val = byteOf r.last (j.val - 2)) ∧
    (j.val = 4 → (at8 r.raw.bytes j.val).toNat = [AccessMode.readWrite, .readOnly, .noAccess].idxOf r.mode) ∧
    (j.val = 5 → (at8 r.raw.bytes j.val).toNat = (if r.enabled then 1 else 0) + (if r.frozen then 2 else 0)) := by
  refine ⟨fun low => ?_, fun low high => ?_, fun mode => ?_, fun flags => ?_⟩
  · obtain ⟨k, place⟩ : ∃ k : Fin 2, j.val = k.val := ⟨⟨j.val, low⟩, rfl⟩
    rw [place, ← extractLsb'_ofNat_eq_byteOf r.first k]
    fin_cases k <;> rfl
  · obtain ⟨k, place⟩ : ∃ k : Fin 2, j.val = 2 + k.val := ⟨⟨j.val - 2, by omega⟩, by simp only; omega⟩
    rw [place, Nat.add_sub_cancel_left, ← extractLsb'_ofNat_eq_byteOf r.last k]
    fin_cases k <;> rfl
  · rw [mode]
    show r.mode.byte.toNat = _
    cases r.mode <;> rfl
  · rw [flags]
    show ((if r.enabled then 1#8 else 0#8) ||| (if r.frozen then 2#8 else 0#8)).toNat = _
    cases r.enabled <;> cases r.frozen <;> rfl

/-! ### CFG_INDEX and CFG_DATA at the port (R195) -/

theorem State.onPort_answers {s : State} (reset : s.resetAsserted = false) (maddr : s.port.maddr.isSome) (f : State → State) :
    s.onPort f = f s := by
  rw [State.onPort, if_pos (by rw [State.portAnswers, reset, maddr]; rfl)]

theorem editable_iff {i : Fin 82} : editable i = true ↔ (5 ≤ i.val ∧ i.val ≤ 7) ∨ (12 ≤ i.val ∧ i.val ≤ 29) := by
  simp only [editable, Bool.or_eq_true, Bool.and_eq_true, decide_eq_true_eq]

theorem Mode.editsShadow_iff {m : Mode} : m.editsShadow = true ↔ m ≠ .start ∧ m ≠ .halted := by
  simp only [Mode.editsShadow, Bool.and_eq_true, bne_iff_ne]

/-- Settles O50: the index, the byte of the shadow at it, and the edit, which the bytes of the fields carry out. -/
theorem configurationRegisters : Obligations.ConfigurationRegisters := by
  unfold Obligations.ConfigurationRegisters
  intro s value reset maddr
  have answers (f : State → State) : Host.Outcome.next (s.onPort f) = (.next (f s) : Answer) := congrArg _ (s.onPort_answers reset maddr f)
  have index : exec (.cfgIndexWrite value) s = .next ((s.writeCfgIndex value).wrote cfgIndexAddr) := answers _
  have read : exec .cfgDataRead s = .next (s.busRead cfgDataAddr) := answers _
  have write : exec (.cfgDataWrite value) s = .next ((s.writeCfgData value).wrote cfgDataAddr) := answers _
  refine ⟨fun small => ?_, fun large => ?_, ⟨s.shadowByte s.port.cfgIndex, read, fun field => ?_, fun n j region => ?_, fun k crc => ?_⟩,
    fun place notStart notHalted => ?_, fun refused => ?_⟩
  · rw [index, State.writeCfgIndex, dif_pos small]
    rfl
  · rw [index, State.writeCfgIndex, dif_neg (Nat.not_lt.mpr large)]
    rfl
  · exact s.shadowRecord.bytes_field field
  · have shown : s.shadowByte s.port.cfgIndex = at8 s.regions[n].raw.bytes j.val := by
      have live : s.shadowRecord.regions[n] = s.regions[n].raw := Vector.getElem_map ..
      rw [← live, ← s.shadowRecord.bytes_region, ← region]
      rfl
    rw [shown]
    exact s.regions[n].bytes_raw j
  · exact (congrArg (at8 s.shadowRecord.bytes) crc).trans (s.shadowRecord.bytes_crc k)
  · refine ⟨_, s.shadow.fields.bytes_setByte _ value, ?_⟩
    rw [write, State.writeCfgData, State.editShadow, if_pos ⟨Mode.editsShadow_iff.mpr ⟨notStart, notHalted⟩, editable_iff.mpr place⟩]
    rfl
  · have ignored : ¬ (s.control.mode.editsShadow = true ∧ editable s.port.cfgIndex = true) := by
      rw [Mode.editsShadow_iff, editable_iff]
      tauto
    rw [write, State.writeCfgData, State.editShadow, if_neg ignored]
    rfl

end Sys2Proof.Machine
end

section
/-! PROOFS. The application of a configuration (O40): which regions are replaced, held and clipped, and what becomes of the refresh table. -/

namespace Sys2Proof.Machine

/-! ### Where a region is held back (R145 step 2) -/

theorem leastPage_eq_some {l : List Nat} {m : Nat} : leastPage l = some m ↔ m ∈ l ∧ ∀ p ∈ l, m ≤ p := by
  have least : leastPage l = l.min? := by cases l <;> rfl
  rw [least, List.min?_eq_some_iff]

/-- The pages of FAILED entries with host bytes that a change of the descriptors would tighten. -/
theorem State.mem_heldPages {s : State} {new : Vector Region 8} {p : Nat} :
    p ∈ s.heldPages new ↔ ∃ i : Slot, s.entries[i].state = .failed ∧ s.entries[i].written ≠ 0#512 ∧ s.entries[i].page = some p ∧
      effectiveModeOf s.regions p = .readWrite ∧ effectiveModeOf new p ≠ .readWrite := by
  simp only [State.heldPages, List.mem_filterMap, State.mem_slotsWhere, Bool.and_eq_true, beq_iff_eq, Entry.blocksChange_iff]
  refine exists_congr fun i => ⟨?_, ?_⟩
  · rintro ⟨⟨failed, -, written, q, hq, tightened⟩, hp⟩
    obtain rfl : q = p := Option.some.inj (hq.symm.trans hp)
    exact ⟨failed, written, hp, tightened⟩
  · rintro ⟨failed, written, hp, tightened⟩
    exact ⟨⟨failed, by rw [failed]; nofun, written, p, hp, tightened⟩, hp⟩

/-- The page at which the replacement of a region that is not frozen is held back, where it is. -/
def State.heldAt (loaded : Vector Region 8) (s : State) (n : RegionIndex) : Option Nat :=
  if s.regions[n].frozen then none else leastPage (s.heldPages (s.regions.set n.val loaded[n] n.isLt))

theorem State.isSome_heldAt {loaded : Vector Region 8} {s : State} {n : RegionIndex} :
    (s.heldAt loaded n).isSome = true ↔
      s.regions[n].frozen = false ∧ ∃ p, p ∈ s.heldPages (s.regions.set n.val loaded[n] n.isLt) := by
  unfold State.heldAt
  split
  · rename_i frozen
    exact iff_of_false nofun fun h => absurd h.1 (by rw [frozen]; decide)
  · rename_i live
    rw [Option.isSome_iff_ne_none, ne_eq, leastPage_eq_none, List.eq_nil_iff_forall_not_mem, not_forall_not,
      and_iff_right (Bool.eq_false_iff.mpr live)]

theorem State.heldAt_least {loaded : Vector Region 8} {s : State} {n : RegionIndex} (held : (s.heldAt loaded n).isSome = true) :
    (s.heldAt loaded n).getD 0 ∈ s.heldPages (s.regions.set n.val loaded[n] n.isLt) ∧
      ∀ p ∈ s.heldPages (s.regions.set n.val loaded[n] n.isLt), (s.heldAt loaded n).getD 0 ≤ p := by
  obtain ⟨page, found⟩ := Option.isSome_iff_exists.mp held
  have least : leastPage (s.heldPages (s.regions.set n.val loaded[n] n.isLt)) = some page := by
    rwa [State.heldAt, if_neg (Bool.eq_false_iff.mp (State.isSome_heldAt.mp held).1)] at found
  rw [found]
  exact leastPage_eq_some.mp least

/-! ### One region (R145 steps 1 and 2) -/

theorem State.applyRegion_eq (loaded : Vector Region 8) (s : State) (n : RegionIndex) :
    State.applyRegion loaded s n =
      if s.regions[n].frozen = true then s
      else if (s.heldAt loaded n).isSome = true then
        s.appendEvent (.regionChanged .held n s.regions[n].enabled s.regions[n].mode) (some ((s.heldAt loaded n).getD 0)) none none
      else s.setRegion n loaded[n] := by
  unfold State.applyRegion State.heldAt
  split
  · rfl
  · split
    · rename_i none
      rw [none]
      rfl
    · rename_i held
      rw [held]
      rfl

theorem State.applyRegion_regions (loaded : Vector Region 8) (s : State) (n : RegionIndex) :
    (State.applyRegion loaded s n).regions =
      if s.regions[n].frozen = true ∨ (s.heldAt loaded n).isSome = true then s.regions else s.regions.set n.val loaded[n] n.isLt := by
  rw [State.applyRegion_eq]
  by_cases frozen : s.regions[n].frozen = true
  · rw [if_pos frozen, if_pos (.inl frozen)]
  · rw [if_neg frozen]
    by_cases held : (s.heldAt loaded n).isSome = true
    · rw [if_pos held, if_pos (.inr held)]
      rfl
    · rw [if_neg held, if_neg (not_or.mpr ⟨frozen, held⟩)]
      rfl

theorem State.applyRegion_events (loaded : Vector Region 8) (s : State) (n : RegionIndex) :
    (State.applyRegion loaded s n).events =
      if (s.heldAt loaded n).isSome = true then
        s.events.append (.regionChanged .held n s.regions[n].enabled s.regions[n].mode) (some ((s.heldAt loaded n).getD 0)) none none
      else s.events := by
  rw [State.applyRegion_eq]
  split_ifs with frozen held
  · exact absurd (State.isSome_heldAt.mp held).1 (by rw [frozen]; decide)
  all_goals rfl

/-! ### The regions before one of them (R145 steps 1 and 2) -/

/-- The state once the regions below `k` are decided. -/
def State.regionStage (loaded : Vector Region 8) (s : State) (k : Nat) : State :=
  ((List.finRange 8).take k).foldl (State.applyRegion loaded) s

theorem take_finRange_succ (n : RegionIndex) : (List.finRange 8).take (n.val + 1) = (List.finRange 8).take n.val ++ [n] := by
  rw [← List.take_append_getElem (by rw [List.length_finRange]; exact n.isLt), List.getElem_finRange]
  rfl

theorem not_mem_take_finRange (n : RegionIndex) : n ∉ (List.finRange 8).take n.val := by
  intro mem
  obtain ⟨k, hk, same⟩ := List.mem_take_iff_getElem.mp mem
  rw [List.getElem_finRange] at same
  have index : k = n.val := congrArg Fin.val same
  omega

section
variable (loaded : Vector Region 8)

theorem State.regionStage_succ (s : State) (n : RegionIndex) :
    s.regionStage loaded (n.val + 1) = State.applyRegion loaded (s.regionStage loaded n.val) n := by
  rw [State.regionStage, take_finRange_succ, List.foldl_append]
  rfl

theorem State.regionStage_all (s : State) : s.regionStage loaded 8 = (List.finRange 8).foldl (State.applyRegion loaded) s := by
  rw [State.regionStage, List.take_of_length_le (by rw [List.length_finRange])]

theorem State.foldl_applyRegion_frame (l : List RegionIndex) (s : State) :
    (l.foldl (State.applyRegion loaded) s).entries = s.entries ∧ (l.foldl (State.applyRegion loaded) s).params = s.params ∧
    ∀ m ∉ l, (l.foldl (State.applyRegion loaded) s).regions[m] = s.regions[m] := by
  induction l generalizing s with
  | nil => exact ⟨rfl, rfl, fun _ _ => rfl⟩
  | cons n l ih =>
    obtain ⟨entries, params, regions⟩ := ih (State.applyRegion loaded s n)
    refine ⟨entries.trans (by simp), params.trans (by simp), fun m other => ?_⟩
    obtain ⟨ne, notin⟩ := not_or.mp (mt List.mem_cons.mpr other)
    rw [List.foldl_cons, regions m notin, State.applyRegion_regions]
    split
    · rfl
    · rw [getFin_set, if_neg ne]

theorem State.regionStage_entries (s : State) (k : Nat) : (s.regionStage loaded k).entries = s.entries := by
  obtain ⟨entries, -⟩ := State.foldl_applyRegion_frame loaded ((List.finRange 8).take k) s
  exact entries

theorem State.regionStage_params (s : State) (k : Nat) : (s.regionStage loaded k).params = s.params := by
  obtain ⟨-, params, -⟩ := State.foldl_applyRegion_frame loaded ((List.finRange 8).take k) s
  exact params

/-- A region is as it was until it is decided. -/
theorem State.regionStage_here (s : State) (n : RegionIndex) : (s.regionStage loaded n.val).regions[n] = s.regions[n] := by
  obtain ⟨-, -, regions⟩ := State.foldl_applyRegion_frame loaded ((List.finRange 8).take n.val) s
  exact regions n (not_mem_take_finRange n)

/-- The page at which region `n` is held back when its turn comes. -/
def State.heldInTurn (s : State) (n : RegionIndex) : Option Nat := (s.regionStage loaded n.val).heldAt loaded n

/-- The record of a region that is held back. -/
def State.noteHeld (s : State) (q : EventQueue) (n : RegionIndex) : EventQueue :=
  q.append (.regionChanged .held n s.regions[n].enabled s.regions[n].mode) (some ((s.heldInTurn loaded n).getD 0)) none none

theorem State.regionStage_events (s : State) {k : Nat} (h : k ≤ 8) : (s.regionStage loaded k).events =
    (((List.finRange 8).take k).filter fun n => (s.heldInTurn loaded n).isSome).foldl (s.noteHeld loaded) s.events := by
  induction k with
  | zero => rfl
  | succ k ih =>
    let n : RegionIndex := ⟨k, h⟩
    have step : s.regionStage loaded (k + 1) = State.applyRegion loaded (s.regionStage loaded k) n := s.regionStage_succ loaded n
    have here : (s.regionStage loaded k).regions[n] = s.regions[n] := s.regionStage_here loaded n
    rw [step, State.applyRegion_events, here, take_finRange_succ n, List.filter_append, List.foldl_append, ← ih (by omega),
      List.filter_singleton]
    show (if (s.heldInTurn loaded n).isSome = true then _ else _) = _
    cases (s.heldInTurn loaded n).isSome <;> rfl

end

/-! ### Clipping (R145 step 3) -/

theorem State.clipRegion_get (s : State) (n m : RegionIndex) :
    (s.clipRegion n).regions[m] = if m = n then s.regions[n].clip s.params.windowPages else s.regions[m] := by
  unfold State.clipRegion
  split
  · exact s.setRegion_get n m _
  · rename_i inside
    have inside : s.regions[n].last < s.params.windowPages := by simpa [Region.beyond] using inside
    split
    · subst m
      exact (if_pos inside).symm
    · rfl

/-- The record of a region that is clipped. -/
def noteClipped (rs : Vector Region 8) (q : EventQueue) (n : RegionIndex) : EventQueue :=
  q.append (.regionChanged .clip n rs[n].enabled rs[n].mode) (some rs[n].first) none none

theorem State.clipRegion_events (s : State) (n : RegionIndex) :
    (s.clipRegion n).events =
      if s.params.windowPages ≤ s.regions[n].last then noteClipped (s.clipRegion n).regions s.events n else s.events := by
  unfold noteClipped
  rw [State.clipRegion_get, if_pos rfl]
  unfold State.clipRegion Region.beyond
  simp only [decide_eq_true_eq]
  split <;> rfl

/-- The regions of a list, each clipped with its record where it reaches beyond the window. -/
theorem State.foldl_clipRegion {l : List RegionIndex} (hl : l.Nodup) (s : State) :
    (∀ m : RegionIndex, (l.foldl State.clipRegion s).regions[m] =
      if m ∈ l then s.regions[m].clip s.params.windowPages else s.regions[m]) ∧
    (l.foldl State.clipRegion s).events =
      (l.filter fun n => s.params.windowPages ≤ s.regions[n].last).foldl (noteClipped (l.foldl State.clipRegion s).regions) s.events := by
  induction l generalizing s with
  | nil => exact ⟨fun _ => rfl, rfl⟩
  | cons n l ih =>
    obtain ⟨notin, hl⟩ := List.nodup_cons.mp hl
    obtain ⟨regions, events⟩ := ih hl (s.clipRegion n)
    have params : (s.clipRegion n).params = s.params := by simp
    have later (m : RegionIndex) (hm : m ∈ l) : (s.clipRegion n).regions[m] = s.regions[m] := by
      rw [State.clipRegion_get, if_neg (ne_of_mem_of_not_mem hm notin)]
    refine ⟨fun m => ?_, ?_⟩
    · rw [List.foldl_cons, regions, params, State.clipRegion_get]
      by_cases here : m = n
      · subst m
        rw [if_neg notin, if_pos rfl, if_pos List.mem_cons_self]
      · rw [if_neg here]
        simp only [List.mem_cons, here, false_or]
    · have same : (l.filter fun m => (s.clipRegion n).params.windowPages ≤ (s.clipRegion n).regions[m].last) =
          l.filter fun m => s.params.windowPages ≤ s.regions[m].last :=
        List.filter_congr fun m hm => by rw [params, later m hm]
      have here : (l.foldl State.clipRegion (s.clipRegion n)).regions[n] = (s.clipRegion n).regions[n] := by
        rw [regions, if_neg notin]
      have note (q : EventQueue) : noteClipped (l.foldl State.clipRegion (s.clipRegion n)).regions q n =
          noteClipped (s.clipRegion n).regions q n := by
        rw [noteClipped, here, noteClipped]
      rw [List.foldl_cons, events, same, List.filter_cons, State.clipRegion_events]
      by_cases beyond : s.params.windowPages ≤ s.regions[n].last
      · rw [if_pos beyond, if_pos (decide_eq_true beyond), List.foldl_cons, note]
      · rw [if_neg beyond, if_neg (by simpa using beyond)]

/-- The order in which the regions are clipped (log entry 39). -/
def State.clipOrder (s : State) : List RegionIndex := arrange (Config.clipOrder s.freeIndex) (List.finRange 8)

theorem State.nodup_clipOrder (s : State) : s.clipOrder.Nodup :=
  (List.perm_insertionSort _ _).nodup_iff.mpr (List.nodup_finRange 8)

theorem State.mem_clipOrder (s : State) (n : RegionIndex) : n ∈ s.clipOrder :=
  (List.perm_insertionSort _ _).mem_iff.mpr (List.mem_finRange n)

/-! ### The eight regions (R145) -/

theorem State.applyRegions_eq (s : State) (loaded : Vector Region 8) :
    s.applyRegions loaded = (s.clipOrder.foldl State.clipRegion (s.regionStage loaded 8)).spendFree := by
  rw [State.applyRegions, ← State.regionStage_all]
  rfl

theorem State.applyRegions_get (s : State) (loaded : Vector Region 8) (n : RegionIndex) :
    (s.applyRegions loaded).regions[n] = (s.regionStage loaded 8).regions[n].clip s.params.windowPages := by
  obtain ⟨clips, -⟩ := State.foldl_clipRegion s.nodup_clipOrder (s.regionStage loaded 8)
  rw [State.applyRegions_eq]
  refine (clips n).trans ?_
  rw [if_pos (s.mem_clipOrder n), State.regionStage_params]

/-- The HELD records come in number order, and the CLIP records after them in the order of clipping. -/
theorem State.applyRegions_events (s : State) (loaded : Vector Region 8) : (s.applyRegions loaded).events =
    (s.clipOrder.filter fun n => s.params.windowPages ≤ (s.regionStage loaded 8).regions[n].last).foldl
      (noteClipped (s.applyRegions loaded).regions)
      (((List.finRange 8).filter fun n => (s.heldInTurn loaded n).isSome).foldl (s.noteHeld loaded) s.events) := by
  obtain ⟨-, records⟩ := State.foldl_clipRegion s.nodup_clipOrder (s.regionStage loaded 8)
  have held := s.regionStage_events loaded (le_refl 8)
  rw [List.take_of_length_le (by rw [List.length_finRange])] at held
  rw [State.regionStage_params, held] at records
  rw [State.applyRegions_eq]
  exact records

theorem State.applyRegions_applied (s : State) (loaded : Vector Region 8) :
    s.RegionsApplied loaded s.params.windowPages s.events (s.applyRegions loaded) := by
  refine ⟨fun k => (s.regionStage loaded k).regions, (List.finRange 8).filter fun n => (s.heldInTurn loaded n).isSome,
    s.clipOrder.filter fun n => s.params.windowPages ≤ (s.regionStage loaded 8).regions[n].last,
    fun n => (s.heldInTurn loaded n).getD 0, rfl, fun n => ?_, (List.pairwise_lt_finRange 8).filter _, s.nodup_clipOrder.filter _,
    fun n => ?_, s.applyRegions_get loaded, s.applyRegions_events loaded⟩
  · intro trial stops
    have member : n ∈ ((List.finRange 8).filter fun n => (s.heldInTurn loaded n).isSome) ↔ (s.heldInTurn loaded n).isSome = true := by
      rw [List.mem_filter, and_iff_right (List.mem_finRange n)]
    have stopped (p : Nat) : p ∈ (s.regionStage loaded n.val).heldPages trial ↔ stops p := by
      rw [State.mem_heldPages, State.regionStage_entries]
    have here := s.regionStage_here loaded n
    refine ⟨?_, fun held => ?_, ?_⟩
    · rw [member, State.heldInTurn, State.isSome_heldAt, here]
      exact and_congr_right fun _ => exists_congr stopped
    · obtain ⟨stop, least⟩ := State.heldAt_least (member.mp held)
      exact ⟨(stopped _).mp stop, fun p hp => least p ((stopped p).mpr hp)⟩
    · refine .trans ?_ (if_congr (or_congr_right member) rfl rfl).symm
      show (s.regionStage loaded (n.val + 1)).regions = _
      rw [State.regionStage_succ, State.applyRegion_regions, here]
      rfl
  · rw [List.mem_filter, and_iff_right (s.mem_clipOrder n), decide_eq_true_eq]

/-! ### The refresh table (R157, R158) -/

theorem Refresh.adjust_record (t : Refresh) {sectors sector : Nat} (interval : Nat) (h : sector < sectors) :
    (t.adjust sectors interval).records[sector]? =
      some (RefreshRecord.recount interval (t.records[sector]?.getD RefreshRecord.initial)) := by
  rw [Refresh.adjust, List.getElem?_map, List.getElem?_append, List.length_take, List.getElem?_take_of_lt h]
  split
  · rename_i old
    rw [List.getElem?_eq_getElem (by omega)]
    rfl
  · rename_i new
    rw [List.getElem?_replicate_of_lt (by omega), List.getElem?_eq_none (by omega)]
    rfl

theorem State.refreshApplied_table (s : State) : s.TableApplied s.params.windowPages s.params.refreshInterval s.refreshApplied := by
  refine ⟨fun created => ?_, fun reinit => ?_⟩
  · rw [State.refreshApplied, if_neg created]
    rfl
  · refine ⟨?_, s.refreshApplied_sectors, fun sector inWindow => ?_⟩
    all_goals rw [State.refreshApplied, if_pos reinit]
    · rfl
    · exact Refresh.adjust_record _ _ inWindow

/-! ### The record (R178, R179) -/

theorem State.RegionsApplied.congr {s s' t t' : State} {loaded : Vector Region 8} {window : Nat} {before : EventQueue}
    (h : s.RegionsApplied loaded window before t) (entries : s'.entries = s.entries) (was : s'.regions = s.regions)
    (regions : t'.regions = t.regions) (events : t'.events = t.events) : s'.RegionsApplied loaded window before t' := by
  unfold State.RegionsApplied at *
  rwa [entries, was, regions, events]

theorem State.TableApplied.congr {s s' t t' : State} {window interval : Nat} (h : s.TableApplied window interval t)
    (startKind : s'.sequencer.startKind = s.sequencer.startKind) (was : s'.refresh = s.refresh) (refresh : t'.refresh = t.refresh) :
    s'.TableApplied window interval t' := by
  unfold State.TableApplied at *
  rwa [startKind, was, refresh]

theorem State.applyRecord_applied (s : State) (source : Source) (r : ConfigRecord) :
    (s.applyRecord source r).params = r.fields.params ∧ (s.applyRecord source r).shadow = { fields := r.fields, crc := r.crc } ∧
    (s.applyRecord source r).sequencer = s.sequencer.loaded source r.fields.sequence ∧
    s.RegionsApplied (r.regions.map RawRegion.region) r.fields.windowPages.toNat s.events (s.applyRecord source r) ∧
    s.TableApplied r.fields.windowPages.toNat r.fields.refreshInterval.toNat (s.applyRecord source r) := by
  let u := s.setParams r.fields.params
  let v := u.applyRegions (r.regions.map RawRegion.region)
  have regions := u.applyRegions_applied (r.regions.map RawRegion.region)
  have table := v.refreshApplied_table
  rw [show v.params = r.fields.params by simp [v, u]] at table
  refine ⟨?_, rfl, rfl, regions.congr rfl rfl ?_ ?_, table.congr ?_ ?_ ?_⟩
  all_goals simp [State.applyRecord, v, u]

theorem State.noteDefaults_defaults {s : State} {a b : BadReason} (verdictA : s.sequencer.verdictA = some (.bad a))
    (verdictB : s.sequencer.verdictB = some (.bad b)) : s.noteDefaults = s.appendEvent (.configDefaults a b) none none none := by
  rw [State.noteDefaults, verdictA, verdictB]

theorem State.noteDefaults_loaded {s : State} {r : ConfigRecord}
    (found : s.sequencer.verdictA = some (.valid r) ∨ s.sequencer.verdictB = some (.valid r)) : s.noteDefaults = s := by
  unfold State.noteDefaults
  split
  · rename_i a b
    rw [a, b] at found
    rcases found with found | found <;> cases found
  · rfl

theorem State.applyConfiguration_loaded {s : State} {c : Copy} {r : ConfigRecord}
    (chosen : chosenCopy s.sequencer.verdictA s.sequencer.verdictB = some (c, r)) : s.applyConfiguration = s.applyRecord c.source r := by
  rw [State.applyConfiguration, chosen, State.noteDefaults_loaded (chosenCopy_found chosen)]
  rfl

/-- Settles O40: the choice of the record, and then its application, part by part. -/
theorem applicationOfTheConfiguration : Obligations.ApplicationOfTheConfiguration := by
  unfold Obligations.ApplicationOfTheConfiguration
  intro s pages start phase pending size applies
  have run : exec .apply s = .next s.applyConfiguration := congrArg _ (if_pos ⟨State.inPhase_of start phase, pending⟩)
  have loaded {c : Copy} {r : ConfigRecord} (chosen : chosenCopy s.sequencer.verdictA s.sequencer.verdictB = some (c, r)) :
      applies c.source r s.events := by
    rw [State.applyConfiguration_loaded chosen] at run
    exact ⟨_, run, by simp, by simp, s.applyRecord_applied c.source r⟩
  refine ⟨fun ra rb a b => ⟨fun above => loaded (c := .a) ?_, fun below => loaded (c := .b) ?_⟩, fun ra b va vb => loaded (c := .a) ?_,
    fun a rb va vb => loaded (c := .b) ?_, fun a b va vb => ?_⟩
  · rw [a, b]
    exact if_neg (Nat.not_lt.mpr above)
  · rw [a, b]
    exact if_pos below
  · rw [va, vb]
    rfl
  · rw [va, vb]
    rfl
  · have defaults : s.applyConfiguration =
        (s.appendEvent (.configDefaults a b) none none none).applyRecord .default (ConfigRecord.default pages) := by
      rw [State.applyConfiguration, State.noteDefaults_defaults va vb, va, vb, size]
      rfl
    rw [defaults] at run
    obtain ⟨params, shadow, sequencer, regions, table⟩ :=
      (s.appendEvent (.configDefaults a b) none none none).applyRecord_applied .default (ConfigRecord.default pages)
    exact ⟨_, run, by simp, by simp, params, shadow, sequencer, regions.congr rfl rfl rfl rfl, table.congr rfl rfl rfl⟩

end Sys2Proof.Machine
end

section
/-! PROOFS. The step of the refresh scheduler (O33): the sector that the search reaches first, the page of its step, and the two outcomes. -/

namespace Sys2Proof.Machine

/-! ### The search from the scan pointer round (R151) -/

theorem range'_append_range_eq_rotate {scan length : Nat} (h : scan ≤ length) :
    List.range' scan (length - scan) ++ List.range scan = (List.range length).rotate scan := by
  rw [List.rotate_eq_drop_append_take (by simpa using h), List.take_range, Nat.min_eq_left h, List.range_eq_range' (n := length),
    List.drop_range']
  simp

/-- How far the search goes from the scan pointer before it comes to a sector. -/
def Refresh.searchDistance (t : Refresh) (sector : Nat) : Nat := (sector + t.records.length - t.scan) % t.records.length

/-- The sector that the search comes to after a number of others. -/
def Refresh.searched (t : Refresh) (distance : Nat) : Nat := (distance + t.scan) % t.records.length

section
variable {t : Refresh} (pointer : t.scan < t.records.length)
include pointer

theorem Refresh.searchDistance_lt (sector : Nat) : t.searchDistance sector < t.records.length :=
  Nat.mod_lt _ (Nat.zero_lt_of_lt pointer)

theorem Refresh.searched_searchDistance {sector : Nat} (h : sector < t.records.length) : t.searched (t.searchDistance sector) = sector := by
  rw [Refresh.searched, Refresh.searchDistance, Nat.mod_add_mod, Nat.sub_add_cancel (by omega), Nat.add_mod_right, Nat.mod_eq_of_lt h]

theorem Refresh.searchDistance_searched {distance : Nat} (h : distance < t.records.length) :
    t.searchDistance (t.searched distance) = distance := by
  rw [Refresh.searched, Refresh.searchDistance, Nat.add_sub_assoc pointer.le, Nat.mod_add_mod,
    show distance + t.scan + (t.records.length - t.scan) = distance + t.records.length by omega, Nat.add_mod_right, Nat.mod_eq_of_lt h]

end

theorem State.sectorPending_iff {s : State} {sector : Nat} :
    s.sectorPending sector = true ↔ ∃ r, s.refresh.records[sector]? = some r ∧ r.pending = true := by
  rw [State.sectorPending]
  cases s.refresh.records[sector]? <;> simp

theorem State.nextPending_eq_some {s : State} {sector : Nat} (pointer : s.refresh.scan < s.refresh.records.length)
    (pending : s.sectorPending sector = true)
    (first : ∀ n, s.sectorPending n = true → s.refresh.searchDistance sector ≤ s.refresh.searchDistance n) :
    s.nextPending = some sector := by
  obtain ⟨r, record, _⟩ := State.sectorPending_iff.mp pending
  have inside : sector < s.refresh.records.length := (List.getElem?_eq_some_iff.mp record).1
  have within := Refresh.searchDistance_lt pointer sector
  rw [State.nextPending, range'_append_range_eq_rotate pointer.le, List.find?_eq_some_iff_getElem]
  refine ⟨pending, s.refresh.searchDistance sector, by simpa using within, ?_, fun d earlier => ?_⟩
  · simpa [List.getElem_rotate, Refresh.searched] using Refresh.searched_searchDistance pointer inside
  · have clear : ¬ s.sectorPending (s.refresh.searched d) = true := fun h => by
      have later := first _ h
      rw [Refresh.searchDistance_searched pointer (earlier.trans within)] at later
      omega
    simpa [List.getElem_rotate, Refresh.searched] using clear

/-! ### One step for the chosen sector (R150, R152) -/

theorem State.mayRefresh_iff {s : State} :
    s.mayRefresh = true ↔ s.control.mode = .running ∧ s.params.refreshInterval ≠ 0 ∧ 4 ≤ s.freeCount := by
  simp [State.mayRefresh, and_assoc]

theorem State.pageStaged_iff {s : State} {page : Nat} :
    s.pageStaged page = true ↔ ∃ j : Slot, s.entries[j].state ≠ .free ∧ s.entries[j].page = some page := by
  simp [State.pageStaged, State.firstSlot]

theorem State.refreshPage_of_record {s : State} {sector : Nat} {r : RefreshRecord} (h : s.refresh.records[sector]? = some r) :
    s.refreshPage sector = sector * 64 + r.cursor.val := by
  simp [State.refreshPage, h]

theorem State.scanAfter_of_lt {s : State} {sector : Nat} (h : sector < s.refresh.records.length) :
    s.scanAfter sector = if sector + 1 = s.refresh.records.length then 0 else sector + 1 := by
  rw [State.scanAfter]
  split <;> split <;> omega

/-- The table after a step for a sector with record `r` (R151, R152). -/
def Refresh.stepped (t : Refresh) (sector : Nat) (r : RefreshRecord) : Refresh where
  records := t.records.set sector { r with cursor := r.cursor + 1, pending := false }
  scan := if sector + 1 = t.records.length then 0 else sector + 1

theorem State.advanceRefresh_of_record {s : State} {sector : Nat} {r : RefreshRecord} (h : s.refresh.records[sector]? = some r) :
    s.advanceRefresh sector = s.setRefresh (s.refresh.stepped sector r) := by
  rw [State.advanceRefresh, State.scanAfter_of_lt (List.getElem?_eq_some_iff.mp h).1, List.modify_eq_set_getElem?, h]
  rfl

section
variable {s : State} {sector : Nat} {r : RefreshRecord} (record : s.refresh.records[sector]? = some r)
include record

theorem State.refreshSector_satisfied
    (staged : ∃ j : Slot, s.entries[j].state ≠ .free ∧ s.entries[j].page = some (sector * 64 + r.cursor.val)) :
    s.refreshSector sector = s.setRefresh (s.refresh.stepped sector r) := by
  rw [State.refreshSector, State.refreshPage_of_record record, if_pos (State.pageStaged_iff.mpr staged),
    State.advanceRefresh_of_record record]

theorem State.refreshSector_allocated {i : Slot} (slot : s.freeSlot = some i)
    (alone : ∀ j : Slot, s.entries[j].page = some (sector * 64 + r.cursor.val) → s.entries[j].state = .free) :
    s.refreshSector sector =
      (s.allocRefresh i (sector * 64 + r.cursor.val)).setRefresh (s.refresh.stepped sector r) := by
  have unstaged : ¬ s.pageStaged (sector * 64 + r.cursor.val) = true := fun staged => by
    obtain ⟨j, used, page⟩ := State.pageStaged_iff.mp staged
    exact used (alone j page)
  rw [State.refreshSector, State.refreshPage_of_record record, if_neg unstaged, slot]
  exact State.advanceRefresh_of_record (s := s.allocRefresh i _) record

end

theorem execRefreshStep_eq {s : State} {sector : Nat} (may : s.mayRefresh = true) (next : s.nextPending = some sector) :
    execRefreshStep s = .next (s.refreshSector sector) := by
  rw [execRefreshStep, if_pos may, next]

/-- Settles O33: the search comes to the sector first, and its page is either staged already or allocated in the lowest FREE slot. -/
theorem refreshServesTheNextPendingSector : Obligations.RefreshServesTheNextPendingSector := by
  unfold Obligations.RefreshServesTheNextPendingSector
  intro s sector r i running interval reserve pointer record pending nearest free lowest
  have next : s.nextPending = some sector := by
    refine State.nextPending_eq_some pointer (State.sectorPending_iff.mpr ⟨r, record, pending⟩) fun n h => ?_
    obtain ⟨x, recorded, owed⟩ := State.sectorPending_iff.mp h
    exact nearest n x recorded owed
  have run : exec .refreshStep s = .next (s.refreshSector sector) :=
    execRefreshStep_eq (State.mayRefresh_iff.mpr ⟨running, interval, reserve⟩) next
  refine ⟨fun staged => ?_, fun alone => ?_⟩
  · rw [run, State.refreshSector_satisfied record staged]
    rfl
  · rw [run, State.refreshSector_allocated record (State.freeSlot_eq_some.mpr ⟨free, lowest⟩) alone]
    rfl

end Sys2Proof.Machine
end

section
/-! PROOFS. PFAIL and REINIT where no drain starts (O35), the end of a drain (O36) and of a start-up (O41), and the changes of mode (O52). -/

namespace Sys2Proof.Machine

/-! ### A change of PFAIL and a REINIT claim that are taken (R160, R164, R165) -/

theorem exec_pfailAssertion {s : State} (out : s.resetAsserted = false) (low : s.control.pfail = false) :
    exec .pfailAssertion s = .next s.pfailAsserts :=
  congrArg _ (if_neg (by simp [out, low]))

theorem exec_pfailDeassertion {s : State} (out : s.resetAsserted = false) (high : s.control.pfail = true) :
    exec .pfailDeassertion s = .next s.pfailDeasserts :=
  congrArg _ (if_neg (by simp [out, high]))

theorem exec_reinitClaim {s : State} (claimed : s.control.reinitClaimed = true) : exec .reinitClaim s = .next s.takeReinitClaim :=
  congrArg _ (if_pos claimed)

theorem State.pfailAsserts_of_running {s : State} (running : s.control.mode = .running) :
    s.pfailAsserts = (s.setPfail true).drainStart .pfail := by
  rw [State.pfailAsserts, running]

theorem State.pfailAsserts_of_drain {s : State} (drain : s.control.mode = .drain) :
    s.pfailAsserts = s.setControl { s.control with pfail := true, drainCause := some .pfail } := by
  rw [State.pfailAsserts, drain]

theorem State.pfailAsserts_of_idle {s : State} (idle : s.control.mode = .start ∨ s.control.mode = .drained ∨ s.control.mode = .halted) :
    s.pfailAsserts = s.setPfail true := by
  rcases idle with mode | mode | mode <;> rw [State.pfailAsserts, mode]

theorem State.pfailDeasserts_of_drained {s : State} (drained : s.control.mode = .drained) :
    s.pfailDeasserts = ((s.setPfail false).appendEvent (.drainRecovered s.control.reinitPending) none none none).leaveDrain :=
  if_pos drained

theorem State.takeReinitClaim_of_running {s : State} (running : s.control.mode = .running) :
    s.takeReinitClaim = (s.setControl { s.control with reinitClaimed := false, reinitPending := true }).drainStart .reinit := by
  rw [State.takeReinitClaim, running]

theorem State.takeReinitClaim_of_drain {s : State} (mode : s.control.mode = .drain ∨ s.control.mode = .drained) :
    s.takeReinitClaim = s.setControl { s.control with reinitClaimed := false, reinitPending := true } := by
  rcases mode with mode | mode <;> rw [State.takeReinitClaim, mode]

theorem State.takeReinitClaim_of_halted {s : State} (halted : s.control.mode = .halted) :
    s.takeReinitClaim = (s.setControl { s.control with reinitClaimed := false }).endReinit .failed := by
  rw [State.takeReinitClaim, halted]

/-- The table of R164 has no row for START; the model leaves the claim as it is there. -/
theorem State.takeReinitClaim_of_start {s : State} (start : s.control.mode = .start) : s.takeReinitClaim = s := by
  rw [State.takeReinitClaim, start]

/-! ### Where a drain leads (R166, R167) and how a REINIT ends (R179, R189) -/

theorem State.leaveDrain_of_pending {s : State} (pending : s.control.reinitPending = true) : s.leaveDrain = s.beginReinitStart :=
  if_pos pending

theorem State.leaveDrain_of_not_pending {s : State} (clear : s.control.reinitPending = false) : s.leaveDrain = s.backToRunning :=
  if_neg (by rw [clear]; nofun)

theorem State.endReinit_eq (s : State) (r : CmdResult) : s.endReinit r = { s with
    command := if s.command.busy = true ∧ s.command.last = some .reinit then { s.command with busy := false, result := r, detail := 0 }
      else s.command } := by
  rw [State.endReinit]
  by_cases reinit : s.running .reinit = true
  · rw [if_pos reinit, if_pos (State.running_iff.mp reinit)]
    rfl
  · rw [if_neg reinit, if_neg (mt State.running_iff.mpr reinit)]

/-- Settles O35: in each mode but RUNNING the level, the claim and the end of DRAINED are as the mode's row says. -/
theorem pfailAndReinitOutsideADrainStart : Obligations.PfailAndReinitOutsideADrainStart := by
  unfold Obligations.PfailAndReinitOutsideADrainStart
  refine ⟨fun s out => ⟨fun low drain => ?_, fun low idle => ?_, fun high notDrained => ?_⟩, fun s out high drained => ?_,
    fun s claimed => ⟨fun mode => ?_, fun halted busy last => ?_⟩⟩
  · rw [exec_pfailAssertion out low, State.pfailAsserts_of_drain drain]
    rfl
  · rw [exec_pfailAssertion out low, State.pfailAsserts_of_idle idle]
    rfl
  · rw [exec_pfailDeassertion out high, State.pfailDeasserts, if_neg notDrained]
    rfl
  · rw [exec_pfailDeassertion out high, State.pfailDeasserts_of_drained drained]
    refine ⟨fun clear => ?_, fun pending => ?_⟩
    · rw [State.leaveDrain_of_not_pending (s := (s.setPfail false).appendEvent _ _ _ _) clear, clear]
      rfl
    · rw [State.leaveDrain_of_pending (s := (s.setPfail false).appendEvent _ _ _ _) pending, pending]
      rfl
  · rw [exec_reinitClaim claimed, State.takeReinitClaim_of_drain mode]
    rfl
  · have reinit : (s.setControl { s.control with reinitClaimed := false }).running .reinit = true := State.running_iff.mpr ⟨busy, last⟩
    rw [exec_reinitClaim claimed, State.takeReinitClaim_of_halted halted, State.endReinit, if_pos reinit]
    rfl

/-! ### The end of a drain and of a start-up -/

theorem exec_drainCompletion {s : State} (drain : s.control.mode = .drain)
    (done : ∀ i : Slot, s.entries[i].state ≠ .sealed ∧ s.entries[i].state ≠ .committing) :
    exec .drainCompletion s = .next s.completeDrain :=
  congrArg _ (if_pos ⟨drain, State.drained_iff.mpr done⟩)

section
variable {s : State} {cause : DrainCause} (caused : s.control.drainCause = some cause)
include caused

theorem State.completeDrain_of_asserted (high : s.control.pfail = true) :
    s.completeDrain = (s.appendEvent (.drainEnd s.failedCount cause) none none none).setMode .drained := by
  rw [State.completeDrain, caused]
  exact if_pos high

theorem State.completeDrain_of_deasserted (low : s.control.pfail = false) :
    s.completeDrain = (s.appendEvent (.drainEnd s.failedCount cause) none none none).leaveDrain := by
  rw [State.completeDrain, caused]
  exact if_neg (by rw [low]; nofun)

end

/-- Settles O36: after DRAIN_END the PFAIL level decides first, then reinit-pending. -/
theorem drainCompletionChoosesTheMode : Obligations.DrainCompletionChoosesTheMode := by
  unfold Obligations.DrainCompletionChoosesTheMode
  intro s cause drain caused done ended
  rw [exec_drainCompletion drain done]
  refine ⟨fun high => ?_, fun low pending => ?_, fun low clear => ?_⟩
  · rw [State.completeDrain_of_asserted caused high]
    rfl
  · rw [State.completeDrain_of_deasserted caused low, State.leaveDrain_of_pending (s := s.appendEvent _ _ _ _) pending]
    rfl
  · rw [State.completeDrain_of_deasserted caused low, State.leaveDrain_of_not_pending (s := s.appendEvent _ _ _ _) clear]
    rfl

/-- Settles O41: the application is behind, and the source, kind and sequence stand in the sequencer's record. -/
theorem startUpEndsInRunning : Obligations.StartUpEndsInRunning := by
  unfold Obligations.StartUpEndsInRunning
  intro s source kind sequence start phase applied loaded started numbered
  have run : exec .startComplete s = .next s.completeStart := congrArg _ (if_pos ⟨State.inPhase_of start phase, applied⟩)
  rw [run, State.completeStart, State.endReinit_eq, loaded, started, numbered]
  rfl

/-! ### The changes of mode (R159) -/

theorem modeChange_of_eq {a b : Mode} (h : b = a) : modeChange a b = true := by
  subst h
  cases b <;> rfl

/-- HALTED can be entered from every mode (R169). -/
theorem modeChange_to_halted {a b : Mode} (h : b = .halted) : modeChange a b = true := by
  subst h
  cases a <;> rfl

theorem State.modeChange_drainStart {s : State} (running : s.control.mode = .running) (t : State) (cause : DrainCause) :
    modeChange s.control.mode (t.drainStart cause).control.mode = true := by
  rw [running, State.drainStart_control]
  rfl

theorem State.modeChange_leaveDrain {s : State} (mode : s.control.mode = .drain ∨ s.control.mode = .drained) (t : State) :
    modeChange s.control.mode t.leaveDrain.control.mode = true := by
  rcases t.leaveDrain_control.2 with next | next <;> rcases mode with mode | mode <;> rw [mode, next] <;> rfl

theorem State.modeChange_pfailAsserts (s : State) : modeChange s.control.mode s.pfailAsserts.control.mode = true := by
  cases mode : s.control.mode with
  | running => rw [State.pfailAsserts_of_running mode, ← mode]; exact State.modeChange_drainStart mode _ _
  | drain => rw [State.pfailAsserts_of_drain mode]; exact modeChange_of_eq mode
  | start => rw [State.pfailAsserts_of_idle (.inl mode)]; exact modeChange_of_eq mode
  | drained => rw [State.pfailAsserts_of_idle (.inr (.inl mode))]; exact modeChange_of_eq mode
  | halted => rw [State.pfailAsserts_of_idle (.inr (.inr mode))]; exact modeChange_of_eq mode

theorem State.modeChange_takeReinitClaim (s : State) : modeChange s.control.mode s.takeReinitClaim.control.mode = true := by
  cases mode : s.control.mode with
  | running => rw [State.takeReinitClaim_of_running mode, ← mode]; exact State.modeChange_drainStart mode _ _
  | drain => rw [State.takeReinitClaim_of_drain (.inl mode)]; exact modeChange_of_eq mode
  | drained => rw [State.takeReinitClaim_of_drain (.inr mode)]; exact modeChange_of_eq mode
  | halted => rw [State.takeReinitClaim_of_halted mode, State.endReinit_eq]; exact modeChange_of_eq mode
  | start => rw [State.takeReinitClaim_of_start mode]; exact modeChange_of_eq mode

theorem State.modeChange_pfailDeasserts (s : State) : modeChange s.control.mode s.pfailDeasserts.control.mode = true := by
  by_cases drained : s.control.mode = .drained
  · rw [State.pfailDeasserts_of_drained drained]
    exact State.modeChange_leaveDrain (.inr drained) _
  · rw [State.pfailDeasserts, if_neg drained]
    exact modeChange_of_eq rfl

theorem State.modeChange_completeDrain {s : State} (drain : s.control.mode = .drain) :
    modeChange s.control.mode s.completeDrain.control.mode = true := by
  simp only [State.completeDrain]
  split
  · rw [drain]; rfl
  · exact State.modeChange_leaveDrain (.inl drain) _

theorem State.modeChange_completeStart {s : State} (start : s.control.mode = .start) :
    modeChange s.control.mode s.completeStart.control.mode = true := by
  rw [State.completeStart, State.endReinit_eq, start]
  rfl

theorem State.modeChange_takeSize (s : State) (asize : BitVec 3) :
    modeChange s.control.mode (s.takeSize asize).control.mode = true := by
  unfold State.takeSize
  split
  · exact modeChange_of_eq rfl
  · exact modeChange_to_halted (by rw [State.enterHalted_control])

theorem State.modeChange_onPort {s : State} {f : State → State} (h : (f s).control.mode = s.control.mode) :
    modeChange s.control.mode (s.onPort f).control.mode = true := by
  unfold State.onPort
  split
  · exact modeChange_of_eq h
  · exact modeChange_of_eq rfl

/-- A command that runs under a condition changes the mode as R159 lists, where it does so under the condition. -/
theorem modeChange_ite {s t : State} {p : Prop} [Decidable p] (h : p → modeChange s.control.mode t.control.mode = true) :
    modeChange s.control.mode (if p then t else s).control.mode = true := by
  split
  · exact h ‹_›
  · exact modeChange_of_eq rfl

/-- Every command but the resets: the mode controller, the sample of ASIZE, the end of a start-up and the loss of the device change the mode, and each
from the modes of its row alone. -/
theorem exec_modeChange {c : Instr} {s t : State} (hc : isReset c = false) (h : exec c s = .next t) :
    modeChange s.control.mode t.control.mode = true := by
  cases c with
  | powerOn | resetNAssertion | resetNDeassertion => cases hc
  | resetWaitTimerExpiry => cases h; exact modeChange_ite fun _ => modeChange_to_halted s.linkDown_control.1
  | deferredDrainStart => cases h; exact modeChange_ite fun ready => State.modeChange_drainStart ready.1 s _
  | reinitClaim => cases h; exact modeChange_ite fun _ => s.modeChange_takeReinitClaim
  | drainCompletion => cases h; exact modeChange_ite fun ready => State.modeChange_completeDrain ready.1
  | size asize => cases h; exact modeChange_ite fun _ => s.modeChange_takeSize asize
  | startComplete => cases h; exact modeChange_ite fun ready => State.modeChange_completeStart (State.inPhase_iff.mp ready.1).1
  | pfailAssertion =>
    cases h
    split
    · exact modeChange_of_eq rfl
    · exact s.modeChange_pfailAsserts
  | pfailDeassertion =>
    cases h
    split
    · exact modeChange_of_eq rfl
    · exact s.modeChange_pfailDeasserts
  | reinit => cases h; exact State.modeChange_onPort (s.commandOwner_control .reinit).1
  | unknownCommand code => cases h; exact State.modeChange_onPort (s.writeEffect_control _ _).1
  | registerWrite value => cases h; exact State.modeChange_onPort (s.writeEffect_control _ _).1
  | _ => exact modeChange_of_eq (congrArg ModeController.mode ((exec_quiet h).control rfl))

theorem step_of_empty {s : State} (empty : s.pending = []) : step s = .next s.tick := by
  rw [step, empty]

/-- Settles O52: each command in its modes (`exec_modeChange`); a tick leaves the mode controller, and both edges of RESET_N and power-on enter START. -/
theorem modeChangesAreTheListedOnes : Obligations.ModeChangesAreTheListedOnes := by
  unfold Obligations.ModeChangesAreTheListedOnes
  refine ⟨fun c s t noPower noAssertion noDeassertion h => exec_modeChange ?_ h, fun s t empty h => ?_, fun p m s t h => ?_,
    fun s t out h => ?_, fun p m s t asserted h => ?_⟩
  · cases c with
    | powerOn p m => exact absurd rfl (noPower p m)
    | resetNAssertion => exact absurd rfl noAssertion
    | resetNDeassertion p m => exact absurd rfl (noDeassertion p m)
    | _ => rfl
  · rw [step_of_empty empty] at h
    cases h
    rfl
  · cases h
    rfl
  · cases h
    rw [if_neg (by rw [out]; nofun)]
    rfl
  · cases h
    rw [if_pos asserted]
    rfl

end Sys2Proof.Machine
end

section
/-! PROOFS. The READ of a configuration copy (O38), and the checks that make a copy VALID (O39). -/

namespace Sys2Proof.Machine

/-! ### The bytes of a copy come to the sequencer (R57, R175) -/

/-- A READ of as many bytes as the device returns hands them to its owner. -/
theorem exec_readCompletion {s : State} {addr : Nat} {bytes : List Byte} (inFlight : s.link.inFlight = some (.read addr bytes.length)) :
    exec (.readCompletion bytes) s = .next (State.deliver { s with link := s.link.afterRead } s.link.owner bytes) := by
  have run : exec (.readCompletion bytes) s = .next (match s.link.inFlight with
    | some (.read _ count) => if bytes.length = count then (s.setLink s.link.readEnded).deliver s.link.owner bytes else s
    | _ => s) := rfl
  rw [run, inFlight]
  exact congrArg _ (if_pos rfl)

theorem State.judgeCopy_valid (s : State) (c : Copy) (r : ConfigRecord) : s.judgeCopy c (.valid r) = s := rfl

theorem State.judgeCopy_bad {s : State} {pages : Nat} (size : s.sequencer.deviceSize = some pages) (c : Copy) (reason : BadReason) :
    s.judgeCopy c (.bad reason) = s.appendEvent (.configCopyBad c reason) (some (copyPage pages c)) none none := by
  rw [State.judgeCopy, size, Option.getD_some]

theorem State.copyRead_of_readA {s : State} {pages : Nat} (size : s.sequencer.deviceSize = some pages) (phase : s.sequencer.phase = .readA)
    (bytes : List Byte) : s.copyRead bytes = (s.judgeCopy .a (validate pages bytes)).setSequencer
      { s.sequencer with verdictA := some (validate pages bytes), phase := .readB } := by
  simp only [State.copyRead, phase, size, Option.getD_some]

theorem State.copyRead_of_readB {s : State} {pages : Nat} (size : s.sequencer.deviceSize = some pages) (phase : s.sequencer.phase = .readB)
    (bytes : List Byte) : s.copyRead bytes = (s.judgeCopy .b (validate pages bytes)).setSequencer
      { s.sequencer with verdictB := some (validate pages bytes), phase := .apply } := by
  simp only [State.copyRead, phase, size, Option.getD_some]

/-- Settles O38: the sequencer owns the READ, and the verdict decides whether there is an event. -/
theorem copyReadGivesItsVerdict : Obligations.CopyReadGivesItsVerdict := by
  unfold Obligations.CopyReadGivesItsVerdict
  intro s bytes addr pages inFlight owner length size verdict noted
  let u : State := { s with link := s.link.afterRead }
  have run : exec (.readCompletion bytes) s = .next (u.copyRead bytes) := by
    rw [exec_readCompletion (length ▸ inFlight), owner]
    rfl
  have judged (c : Copy) (q : Sequencer) : (u.judgeCopy c verdict).setSequencer q =
      { s with link := s.link.afterRead, events := noted c (copyPage pages c), sequencer := q } := by
    clear_value verdict
    cases verdict with
    | valid r => rw [State.judgeCopy_valid]; rfl
    | bad reason => rw [State.judgeCopy_bad (s := u) size]; rfl
  refine ⟨fun phase => ?_, fun phase => ?_⟩
  · rw [run, State.copyRead_of_readA (s := u) size phase]
    exact congrArg _ (judged .a _)
  · rw [run, State.copyRead_of_readB (s := u) size phase]
    exact congrArg _ (judged .b _)

/-! ### What each check asks (R176, R177) -/

theorem bytes32_injective : Function.Injective bytes32 := fun x y same => by
  rw [← at32_of_bytes32 x [], same, at32_of_bytes32]

/-- Check 1, byte by byte: a field is read with the least significant byte first (12). -/
theorem at32_eq_magicValue_iff (l : List Byte) :
    at32 l 0 = magicValue ↔ at8 l 0 = 0x5A#8 ∧ at8 l 1 = 0x4B#8 ∧ at8 l 2 = 0x37#8 ∧ at8 l 3 = 0x31#8 := by
  have spelt : bytes32 magicValue = [0x5A#8, 0x4B#8, 0x37#8, 0x31#8] := by decide
  rw [← bytes32_injective.eq_iff, bytes32_at32, spelt]
  simp only [List.cons.injEq, and_true, Nat.zero_add]

theorem RecordFields.rangeOk_iff (f : RecordFields) : f.rangeOk = true ↔
    f.elide.toNat ≤ 1 ∧ f.verify.toNat ≤ 1 ∧ 1 ≤ f.idleSeal.toNat ∧ f.idleSeal.toNat ≤ 1000 ∧
    10 ≤ f.maxOpen.toNat ∧ f.maxOpen.toNat ≤ 10000 ∧ 100 ≤ f.discardTime.toNat ∧
    1 ≤ f.eraseTimeout.toNat ∧ 1 ≤ f.programTimeout.toNat ∧ 1 ≤ f.commitTries.toNat ∧ f.commitTries.toNat ≤ 4 ∧
    f.suspendMax.toNat ≤ 15 ∧ 1 ≤ f.readStreak.toNat ∧ f.readStreak.toNat ≤ 16 ∧
    (f.refreshInterval.toNat = 0 ∨ 16 ≤ f.refreshInterval.toNat ∧ f.refreshInterval.toNat ≤ 4096) := by
  simp only [RecordFields.rangeOk, onOffOk, Bool.and_eq_true, Bool.or_eq_true, decide_eq_true_eq, beq_iff_eq, and_assoc]

theorem RecordFields.orderOk_iff (f : RecordFields) : f.orderOk = true ↔ f.idleSeal.toNat ≤ f.maxOpen.toNat := decide_eq_true_iff

theorem RecordFields.windowOk_iff (f : RecordFields) (pages : Nat) : f.windowOk pages = true ↔
    f.windowPages.toNat % 64 = 0 ∧ 64 ≤ f.windowPages.toNat ∧ f.windowPages.toNat + 64 ≤ pages := by
  simp only [RecordFields.windowOk, Bool.and_eq_true, decide_eq_true_eq, beq_iff_eq, and_assoc]

theorem RawRegion.ok_iff (g : RawRegion) (window : Nat) : g.ok window = true ↔
    g.first.toNat ≤ g.last.toNat ∧ g.last.toNat < window ∧ g.mode.toNat ≤ 2 := by
  simp only [RawRegion.ok, Bool.and_eq_true, decide_eq_true_eq, and_assoc]

/-- Check 7 asks the same of each of the eight descriptors. -/
theorem allRegionsOk_iff (regions : Vector RawRegion 8) (window : Nat) :
    (regions.toList.all fun g => g.ok window) = true ↔ ∀ n : RegionIndex, regions[n].first.toNat ≤ regions[n].last.toNat ∧
      regions[n].last.toNat < window ∧ regions[n].mode.toNat ≤ 2 := by
  simp only [List.all_eq_true, Vector.mem_toList_iff, Vector.forall_mem_iff_forall_getElem, RawRegion.ok_iff]
  exact ⟨fun every n => every n.val n.isLt, fun every i below => every ⟨i, below⟩⟩

/-! ### The checks in their order (R177) -/

/-- Settles O39: each check of the model is the check of R177 with its values, and the verdict is read off the first that fails. -/
theorem validCopyPassesEveryCheck : Obligations.ValidCopyPassesEveryCheck := by
  unfold Obligations.ValidCopyPassesEveryCheck
  intro pages bytes r magicGood versionGood crcGood rangeGood orderGood windowGood regionsGood
  have magicFails : (recordOf bytes).fields.magic ≠ magicValue ↔ ¬ magicGood := not_congr (at32_eq_magicValue_iff bytes)
  have versionFails : (recordOf bytes).fields.version ≠ 1#8 ↔ ¬ versionGood := Iff.rfl
  have crcFails : crc32 (bytes.take 78) ≠ (recordOf bytes).crc ↔ ¬ crcGood := Iff.rfl
  have rangeFails : (recordOf bytes).fields.rangeOk = false ↔ ¬ rangeGood :=
    Bool.eq_false_iff.trans (not_congr (RecordFields.rangeOk_iff _))
  have orderFails : (recordOf bytes).fields.orderOk = false ↔ ¬ orderGood :=
    Bool.eq_false_iff.trans (not_congr (RecordFields.orderOk_iff _))
  have windowFails : (recordOf bytes).fields.windowOk pages = false ↔ ¬ windowGood :=
    Bool.eq_false_iff.trans (not_congr (RecordFields.windowOk_iff _ pages))
  have regionsFail : ((recordOf bytes).regions.toList.all fun g => g.ok (recordOf bytes).fields.windowPages.toNat) = false ↔
      ¬ regionsGood := Bool.eq_false_iff.trans (not_congr (allRegionsOk_iff _ _))
  classical
  clear_value magicGood versionGood crcGood rangeGood orderGood windowGood regionsGood
  simp only [validate, magicFails, versionFails, crcFails, rangeFails, orderFails, windowFails, regionsFail]
  refine ⟨fun bad => if_pos bad, fun magic bad => ?_, fun magic version bad => ?_, fun magic version crc bad => ?_,
    fun magic version crc range bad => ?_, fun magic version crc range order bad => ?_,
    fun magic version crc range order window bad => ?_, fun magic version crc range order window regions => ?_⟩
  · simp [magic, bad]
  · simp [magic, version, bad]
  · simp [magic, version, crc, bad]
  · simp [magic, version, crc, range, bad]
  · simp [magic, version, crc, range, order, bad]
  · simp [magic, version, crc, range, order, window, bad]
  · simp [magic, version, crc, range, order, window, regions, r]

end Sys2Proof.Machine
end

section
/-! SUPPORT. What every command does to the event queue (R190, R191) and to the pages of the memory device (R52). -/

namespace Sys2Proof.Machine

/-! ### Appends (R190) -/

/-- One queue continues another by appends alone. -/
def EventQueue.Appended : EventQueue → EventQueue → Prop :=
  Relation.ReflTransGen fun q q' => ∃ ev page slot req, q' = q.append ev page slot req

/-- A state follows another with appends alone at the event queue. -/
def State.Reports (s t : State) : Prop := s.events.Appended t.events

theorem State.Reports.of_same {s t : State} (events : t.events = s.events) : s.Reports t := by
  rw [State.Reports, events]
  exact .refl

theorem State.Reports.trans {s t u : State} (h : s.Reports t) (h' : t.Reports u) : s.Reports u := Relation.ReflTransGen.trans h h'

theorem State.Reports.append {s t : State} (h : s.Reports t) {ev : Event} {page : Option Nat} {slot : Option Slot} {req : Option Requester}
    {u : State} (events : u.events = t.events.append ev page slot req) : s.Reports u :=
  Relation.ReflTransGen.tail h ⟨ev, page, slot, req, events⟩

/-- One record, and nothing else at the queue. -/
theorem State.Reports.one {s u : State} {ev : Event} {page : Option Nat} {slot : Option Slot} {req : Option Requester}
    (events : u.events = s.events.append ev page slot req) : s.Reports u := .append (.of_same rfl) events

theorem State.foldl_reports {α : Type} {f : State → α → State} (step : ∀ (t : State) (a : α), t.Reports (f t a)) (l : List α) (s : State) :
    s.Reports (l.foldl f s) := by
  induction l generalizing s with
  | nil => exact .of_same rfl
  | cons a l ih => exact (step s a).trans (ih (f s a))

/-! ### The outcomes of a commit (R34 to R44) -/

theorem State.fenceFailedAt_reports (p : WaitPair) (page : Option Nat) (s : State) (i : DttIndex) :
    s.Reports (State.fenceFailedAt p page s i) := by
  unfold State.fenceFailedAt
  split
  · exact .one rfl
  · exact .of_same rfl

theorem State.reportFailed_reports (s : State) (p : WaitPair) (page : Option Nat) : s.Reports (s.reportFailed p page) :=
  (State.foldl_reports (State.fenceFailedAt_reports p page) s.fenceOrder s).trans
    (.of_same (by simp [State.reportFailed, State.fenceFailed, State.fenceOrder]))

theorem State.configFailed_reports (s : State) (i : Slot) (page : Option Nat) (cause : CommitCause) :
    s.Reports (s.configFailed i page cause) := by
  unfold State.configFailed
  split
  · exact .one (by simp only [State.endWriteConfig_frame]; rfl)
  · exact .of_same rfl

theorem State.configSucceeded_reports (s : State) (i : Slot) (page : Option Nat) : s.Reports (s.configSucceeded i page) := by
  unfold State.configSucceeded
  split
  · exact .one (by simp only [State.endWriteConfig_frame]; rfl)
  · exact .of_same rfl

theorem State.commitSucceeds_reports (s : State) (i : Slot) : s.Reports (s.commitSucceeds i) := by
  simp only [State.commitSucceeds]
  split
  · exact State.configSucceeded_reports (s.freeEntry i).engineIdle i _
  · exact .of_same (by simp)

theorem State.commitFails_reports (s : State) (i : Slot) (cause : CommitCause) : s.Reports (s.commitFails i cause) := by
  simp only [State.commitFails]
  split
  · exact State.configFailed_reports (s.freeEntry i).engineIdle i _ cause
  · exact (State.Reports.one rfl).trans (State.reportFailed_reports _ _ _)

theorem State.attemptFails_reports (s : State) (cause : CommitCause) : s.Reports (s.attemptFails cause) := by
  unfold State.attemptFails
  split
  · exact .of_same rfl
  · split
    · exact .one rfl
    · exact (s.countAttempt _).commitFails_reports _ cause

theorem State.operationResult_reports (s : State) (failFlag : Bool) : s.Reports (s.operationResult failFlag) := by
  unfold State.operationResult
  split
  · exact .of_same rfl
  · split
    · split
      · exact s.attemptFails_reports _
      · exact .of_same rfl
    · split
      · exact s.attemptFails_reports _
      · split
        · exact .of_same rfl
        · exact s.commitSucceeds_reports _
    · exact .of_same rfl

theorem State.verifyCompletes_reports (s : State) (i : Slot) (bytes : List Byte) : s.Reports (s.verifyCompletes i bytes) := by
  unfold State.verifyCompletes
  split
  · exact s.commitSucceeds_reports i
  · exact (s.setPage (s.entries[i].page.getD 0) .undefined).attemptFails_reports _

theorem State.engineBytes_reports (s : State) (bytes : List Byte) : s.Reports (s.engineBytes bytes) := by
  unfold State.engineBytes
  split
  · exact .of_same rfl
  · split
    · exact .of_same (by simp)
    · exact s.verifyCompletes_reports _ bytes
    · exact .of_same rfl

/-! ### The entry to HALTED and the link DOWN (R48, R72) -/

theorem State.enterHalted_reports (s : State) (cause : HaltCause) : s.Reports (s.enterHalted cause) :=
  .one (ev := .halted cause) (by simp only [State.enterHalted, State.haltNotice_frame, State.haltMode_events]; rfl)

theorem State.downStep_reports (i : Slot) (s : State) (step : DownStep) : s.Reports (s.downStep i step) := by
  cases step with
  | engine => exact .one rfl
  | report =>
    rw [State.downStep, State.deviceReport]
    split
    · exact s.configFailed_reports i _ .device
    · exact s.reportFailed_reports _ _
  | halt => exact .one (s.haltMode_events .linkDown)
  | notice => exact .of_same (by simp [State.downStep])
  | queuedConfig =>
    rw [State.downStep, State.endQueuedConfig]
    split
    · exact s.configFailed_reports _ _ .device
    · exact .of_same rfl

theorem State.linkDown_reports (s : State) : s.Reports s.linkDown := by
  obtain ⟨i, l, n, -, down⟩ := s.linkDown_falls
  rw [down]
  exact State.foldl_reports (State.downStep_reports i) l (s.setLink s.link.lost)

/-! ### The array link (R57 to R71) -/

theorem State.takeReply_reports (s : State) (cond : DeviceCondition) (failFlag : Bool) : s.Reports (s.takeReply cond failFlag) := by
  have completes : s.Reports (s.operationCompletes failFlag) :=
    (State.Reports.of_same (by simp)).trans (State.operationResult_reports _ failFlag)
  unfold State.takeReply
  split
  · exact completes
  · exact completes
  · exact .of_same (by simp)
  · unfold State.deviceRecovered
    split
    · exact (s.setLink s.link.operationOver).attemptFails_reports .timeout
    · split <;> exact .of_same rfl
  · exact .of_same (by simp)

theorem State.judgeCopy_reports (s : State) (c : Copy) (v : Verdict) : s.Reports (s.judgeCopy c v) := by
  unfold State.judgeCopy
  split
  · exact .of_same rfl
  · exact .one rfl

theorem State.deliver_reports (s : State) (owner : Option Owner) (bytes : List Byte) : s.Reports (s.deliver owner bytes) := by
  unfold State.deliver
  split
  · exact s.engineBytes_reports bytes
  · exact .of_same (by simp)
  · simp only [State.copyRead]
    split
    · exact s.judgeCopy_reports .a _
    · exact s.judgeCopy_reports .b _
    · exact .of_same rfl
  · exact .of_same rfl
  · exact .of_same rfl

theorem State.timeOut_reports (s : State) (phase : TimeoutPhase) : s.Reports (s.timeOut phase) := by
  simp only [State.timeOut]
  split <;> exact .one rfl

theorem State.resetTaken_reports (s : State) : s.Reports s.resetTaken := by
  simp only [State.resetTaken]
  split
  · exact .one rfl
  · exact .of_same rfl

/-! ### Requests and expiries (R79 to R94, R113) -/

theorem State.takeWrite_reports (s : State) (req : Requester) (addr len : Nat) (data : List Byte) :
    s.Reports (s.takeWrite req addr len data) := by
  have path : s.Reports (s.writePath req addr data) := by
    refine State.Reports.trans (t := (s.stageWrite (pageOf addr) (offsetOf addr) data req).2) (.of_same (by simp)) ?_
    unfold State.writePath State.answerWrite
    split
    · exact .of_same (by simp)
    · exact .of_same rfl
    · exact .of_same rfl
    · exact .one rfl
  unfold State.takeWrite State.gateWrite State.protectWrite
  split
  · exact .one rfl
  split
  · exact .one rfl
  split
  · split
    · exact path
    · exact .one rfl
  · exact .one rfl
  all_goals exact .of_same rfl

theorem State.takeRead_reports (s : State) (req : Requester) (addr len : Nat) : s.Reports (s.takeRead req addr len) := by
  have refused (kind : FaultKind) (found : Option AccessMode) : s.Reports ((s.refuseReissue req addr len).refuseRead kind found req addr) :=
    (State.Reports.of_same (by simp)).append (t := s.refuseReissue req addr len) rfl
  have path : s.Reports (s.readPath req addr len) := by
    unfold State.readPath State.handOffRead
    split
    · exact .of_same (by simp)
    · split
      · exact .of_same rfl
      · split
        · exact .of_same (by simp)
        · exact .one rfl
        all_goals exact .of_same rfl
  unfold State.takeRead State.gateRead State.protectRead
  split
  · exact .one rfl
  split
  · exact refused _ _
  split
  · exact .of_same rfl
  split
  · exact refused _ _
  · exact path

theorem State.takeFence_reports (s : State) (req : Requester) : s.Reports (s.takeFence req) := by
  have path : s.Reports (s.fencePath req) := by
    unfold State.fencePath State.decideFence
    split
    · exact .of_same (by simp)
    · split
      · exact .one rfl
      · split
        · exact .of_same rfl
        · exact .of_same (by simp)
  unfold State.takeFence
  split
  · exact .of_same rfl
  · exact .one rfl
  all_goals exact path

theorem State.discardResult_reports (s : State) (i : DttIndex) : s.Reports (s.discardResult i) := by
  unfold State.discardResult
  split
  · exact .one rfl
  · exact .of_same rfl

/-! ### The mode controller (R160 to R167) -/

theorem State.dropRefresh_reports (s : State) : s.Reports s.dropRefresh := by
  simp only [State.dropRefresh]
  split
  · exact .of_same rfl
  · exact State.Reports.append (.of_same (s.foldl_dropEntry_events _)) rfl

theorem State.drainStart_reports (s : State) (cause : DrainCause) : s.Reports (s.drainStart cause) := by
  let begun := (s.setControl { s.control with mode := .drain, drainCause := some cause }).appendEvent (.drainBegin cause) none none none
  have sealing : s.Reports (begun.sealSlots begun.openSlots) := .one (by simp only [State.sealSlots_frame]; rfl)
  exact sealing.trans (begun.sealSlots begun.openSlots).dropRefresh_reports

theorem State.completeDrain_reports (s : State) : s.Reports s.completeDrain := by
  simp only [State.completeDrain]
  split
  · exact .one rfl
  · exact .one (by simp only [State.leaveDrain_frame]; rfl)

theorem State.pfailAsserts_reports (s : State) : s.Reports s.pfailAsserts := by
  unfold State.pfailAsserts
  split
  · exact (s.setPfail true).drainStart_reports .pfail
  all_goals exact .of_same rfl

theorem State.pfailDeasserts_reports (s : State) : s.Reports s.pfailDeasserts := by
  unfold State.pfailDeasserts
  split
  · exact .one (by simp only [State.leaveDrain_frame]; rfl)
  · exact .of_same rfl

theorem State.takeReinitClaim_reports (s : State) : s.Reports s.takeReinitClaim := by
  unfold State.takeReinitClaim
  split
  · exact State.drainStart_reports { s with control := { s.control with reinitClaimed := false, reinitPending := true } } .reinit
  · exact .of_same rfl
  · exact .of_same rfl
  · exact .of_same (by simp)
  · exact .of_same rfl

/-! ### The start-up (R173, R178, R179) -/

theorem State.takeSize_reports (s : State) (asize : BitVec 3) : s.Reports (s.takeSize asize) := by
  unfold State.takeSize
  split
  · exact .of_same rfl
  · exact s.enterHalted_reports _

theorem State.applyRegion_reports (loaded : Vector Region 8) (s : State) (n : RegionIndex) :
    s.Reports (State.applyRegion loaded s n) := by
  unfold State.applyRegion
  split
  · exact .of_same rfl
  · split
    · exact .of_same rfl
    · exact .one rfl

theorem State.clipRegion_reports (s : State) (n : RegionIndex) : s.Reports (s.clipRegion n) := by
  unfold State.clipRegion
  split
  · exact .one rfl
  · exact .of_same rfl

theorem State.applyRegions_reports (s : State) (loaded : Vector Region 8) : s.Reports (s.applyRegions loaded) :=
  (State.foldl_reports (State.applyRegion_reports loaded) _ s).trans (State.foldl_reports State.clipRegion_reports _ _)

theorem State.noteDefaults_reports (s : State) : s.Reports s.noteDefaults := by
  unfold State.noteDefaults
  split
  · exact .one rfl
  · exact .of_same rfl

theorem State.applyRecord_reports (s : State) (source : Source) (r : ConfigRecord) : s.Reports (s.applyRecord source r) :=
  (State.applyRegions_reports (s.setParams r.fields.params) (r.regions.map RawRegion.region)).trans
    (.of_same (by simp [State.applyRecord]))

theorem State.applyConfiguration_reports (s : State) : s.Reports s.applyConfiguration :=
  s.noteDefaults_reports.trans (State.applyRecord_reports _ _ _)

theorem State.completeStart_reports (s : State) : s.Reports s.completeStart :=
  .one (by simp only [State.completeStart, State.endReinit_frame]; rfl)

/-! ### The commands of the management port (R26, R141, R143) -/

theorem State.changeRegion_reports (s : State) (n : RegionIndex) (r : Region) : s.Reports (s.changeRegion n r) := by
  unfold State.changeRegion
  split
  · exact .of_same rfl
  split
  · exact .of_same rfl
  · exact .one rfl

/-- DISCARD_ENTRY, SET_REGION and FREEZE_REGION are the commands with a record of their own. -/
theorem State.commandOwner_reports (s : State) (c : MgmtCommand) : s.Reports (commandOwner c s) := by
  cases c with
  | discardEntry =>
    show s.Reports s.discardEntry
    unfold State.discardEntry
    split
    · exact .of_same rfl
    · split
      · exact .of_same rfl
      · exact .one rfl
  | setRegion =>
    show s.Reports s.setRegionCommand
    unfold State.setRegionCommand
    split
    · split
      · exact s.changeRegion_reports _ _
      · exact .of_same rfl
    · exact .of_same rfl
  | freezeRegion =>
    show s.Reports s.freezeRegionCommand
    unfold State.freezeRegionCommand
    split
    · exact .of_same rfl
    · split
      · exact .of_same rfl
      · exact .one rfl
  | sync | retryEntry | writeConfig | reinit | clearCounters | inspectEntry => exact .of_same (by simp [commandOwner])

theorem State.runCommand_reports (s : State) (c : MgmtCommand) : s.Reports (s.runCommand c (commandOwner c)) := by
  unfold State.runCommand
  split
  · exact .of_same rfl
  split
  · exact State.commandOwner_reports (s.noteCommand (some c)) c
  · exact .of_same rfl

theorem State.busWrite_reports (s : State) (a v : Byte) : s.Reports (s.busWrite a v) := by
  have written : s.Reports (s.writeCmd v) := by
    unfold State.writeCmd
    split
    · exact s.runCommand_reports _
    · exact .of_same (by simp)
  unfold State.busWrite State.writeEffect
  split
  · exact .of_same rfl
  · split
    · exact written
    · exact .of_same rfl
    · exact .of_same (by simp)
    · exact .of_same rfl

/-! ### Every command at the event queue -/

/-- What a command does to the event queue: it appends records, takes a byte from the head, reads the lost count, returns the byte cursor to 0, or
empties the queue. -/
inductive State.EventStep (s t : State) : Prop
  | reported (h : s.Reports t)
  | byteTaken (events : t.events = s.events.takeByte)
  | lostRead (events : t.events = { s.events with lost := 0#8 })
  | rewound (events : t.events = { s.events with cursor := 0 })
  | emptied (events : t.events = EventQueue.initial)

theorem State.EventStep.of_same {s t : State} (events : t.events = s.events) : s.EventStep t := .reported (.of_same events)

/-- A command that acts under a condition, and changes nothing otherwise. -/
theorem State.EventStep.of_ite {s t : State} {p : Prop} [Decidable p] (h : p → s.EventStep t) : s.EventStep (if p then t else s) := by
  split
  · exact h ‹_›
  · exact .of_same rfl

theorem State.busRead_eventStep (s : State) (a : Byte) : s.EventStep (s.busRead a) := by
  unfold State.busRead State.readEffect
  split
  · exact .byteTaken rfl
  · exact .lostRead rfl
  all_goals exact .of_same rfl

/-- The commands at the management port. -/
theorem exec_port_eventStep {c : Instr} {s t : State} (h : exec c s = .next t) (port : portCommand c) : s.EventStep t := by
  have onPort {f : State → State} (step : s.EventStep (f s)) : s.EventStep (s.onPort f) := by
    unfold State.onPort
    split
    · exact step
    · exact .of_same rfl
  cases c with
  | sync | retryEntry | discardEntry | setRegion | freezeRegion | writeConfig | reinit | clearCounters | inspectEntry =>
    cases h
    exact onPort (.reported (s.runCommand_reports _))
  | unknownCommand | registerWrite | cfgIndexWrite | cfgDataWrite =>
    cases h
    exact onPort (.reported (s.busWrite_reports _ _))
  | evdataRead | evlostRead | counterLowByteRead | cfgDataRead =>
    cases h
    exact onPort (s.busRead_eventStep _)
  | pointerWrite => cases h; exact onPort (.of_same rfl)
  | transferEnd => cases h; exact onPort (.rewound rfl)
  | _ => exact port.elim

theorem exec_eventStep {c : Instr} {s t : State} (h : exec c s = .next t) : s.EventStep t := by
  cases c with
  | powerOn => cases h; exact .emptied rfl
  | resetNAssertion =>
    cases h
    split
    · exact .of_same rfl
    · exact .rewound rfl
  | resetNDeassertion => cases h; exact .of_ite fun _ => .of_same rfl
  | writeRequest req addr len data =>
    cases h
    split
    · exact .of_same rfl
    · exact .reported (s.takeWrite_reports req addr.toNat len.toNat data)
  | readRequest req addr len =>
    cases h
    split
    · exact .of_same rfl
    · exact .reported (s.takeRead_reports req addr.toNat len.toNat)
  | fenceRequest req =>
    cases h
    split
    · exact .of_same rfl
    · exact .reported (s.takeFence_reports req)
  | invalidKindRequest =>
    cases h
    split
    · exact .of_same rfl
    · exact .reported (.one rfl)
  | readCompletion bytes =>
    cases h
    split
    · exact .of_ite fun _ => .reported ((s.setLink s.link.readEnded).deliver_reports s.link.owner bytes)
    · exact .of_same rfl
  | statusReply cond failFlag =>
    cases h
    refine .of_ite fun _ => ?_
    split
    · exact .of_same rfl
    · exact .reported ((s.setLink s.link.ended).takeReply_reports cond failFlag)
  | operationTimerExpiry => cases h; exact .of_ite fun _ => .reported (s.timeOut_reports _)
  | suspendWaitTimerExpiry => cases h; exact .of_ite fun _ => .reported (s.timeOut_reports _)
  | resetAccepted => cases h; exact .of_ite fun _ => .reported s.resetTaken_reports
  | resetWaitTimerExpiry => cases h; exact .of_ite fun _ => .reported s.linkDown_reports
  | discardTimerExpiry i => cases h; exact .of_ite fun _ => .reported (s.discardResult_reports i)
  | pfailAssertion =>
    cases h
    split
    · exact .of_same rfl
    · exact .reported s.pfailAsserts_reports
  | pfailDeassertion =>
    cases h
    split
    · exact .of_same rfl
    · exact .reported s.pfailDeasserts_reports
  | deferredDrainStart => cases h; exact .of_ite fun _ => .reported (s.drainStart_reports .pfail)
  | reinitClaim => cases h; exact .of_ite fun _ => .reported s.takeReinitClaim_reports
  | drainCompletion => cases h; exact .of_ite fun _ => .reported s.completeDrain_reports
  | size asize => cases h; exact .of_ite fun _ => .reported (s.takeSize_reports asize)
  | apply => cases h; exact .of_ite fun _ => .reported s.applyConfiguration_reports
  | startComplete => cases h; exact .of_ite fun _ => .reported s.completeStart_reports
  | sync | retryEntry | discardEntry | setRegion | freezeRegion | writeConfig | reinit | clearCounters | inspectEntry | unknownCommand
  | pointerWrite | registerWrite | evdataRead | evlostRead | counterLowByteRead | cfgIndexWrite | cfgDataRead | cfgDataWrite | transferEnd =>
    exact exec_port_eventStep h trivial
  | _ =>
    -- The other commands do not reach the queue, as their frame lemmas say.
    exact .of_same (by cases h; (repeat' split) <;> simp)

/-! ### Every command at the pages of the device (R52) -/

/-- What a command does to the pages of the device: it gives one page new content, or changes none. -/
inductive State.PageStep (s t : State) : Prop
  | kept (array : t.array = s.array)
  | set (page : Nat) (content : PageContent) (array : t.array = insertPage page content s.array)

theorem State.PageStep.congr {s t u : State} (h : s.PageStep t) (same : u.array = t.array) : s.PageStep u := by
  cases h with
  | kept array => exact .kept (same.trans array)
  | set page content array => exact .set page content (same.trans array)

theorem State.PageStep.of_setLink {s t : State} {l : Link} (h : (s.setLink l).PageStep t) : s.PageStep t := by
  cases h with
  | kept array => exact .kept array
  | set page content array => exact .set page content array

theorem State.setOpPage_pageStep (s : State) (content : PageContent) : s.PageStep (s.setOpPage content) := by
  unfold State.setOpPage
  split
  · exact .set _ content rfl
  · exact .kept rfl

theorem State.grantEngine_pageStep (s : State) (i : Slot) : s.PageStep (s.grantEngine i) := by
  unfold State.grantEngine
  split
  · exact .kept rfl
  · exact .kept rfl
  · exact .kept rfl
  · exact .set _ .undefined rfl
  · exact .set _ .undefined rfl

theorem State.takeReply_pageStep (s : State) (cond : DeviceCondition) (failFlag : Bool) : s.PageStep (s.takeReply cond failFlag) := by
  have completes : s.PageStep (s.operationCompletes failFlag) :=
    (s.setOpPage_pageStep (s.operationLeaves failFlag)).congr (by simp [State.operationCompletes])
  unfold State.takeReply
  split
  · exact completes
  · exact completes
  all_goals exact .kept (by simp)

theorem State.deliver_pageStep (s : State) (owner : Option Owner) (bytes : List Byte) : s.PageStep (s.deliver owner bytes) := by
  unfold State.deliver
  split
  · unfold State.engineBytes
    split
    · exact .kept rfl
    · split
      · exact .kept (by simp)
      · unfold State.verifyCompletes
        split
        · exact .kept (by simp)
        · exact .set _ .undefined (by simp only [State.attemptFails_frame]; rfl)
      · exact .kept rfl
  · exact .kept (by simp)
  · exact .kept (by simp)
  · exact .kept rfl
  · exact .kept rfl

theorem State.runCommand_array (s : State) (c : MgmtCommand) : (s.runCommand c (commandOwner c)).array = s.array := by
  unfold State.runCommand
  (repeat' split) <;> simp

/-- The management port does not reach the pages. -/
theorem exec_port_array {c : Instr} {s t : State} (h : exec c s = .next t) (port : portCommand c) : t.array = s.array := by
  have onPort {f : State → State} (kept : (f s).array = s.array) : (s.onPort f).array = s.array := by
    unfold State.onPort
    split
    · exact kept
    · rfl
  cases c with
  | sync | retryEntry | discardEntry | setRegion | freezeRegion | writeConfig | reinit | clearCounters | inspectEntry =>
    cases h
    exact onPort (s.runCommand_array _)
  | unknownCommand | pointerWrite | registerWrite | evdataRead | evlostRead | counterLowByteRead | cfgIndexWrite | cfgDataRead
  | cfgDataWrite | transferEnd =>
    cases h
    exact onPort (by simp)
  | _ => exact port.elim

theorem exec_pageStep {c : Instr} {s t : State} (h : exec c s = .next t) : s.PageStep t := by
  cases c with
  | arbiterDecision =>
    rcases execArbiterDecision_cases h with rfl | ⟨-, rfl | ⟨i, -, rfl⟩⟩
    · exact .kept rfl
    · exact .kept (by simp)
    · exact (s.grantEngine_pageStep i).congr (by simp [State.grantClaim])
  | readCompletion bytes =>
    cases h
    split
    · split
      · exact .of_setLink ((s.setLink s.link.readEnded).deliver_pageStep s.link.owner bytes)
      · exact .kept rfl
    · exact .kept rfl
  | statusReply cond failFlag =>
    cases h
    split
    · split
      · exact .kept rfl
      · exact .of_setLink ((s.setLink s.link.ended).takeReply_pageStep cond failFlag)
    · exact .kept rfl
  | sync | retryEntry | discardEntry | setRegion | freezeRegion | writeConfig | reinit | clearCounters | inspectEntry | unknownCommand
  | pointerWrite | registerWrite | evdataRead | evlostRead | counterLowByteRead | cfgIndexWrite | cfgDataRead | cfgDataWrite | transferEnd =>
    exact .kept (exec_port_array h trivial)
  | powerOn => cases h; exact .kept rfl
  | resetNAssertion | resetNDeassertion => cases h; split <;> exact .kept rfl
  | _ =>
    -- The other commands reach no page, as their frame lemmas say.
    exact .kept (by cases h; (repeat' split) <;> simp)

end Sys2Proof.Machine
end

section
/-! PROOFS. The order of the event queue and of the list of pages (O58). -/

namespace Sys2Proof.Machine

/-! ### The event queue (R190, R191) -/

/-- The law of the event queue, which is a law of the queue alone. -/
def EventQueue.Ordered (q : EventQueue) : Prop :=
  q.records.length ≤ 32 ∧
  (∀ (k : Nat) (h : k < q.records.length), (q.records[k]).sequence + BitVec.ofNat 16 (q.records.length - k) = q.nextSequence) ∧
  (q.records = [] → q.cursor = 0)

theorem State.eventLaw_iff {s : State} : s.EventLaw ↔ s.events.Ordered := Iff.rfl

theorem EventQueue.ordered_initial : EventQueue.initial.Ordered := ⟨Nat.zero_le 32, nofun, fun _ => rfl⟩

/-- With room the record joins behind the others, each of which is then one place further from the tail. -/
theorem EventQueue.Ordered.append {q : EventQueue} (h : q.Ordered) (ev : Event) (page : Option Nat) (slot : Option Slot)
    (req : Option Requester) : (q.append ev page slot req).Ordered := by
  obtain ⟨few, consecutive, start⟩ := h
  unfold EventQueue.append
  split
  · rename_i room
    refine ⟨by simpa using room, fun k inside => ?_, fun empty => absurd empty (by simp)⟩
    simp only [List.length_append, List.length_singleton] at inside ⊢
    by_cases old : k < q.records.length
    · rw [List.getElem_append_left old, Nat.succ_sub (Nat.le_of_lt old), ← consecutive k old, BitVec.add_assoc,
        Nat.succ_eq_add_one, BitVec.ofNat_add]
    · obtain rfl : k = q.records.length := by omega
      rw [List.getElem_append_right (Nat.le_refl _)]
      simp
  · exact ⟨few, consecutive, start⟩

theorem EventQueue.Ordered.appended {q q' : EventQueue} (h : q.Ordered) (grown : q.Appended q') : q'.Ordered := by
  induction grown with
  | refl => exact h
  | tail _ last ih =>
    obtain ⟨ev, page, slot, req, rfl⟩ := last
    exact ih.append ev page slot req

/-- The head leaves with its eighth byte, and the others move one place on. -/
theorem EventQueue.Ordered.takeByte {q : EventQueue} (h : q.Ordered) : q.takeByte.Ordered := by
  obtain ⟨few, consecutive, start⟩ := h
  unfold EventQueue.takeByte
  split
  · rename_i r rest records
    rw [records] at few
    split
    · refine ⟨Nat.le_of_succ_le few, fun k inside => ?_, fun _ => rfl⟩
      have moved := consecutive (k + 1) (by rw [records]; exact Nat.succ_lt_succ inside)
      simpa [records] using moved
    · exact ⟨by rwa [records], consecutive, fun empty => absurd (records.symm.trans empty) (by simp)⟩
  · exact ⟨few, consecutive, start⟩

theorem State.EventStep.keepsLaw {s t : State} (step : s.EventStep t) (law : s.EventLaw) : t.EventLaw := by
  rw [State.eventLaw_iff] at law ⊢
  cases step with
  | reported h => exact law.appended h
  | byteTaken events => exact events ▸ law.takeByte
  | lostRead events => exact events ▸ law
  | rewound events =>
    obtain ⟨few, consecutive, -⟩ := law
    exact events ▸ ⟨few, consecutive, fun _ => rfl⟩
  | emptied events => exact events ▸ EventQueue.ordered_initial

/-! ### The list of pages (R52) -/

theorem mem_insertPage {page p : Nat} {content : PageContent} {l : List (Nat × PageContent)}
    (h : p ∈ (insertPage page content l).map Prod.fst) : p = page ∨ p ∈ l.map Prod.fst := by
  induction l with
  | nil => simpa [insertPage] using h
  | cons x l ih =>
    unfold insertPage at h
    split at h
    · simpa using h
    · split at h
      · rcases List.mem_cons.mp h with here | later
        · exact .inl here
        · exact .inr (List.mem_cons_of_mem _ later)
      · rcases List.mem_cons.mp h with here | later
        · exact .inr (here ▸ List.mem_cons_self)
        · exact (ih later).imp_right (List.mem_cons_of_mem _)

/-- A page is put in its place among rising page numbers. -/
theorem pagesRise_insertPage {l : List (Nat × PageContent)} (rise : pagesRise l) (page : Nat) (content : PageContent) :
    pagesRise (insertPage page content l) := by
  induction l with
  | nil => exact List.pairwise_singleton _ _
  | cons x l ih =>
    obtain ⟨q, d⟩ := x
    obtain ⟨above, rest⟩ := List.pairwise_cons.mp rise
    unfold insertPage
    split
    · rename_i below
      refine List.pairwise_cons.mpr ⟨fun p mem => ?_, rise⟩
      rcases List.mem_cons.mp mem with rfl | later
      · exact below
      · exact below.trans (above p later)
    · split
      · rename_i same
        exact List.pairwise_cons.mpr ⟨fun p mem => same ▸ above p mem, rest⟩
      · refine List.pairwise_cons.mpr ⟨fun p mem => ?_, ih rest⟩
        rcases mem_insertPage mem with rfl | old
        · exact show q < p by omega
        · exact above p old

theorem State.PageStep.keepsLaw {s t : State} (step : s.PageStep t) (law : s.ArrayLaw) : t.ArrayLaw := by
  cases step with
  | kept array => exact (congrArg pagesRise array).mpr law
  | set page content array => exact (congrArg pagesRise array).mpr (pagesRise_insertPage law page content)

/-- Settles O58: what a command does to the queue (`exec_eventStep`) and to the pages (`exec_pageStep`) keeps their laws, and a tick reaches neither. -/
theorem stepsKeepTheEventOrder : Obligations.StepsKeepTheEventOrder := by
  unfold Obligations.StepsKeepTheEventOrder
  exact ⟨fun s t law step => step_of_exec (H := State.EventLaw) (fun _ _ h => h) (fun _ h => h)
      (fun _ _ _ h ran => (exec_eventStep ran).keepsLaw h) law step,
    fun s t law step => step_of_exec (H := State.ArrayLaw) (fun _ _ h => h) (fun _ h => h)
      (fun _ _ _ h ran => (exec_pageStep ran).keepsLaw h) law step⟩

end Sys2Proof.Machine
end

section
/-! PROOFS. The CMD writes that are turned away (O42), and REINIT, CLEAR_COUNTERS and INSPECT_ENTRY (O47). -/

namespace Sys2Proof.Machine

/-! ### The byte written to CMD (12.4) -/

/-- Each of the nine commands is the write of its code to CMD, handed to the command's owner (R187, R188). -/
theorem exec_cmdWrite {c : Instr} {m : MgmtCommand} (listed : (c, m) ∈ cmdWrites) (s : State) :
    exec c s = .next (s.writeCommand m (commandOwner m)) := by
  have all : ∀ p ∈ cmdWrites, exec p.1 s = .next (s.writeCommand p.2 (commandOwner p.2)) := by
    simp only [cmdWrites, List.forall_mem_cons]
    exact ⟨rfl, rfl, rfl, rfl, rfl, rfl, rfl, rfl, rfl, nofun⟩
  exact all (c, m) listed

theorem decodeCommand_code (m : MgmtCommand) : decodeCommand m.code = some m := by cases m <;> rfl

theorem decodeCommand_eq_none {code : Byte} (other : code = 0#8 ∨ 9 < code.toNat) : decodeCommand code = none := by
  have outside : code.toNat = 0 ∨ 9 < code.toNat := other.imp_left (congrArg BitVec.toNat)
  unfold decodeCommand
  split
  case h_10 => rfl
  all_goals omega

/-- A write of CMD at the port, as UNKNOWN_COMMAND brings it (R187). -/
theorem exec_unknownCommand {s : State} (reset : s.resetAsserted = false) (maddr : s.port.maddr.isSome) (code : Byte) :
    exec (.unknownCommand code) s = .next ((s.writeCmd code).wrote cmdAddr) :=
  congrArg Host.Outcome.next (s.onPort_answers reset maddr _)

/-! ### Turned away (R187, R188) -/

theorem acceptsMode_eq_false {m : MgmtCommand} {mode : Mode} (refuses : refusingMode m mode) : acceptsMode m mode = false := by
  cases m with
  | discardEntry => rcases refuses with rfl | rfl <;> rfl
  | clearCounters | inspectEntry => cases refuses; rfl
  | _ => exact beq_eq_false_iff_ne.mpr refuses

theorem State.runCommand_busy {s : State} (busy : s.command.busy = true) (m : MgmtCommand) (owner : State → State) :
    s.runCommand m owner = s.overrun := if_pos busy

theorem State.runCommand_refused {s : State} (idle : s.command.busy = false) {m : MgmtCommand} (refuses : refusingMode m s.control.mode)
    (owner : State → State) : s.runCommand m owner = (s.noteCommand (some m)).refuse .mode := by
  rw [State.runCommand, idle, acceptsMode_eq_false refuses]
  rfl

theorem State.writeCmd_unnamed (s : State) {code : Byte} (other : code = 0#8 ∨ 9 < code.toNat) : s.writeCmd code = s.rejectCode := by
  rw [State.writeCmd, decodeCommand_eq_none other]

/-- Settles O42: the unit looks at BUSY first, then at the byte, then at the mode. -/
theorem cmdTurnedAway : Obligations.CmdTurnedAway := by
  unfold Obligations.CmdTurnedAway
  intro s reset maddr
  have runs {c : Instr} {m : MgmtCommand} (listed : (c, m) ∈ cmdWrites) {t : State} (ran : s.runCommand m (commandOwner m) = t) :
      exec c s = .next (t.wrote cmdAddr) := by
    rw [exec_cmdWrite listed, State.writeCommand, s.onPort_answers reset maddr, ran]
  refine ⟨fun c m listed busy => runs listed (State.runCommand_busy busy m _),
    fun c m listed idle refuses => runs listed (State.runCommand_refused idle refuses _), fun code other => ⟨fun busy => ?_, fun idle => ?_⟩⟩
  · rw [exec_unknownCommand reset maddr, s.writeCmd_unnamed other, State.rejectCode, if_pos busy]
    rfl
  · rw [exec_unknownCommand reset maddr, s.writeCmd_unnamed other, State.rejectCode, if_neg (by rw [idle]; decide)]
    rfl

/-! ### The inspection window (R194) -/

theorem State.argLine_eq_none {s : State} (h : 8 ≤ (s.port.args[1]).toNat) : s.argLine = none := dif_neg (not_lt.mpr h)

theorem State.argLine_eq_some {s : State} {line : Fin 8} (h : (s.port.args[1]).toNat = line.val) : s.argLine = some line := by
  have small : s.arg 1 < 8 := by rw [State.arg]; exact h ▸ line.isLt
  rw [State.argLine, dif_pos small]
  exact congrArg some (Fin.ext h)

theorem State.inspectCommand_badArgument {s : State} (bad : s.argSlot = none ∨ s.argLine = none) :
    s.inspectCommand = s.refuse .badArgument := by
  rw [State.inspectCommand]
  rcases bad with none | none <;> rw [none]
  cases s.argSlot <;> rfl

theorem State.inspectCommand_of {s : State} {i : Slot} {line : Fin 8} (slot : s.argSlot = some i) (line' : s.argLine = some line) :
    s.inspectCommand = (s.setPort { s.port with window := some (s.snapshot i line) }).finish := by
  rw [State.inspectCommand, slot, line']

/-- The members of an offset set, counted over the offsets as indices. -/
theorem setSize_eq (w : OffsetSet) : setSize w = ((List.finRange 512).filter fun o => w.getLsbD o.val).length := by
  rw [setSize, ← List.map_coe_finRange_eq_range, List.countP_map, List.countP_eq_length_filter]
  rfl

theorem State.snapshot_writtenCount (s : State) (i : Slot) (line : Fin 8) : (s.snapshot i line).writtenCount =
    ((List.finRange 512).filter fun o => s.entries[i].written.getLsbD o.val).length := by
  simp only [State.snapshot, setSize_eq]

theorem State.snapshot_validCount (s : State) (i : Slot) (line : Fin 8) : (s.snapshot i line).validCount =
    ((List.finRange 512).filter fun o => s.entries[i].valid.getLsbD o.val).length := by
  simp only [State.snapshot, setSize_eq]

theorem State.sealOrder_eq_none {s : State} {i : Slot} (unqueued : i ∉ s.commitQueue) : s.sealOrder i = none := by
  rw [State.sealOrder, List.findIdx?_eq_none_iff]
  exact fun j queued => beq_eq_false_iff_ne.mpr (ne_of_mem_of_not_mem queued unqueued)

/-- The seal order is the first place of the slot in the commit queue (R13). -/
theorem State.sealOrder_eq_some {s : State} {i : Slot} {k : Nat} (here : s.commitQueue[k]? = some i)
    (first : ∀ m < k, s.commitQueue[m]? ≠ some i) : s.sealOrder i = some k := by
  obtain ⟨inside, here⟩ := List.getElem?_eq_some_iff.mp here
  refine List.findIdx?_eq_some_iff_getElem.mpr ⟨inside, beq_iff_eq.mpr here, fun m before => ?_⟩
  have other := first m before
  rw [List.getElem?_eq_getElem (before.trans inside)] at other
  simpa using other

theorem Entry.lineBytes_get (e : Entry) (line : Fin 8) (k : Fin 64) : (e.lineBytes line)[k.val]? =
    some (if e.valid.getLsbD (64 * line.val + k.val) then imageByte e.buffer (64 * line.val + k.val) else 0#8) := by
  rw [Entry.lineBytes, List.getElem?_map, List.getElem?_range k.isLt, Option.map_some, Entry.covers]
  split <;> rfl

theorem getLsbD_lineMap (w : OffsetSet) (line : Fin 8) (k : Fin 64) :
    (w.extractLsb' (64 * line.val) 64).getLsbD k.val = w.getLsbD (64 * line.val + k.val) := by
  rw [BitVec.getLsbD_extractLsb', decide_eq_true k.isLt, Bool.true_and]

/-- Settles O47: each of the three commands is accepted, and its owner's operation is the change that R193, R194 and R188 give. -/
theorem reinitClearAndInspect : Obligations.ReinitClearAndInspect := by
  unfold Obligations.ReinitClearAndInspect
  intro s admits
  let u := s.noteCommand (some .inspectEntry)
  have inspects (mode : s.control.mode ≠ .start) {t : State} (ran : u.inspectCommand = t) :
      exec .inspectEntry s = .next (t.wrote cmdAddr) := by
    rw [← ran]
    exact congrArg _ (State.writeCommand_admitted admits (by simp [acceptsMode, mode]) _)
  refine ⟨fun running => ?_, fun mode => ?_, fun mode bad => ?_, fun i line mode slot arg => ?_⟩
  · exact congrArg _ (State.writeCommand_admitted admits (by simp [acceptsMode, running]) _)
  · exact congrArg _ (State.writeCommand_admitted admits (by simp [acceptsMode, mode]) _)
  · exact inspects mode (State.inspectCommand_badArgument (bad.imp State.argSlot_eq_none State.argLine_eq_none))
  · refine ⟨s.snapshot i line,
      inspects mode (State.inspectCommand_of (s := u) (State.argSlot_eq_some slot) (State.argLine_eq_some arg)),
      rfl, rfl, rfl, rfl, rfl, rfl, rfl, rfl, s.snapshot_writtenCount i line, s.snapshot_validCount i line,
      State.sealOrder_eq_none, fun k => State.sealOrder_eq_some,
      fun k => ⟨getLsbD_lineMap _ line k, getLsbD_lineMap _ line k⟩, ?_, s.entries[i].lineBytes_get line⟩
    exact (List.length_map _).trans List.length_range

end Sys2Proof.Machine
end

section
/-! SUPPORT. The bytes of the registers (12.4) and of an event record (12.3), read off the tables of the two sections. -/

namespace Sys2Proof.Machine

/-! ### Numbers and their bits -/

theorem byte_eq_ofNat {a : Byte} {n : Nat} (h : a.toNat = n) : a = BitVec.ofNat 8 n := by rw [← h, BitVec.ofNat_toNat, BitVec.setWidth_eq]

theorem toNat_byte {n : Nat} (small : n < 256) : (BitVec.ofNat 8 n).toNat = n := BitVec.toNat_ofNat .. ▸ Nat.mod_eq_of_lt small

theorem byteOf_zero (n : Nat) : byteOf n 0 = BitVec.ofNat 8 n := by rw [byteOf, Nat.pow_zero, Nat.div_one]

theorem bit_le_one (b : Bool) : bit b ≤ 1 := by cases b <;> decide

/-- A bit of a byte, where the number has a Bool at that place. -/
theorem getLsbD_byte {n i : Nat} (h : i < 8) {b : Bool} (place : n / 2 ^ i % 2 = bit b) : (BitVec.ofNat 8 n).getLsbD i = b := by
  rw [BitVec.getLsbD_ofNat, decide_eq_true h, Bool.true_and, Nat.testBit_eq_decide_div_mod_eq, place]
  cases b <;> rfl

/-! ### The codes (12.1, 12.3, 12.4) -/

theorem FaultKind.code_eq (k : FaultKind) : k.code = faultNumber k := by cases k <;> rfl
theorem FaultKind.code_lt (k : FaultKind) : k.code < 8 := by cases k <;> decide
theorem CommitCause.code_eq (c : CommitCause) : c.code = causeNumber c := by cases c <;> rfl
theorem CommitCause.code_lt (c : CommitCause) : c.code < 8 := by cases c <;> decide
theorem BadReason.code_eq (r : BadReason) : r.code = reasonNumber r := by cases r <;> rfl
theorem BadReason.code_lt (r : BadReason) : r.code < 16 := by cases r <;> decide
theorem AccessMode.code_eq (m : AccessMode) : m.code = modeNumber m := by cases m <;> rfl
theorem AccessMode.code_lt (m : AccessMode) : m.code < 4 := by cases m <;> decide
theorem Copy.code_eq (c : Copy) : c.code = copyNumber c := by cases c <;> rfl
theorem Copy.code_lt (c : Copy) : c.code < 2 := by cases c <;> decide
theorem DrainCause.code_eq (c : DrainCause) : c.code = drainNumber c := by cases c <;> rfl
theorem DrainCause.code_lt (c : DrainCause) : c.code < 2 := by cases c <;> decide
theorem Source.code_eq (c : Source) : c.code = [.a, .b, .default].idxOf c := by cases c <;> rfl
theorem Source.code_lt (c : Source) : c.code < 4 := by cases c <;> decide
theorem StartKind.code_eq (k : StartKind) : k.code = [.powerOn, .resetN, .reinit].idxOf k := by cases k <;> rfl
theorem StartKind.code_lt (k : StartKind) : k.code < 4 := by cases k <;> decide
theorem OpKind.code_eq (k : OpKind) : k.code = [.erase, .program].idxOf k := by cases k <;> rfl
theorem OpKind.code_lt (k : OpKind) : k.code < 2 := by cases k <;> decide
theorem TimeoutPhase.code_eq (p : TimeoutPhase) : p.code = [.running, .suspending].idxOf p := by cases p <;> rfl
theorem TimeoutPhase.code_lt (p : TimeoutPhase) : p.code < 2 := by cases p <;> decide
theorem FencePhase.code_eq (p : FencePhase) : p.code = [.arrival, .wait].idxOf p := by cases p <;> rfl
theorem FencePhase.code_lt (p : FencePhase) : p.code < 2 := by cases p <;> decide
theorem RegionCause.code_eq (c : RegionCause) : c.code = [.set, .held, .clip].idxOf c + 1 := by cases c <;> rfl
theorem RegionCause.code_lt (c : RegionCause) : c.code < 4 := by cases c <;> decide
theorem DttKind.code_eq (k : DttKind) : k.code = [.read, .fence].idxOf k := by cases k <;> rfl
theorem DttKind.code_lt (k : DttKind) : k.code < 2 := by cases k <;> decide
theorem bit_eq (b : Bool) : bit b = [false, true].idxOf b := by cases b <;> rfl

/-- The mode beside a fault kind, 0 where there is none. -/
theorem foundCode_eq (found : Option AccessMode) : (found.map AccessMode.code).getD 0 = (found.map modeNumber).getD 0 := by
  cases found with
  | none => rfl
  | some m => exact m.code_eq

theorem foundCode_lt (found : Option AccessMode) : (found.map AccessMode.code).getD 0 < 4 := by
  cases found with
  | none => decide
  | some m => exact m.code_lt

/-! ### The detail of an event (12.3) -/

theorem packed_nil : packed [] = 0 := rfl

theorem packed_cons (low width value : Nat) (fields : List (Nat × Nat × Nat)) :
    packed ((low, width, value) :: fields) = value % 2 ^ width * 2 ^ low + packed fields := List.sum_cons

theorem Event.code_eq (e : Event) : e.code = e.layout.1 := by
  cases e with
  | readDiscarded _ result => cases result <;> rfl
  | halted cause => cases cause <;> rfl
  | _ => rfl

theorem Event.code_lt (e : Event) : e.code < 64 := by
  cases e <;> simp only [Event.code] <;> omega

/-- The detail field is the fields of the layout, each in its place: every code is below the bound that its width gives. -/
theorem Event.detail_eq (e : Event) : e.detail = BitVec.ofNat 16 (packed e.layout.2) := by
  cases e
  case deviceReset => rfl
  case drainRecovered toStart => cases toStart <;> rfl
  case refreshDropped n =>
    simp only [Event.detail, Event.layout, packed_cons, packed_nil]
    exact BitVec.eq_of_toNat_eq (by simp only [BitVec.toNat_ofNat]; omega)
  case readDiscarded k result =>
    have := k.code_lt
    cases result <;>
      simp only [Event.detail, DttResult.bits, Event.layout, packed_cons, packed_nil, ← DttKind.code_eq, ← FaultKind.code_eq] <;>
      refine congrArg _ ?_
    case fault f => have := f.code_lt; omega
    all_goals omega
  case halted cause =>
    cases cause <;> simp only [Event.detail, HaltCause.bits, Event.layout, packed_cons, packed_nil] <;> exact congrArg _ (by omega)
  all_goals
    simp only [Event.detail, Event.layout, packed_cons, packed_nil, ← FaultKind.code_eq, ← CommitCause.code_eq, ← BadReason.code_eq,
      ← AccessMode.code_eq, ← Copy.code_eq, ← DrainCause.code_eq, ← Source.code_eq, ← StartKind.code_eq, ← OpKind.code_eq,
      ← TimeoutPhase.code_eq, ← FencePhase.code_eq, ← RegionCause.code_eq, ← bit_eq, ← foundCode_eq]
    refine congrArg _ ?_
  case writeFault k found | readFault k found => have := k.code_lt; have := foundCode_lt found; omega
  case commitRetry c n | commitFailed c n => have := c.code_lt; omega
  case fenceFault k p => have := k.code_lt; have := p.code_lt; omega
  case arrayTimeout op p => have := op.code_lt; have := p.code_lt; omega
  case configCopyBad c r => have := c.code_lt; have := r.code_lt; omega
  case configDefaults a b => have := a.code_lt; have := b.code_lt; omega
  case configWritten c q => have := c.code_lt; omega
  case configWriteFailed c k => have := c.code_lt; have := k.code_lt; omega
  case drainBegin c => have := c.code_lt; omega
  case drainEnd n c => have := c.code_lt; omega
  case entryDiscarded g => omega
  case regionChanged c n en m =>
    have := c.code_lt
    have := m.code_lt
    cases en <;> simp only [bit, if_true, Bool.false_eq_true, if_false] <;> omega
  case regionFrozen n => omega
  case startComplete src k q => have := src.code_lt; have := k.code_lt; omega

/-! ### The eight bytes of an event record (12.3) -/

/-- The two bytes of a page field. -/
theorem pageByte_eq (page : Option Nat) (k : Fin 2) :
    (pageBits page).extractLsb' (8 * k.val) 8 = pageByte page k.val := by
  cases page with
  | none => fin_cases k <;> rfl
  | some p => exact extractLsb'_ofNat_eq_byteOf p k

/-- Byte 2: the code and the two presence bits. -/
theorem presenceByte_bits {code : Nat} (small : code < 64) (req slot : Bool) {b : Byte}
    (byte : b = BitVec.ofNat 8 (code + (if req then 64 else 0) + (if slot then 128 else 0))) :
    b.toNat % 64 = code ∧ b.getLsbD 6 = req ∧ b.getLsbD 7 = slot := by
  have sum : code + (if req then 64 else 0) + (if slot then 128 else 0) = code + 64 * bit req + 128 * bit slot := by
    cases req <;> cases slot <;> rfl
  have := bit_le_one req
  have := bit_le_one slot
  rw [byte, sum, toNat_byte (by omega)]
  exact ⟨by omega, getLsbD_byte (by decide) (by omega), getLsbD_byte (by decide) (by omega)⟩

/-- Byte 3: a slot and a requester. -/
theorem ownerByte_bits (slot : Slot) (req : Requester) {b : Byte} (byte : b = BitVec.ofNat 8 (slot.val + 16 * req.val)) :
    b.toNat % 16 = slot.val ∧ b.toNat / 16 % 8 = req.val ∧ b.getLsbD 7 = false := by
  have top : (slot.val + 16 * req.val) / 2 ^ 7 % 2 = bit false := by
    show _ = 0
    omega
  rw [byte, toNat_byte (by omega), getLsbD_byte (by decide) top]
  exact ⟨by omega, by omega, rfl⟩

/-- The bytes of a record are those of the table of 12.3. -/
theorem EventRecord.byte_shows (r : EventRecord) (k : Fin 8) : r.Shows k.val (r.byte k) := by
  refine ⟨fun low => ?_, fun two => ?_, fun three => ?_, fun low high => ?_, fun low high => ?_⟩
  · rw [← extractLsb'_eq_byteOf]
    match k, low with
    | 0, _ | 1, _ => rfl
  · obtain rfl : k = 2 := Fin.ext two
    rw [← r.event.code_eq]
    exact presenceByte_bits r.event.code_lt _ _ rfl
  · obtain rfl : k = 3 := Fin.ext three
    obtain ⟨slot, req, top⟩ := ownerByte_bits _ _ (b := r.byte 3) rfl
    refine ⟨top, fun i here => ?_, fun q here => ?_⟩
    · rw [slot, here]
      rfl
    · rw [req, here]
      rfl
  · match k, low, high with
    | 4, _, _ => exact pageByte_eq r.page 0
    | 5, _, _ => exact pageByte_eq r.page 1
  · rw [← extractLsb'_ofNat_eq_byteOf _ ⟨k.val - 6, by omega⟩, ← r.event.detail_eq]
    match k, low, high with
    | 6, _, _ | 7, _, _ => rfl

/-! ### The inspection window (12.4) -/

theorem EntryState.code_eq (state : EntryState) : state.code = [.free, .opened, .sealed, .committing, .failed].idxOf state + 1 := by
  cases state <;> rfl

theorem EntryState.code_le (state : EntryState) : state.code ≤ 5 := by cases state <;> decide

theorem originCode_eq (origin : Option Origin) : originCode origin = [none, some Origin.host, some .refresh, some .config].idxOf origin := by
  cases origin with
  | none => rfl
  | some o => cases o <;> rfl

theorem originCode_le (origin : Option Origin) : originCode origin ≤ 3 := by
  cases origin with
  | none => decide
  | some o => cases o <;> decide

/-- A byte of a line map, bit by bit. -/
theorem getLsbD_mapByte (m : BitVec 64) (j n : Fin 8) : (m.extractLsb' (8 * j.val) 8).getLsbD n.val = m.getLsbD (8 * j.val + n.val) := by
  rw [BitVec.getLsbD_extractLsb', decide_eq_true n.isLt, Bool.true_and]

/-- The data of the line stand behind the other 30 bytes of the window. -/
theorem Snapshot.bytes_data (w : Snapshot) (k : Nat) : w.bytes.getD (30 + k) 0#8 = w.data.getD k 0#8 := by
  rw [Snapshot.bytes, List.getD_append_right _ _ _ _ (Nat.le_add_right 30 k)]
  exact congrArg (fun i => w.data.getD i 0#8) (Nat.add_sub_cancel_left 30 k)

theorem Snapshot.bytes_shows (w : Snapshot) (k : Nat) : w.Shows k (w.bytes.getD k 0#8) := by
  refine ⟨?_, ?_, ?_, ?_, ?_, ?_, ?_, ?_, ?_, ?_, ?_, fun low high => ?_, fun low high => ?_, fun low high full => ?_⟩
  · rintro rfl
    exact toNat_byte (by omega)
  · rintro rfl
    exact toNat_byte (by omega)
  · rintro rfl
    rw [← w.state.code_eq]
    exact toNat_byte (by have := w.state.code_le; omega)
  · rintro rfl
    rfl
  · rintro rfl
    rw [← originCode_eq]
    exact toNat_byte (by have := originCode_le w.origin; omega)
  · rintro (rfl | rfl)
    · exact pageByte_eq w.page 0
    · exact pageByte_eq w.page 1
  · rintro (rfl | rfl)
    · exact extractLsb'_ofNat_eq_byteOf w.writtenCount 0
    · exact extractLsb'_ofNat_eq_byteOf w.writtenCount 1
  · rintro (rfl | rfl)
    · exact extractLsb'_ofNat_eq_byteOf w.validCount 0
    · exact extractLsb'_ofNat_eq_byteOf w.validCount 1
  · rintro rfl
    rfl
  · rintro rfl
    exact (byteOf_zero w.attempts).symm
  · rintro rfl
    show orderByte w.sealOrder = _
    cases w.sealOrder with
    | none => rfl
    | some n => exact (byteOf_zero n).symm
  · intro n
    obtain ⟨j, rfl⟩ : ∃ j : Fin 8, k = 14 + j.val := ⟨⟨k - 14, by omega⟩, by dsimp only; omega⟩
    rw [Nat.add_sub_cancel_left, ← getLsbD_mapByte]
    fin_cases j <;> rfl
  · intro n
    obtain ⟨j, rfl⟩ : ∃ j : Fin 8, k = 22 + j.val := ⟨⟨k - 22, by omega⟩, by dsimp only; omega⟩
    rw [Nat.add_sub_cancel_left, ← getLsbD_mapByte]
    fin_cases j <;> rfl
  · obtain ⟨j, rfl⟩ := Nat.exists_eq_add_of_le low
    rw [Nat.add_sub_cancel_left, w.bytes_data, List.getD_eq_getElem _ _ (by omega), List.getElem?_eq_getElem]

/-! ### The registers (R186, 12.4) -/

section
variable (s : State)

theorem Mode.code_eq (m : Mode) : m.code = [.start, .running, .drain, .drained, .halted].idxOf m := by cases m <;> rfl

theorem Mode.code_le (m : Mode) : m.code ≤ 4 := by cases m <;> decide

theorem causeBits_eq (cause : Option DrainCause) : causeBits cause = [none, some DrainCause.pfail, some .reinit].idxOf cause := by
  cases cause with
  | none => rfl
  | some c => cases c <;> rfl

theorem causeBits_le (cause : Option DrainCause) : causeBits cause ≤ 2 := by
  cases cause with
  | none => decide
  | some c => cases c <;> decide

theorem State.modeByte_bits :
    s.modeByte.toNat % 8 = [.start, .running, .drain, .drained, .halted].idxOf s.control.mode ∧
    s.modeByte.toNat / 8 % 4 = [none, some DrainCause.pfail, some .reinit].idxOf s.control.drainCause ∧
    s.modeByte.getLsbD 5 = s.control.reinitPending ∧ s.modeByte.getLsbD 6 = s.control.pfail ∧
    s.modeByte.getLsbD 7 = decide (s.control.mode = .drained) := by
  have := s.control.mode.code_le
  have := causeBits_le s.control.drainCause
  have := bit_le_one s.control.reinitPending
  have := bit_le_one s.control.pfail
  have := bit_le_one s.psafe
  have drained : decide (s.control.mode = .drained) = s.psafe := rfl
  rw [← Mode.code_eq, ← causeBits_eq, drained, State.modeByte, toNat_byte (by omega)]
  exact ⟨by omega, by omega, getLsbD_byte (by decide) (by omega), getLsbD_byte (by decide) (by omega), getLsbD_byte (by decide) (by omega)⟩

theorem lastCode_eq (last : Option MgmtCommand) : lastCode last =
    [none, some MgmtCommand.sync, some .retryEntry, some .discardEntry, some .setRegion, some .freezeRegion,
      some .writeConfig, some .reinit, some .clearCounters, some .inspectEntry].idxOf last := by
  cases last with
  | none => rfl
  | some m => cases m <;> rfl

theorem lastCode_le (last : Option MgmtCommand) : lastCode last ≤ 9 := by
  cases last with
  | none => decide
  | some m => cases m <;> decide

theorem CommandUnit.statusByte_bits (c : CommandUnit) :
    c.statusByte.getLsbD 0 = c.busy ∧ c.statusByte.getLsbD 1 = c.overrun ∧ c.statusByte.toNat / 16 = lastCode c.last := by
  have := bit_le_one c.busy
  have := bit_le_one c.overrun
  have := lastCode_le c.last
  rw [CommandUnit.statusByte, toNat_byte (by omega)]
  exact ⟨getLsbD_byte (by decide) (by omega), getLsbD_byte (by decide) (by omega), by omega⟩

theorem RefusalReason.code_eq (r : RefusalReason) :
    r.code = [.badArgument, .wrongState, .frozen, .stagedInRange, .noSlot, .mode].idxOf r + 1 := by cases r <;> rfl

theorem RefusalReason.code_le (r : RefusalReason) : r.code ≤ 6 := by cases r <;> decide

/-- RESULT, whose reason bits are a free value where nothing is refused (log entry 41). -/
theorem resultByte_bits (r : CmdResult) : (BitVec.ofNat 8 r.bits).toNat % 16 = r.code ∧
    ∀ reason, r = .refused reason → (BitVec.ofNat 8 r.bits).toNat / 16 = reason.code := by
  have spare := Config.noReason.isLt
  cases r with
  | refused reason =>
    have := reason.code_le
    have bits : (CmdResult.refused reason).bits = 3 + 16 * reason.code := rfl
    rw [bits, toNat_byte (by omega)]
    exact ⟨by show _ = 3; omega, fun reason' same => by cases same; omega⟩
  | none | busy | done | failed =>
    refine ⟨?_, nofun⟩
    simp only [CmdResult.bits, CmdResult.code]
    rw [toNat_byte (by omega)]
    omega

/-- ATTN_MASK shows the enables of the event codes (R186, log entry 40). -/
theorem State.attnMaskShown_bit {i : Nat} (low : 1 ≤ i) (high : i ≤ 21) : s.attnMaskShown.getLsbD i = s.params.attnMask.getLsbD i := by
  have named : eventCodeBits.getLsbD i = true := by
    interval_cases i <;> rfl
  rw [State.attnMaskShown, BitVec.getLsbD_or, BitVec.getLsbD_and, BitVec.getLsbD_and, BitVec.getLsbD_not, named]
  simp

/-- Apart from the registers of one byte, which the table lists singly, the map is a row of ranges. -/
theorem State.readRegister_ranges {a : Byte}
    (other : a.toNat ∉ [0x00, 0x01, 0x02, 0x03, 0x04, 0x05, 0x0A, 0x0B, 0x11, 0x12, 0x13, 0x30, 0x31]) :
    s.readRegister a =
      if 0x06 ≤ a.toNat ∧ a.toNat ≤ 0x09 then (bytes32 s.attnMaskShown).getD (a.toNat - 0x06) 0#8
      else if 0x14 ≤ a.toNat ∧ a.toNat ≤ 0x1B then argByte s.port.args (a.toNat - 0x14)
      else if 0x20 ≤ a.toNat ∧ a.toNat ≤ 0x27 then s.counters.bytes.getD (a.toNat - 0x20) 0#8
      else if 0x40 ≤ a.toNat ∧ a.toNat ≤ 0x9D then s.windowByte (a.toNat - 0x40)
      else 0#8 := by
  unfold State.readRegister
  split
  case h_14 => rfl
  all_goals
    rename_i listed
    rw [listed] at other
    exact absurd other (by decide)

theorem State.freeCount_le : s.freeCount ≤ 16 := (List.length_filter_le ..).trans_eq List.length_finRange

theorem State.failedCount_le : s.failedCount ≤ 16 := (List.length_filter_le ..).trans_eq List.length_finRange

/-- The registers from 14h on show the arguments, the low byte of each first. -/
theorem argByte_eq (args : Vector (BitVec 16) 4) (n : Fin 4) (k : Fin 2) :
    argByte args (2 * n.val + k.val) = byteOf (args[n]).toNat k.val := by
  have spelt : args.toList = [args[0], args[1], args[2], args[3]] :=
    List.ext_getElem (by simp) fun i inside _ => by
      have : i < 4 := by simpa using inside
      interval_cases i <;> simp
  rw [← extractLsb'_eq_byteOf, argByte, spelt]
  fin_cases n <;> fin_cases k <;> rfl

theorem bytes32_getD (x : BitVec 32) (k : Fin 4) : (bytes32 x).getD k.val 0#8 = x.extractLsb' (8 * k.val) 8 := by
  fin_cases k <;> rfl

theorem State.readRegister_attnMask {a : Byte} {k : Fin 4} (h : a.toNat = 0x06 + k.val) :
    s.readRegister a = s.attnMaskShown.extractLsb' (8 * k.val) 8 := by
  rw [s.readRegister_ranges (by simp only [List.mem_cons, List.not_mem_nil, or_false]; omega), if_pos (by omega), h,
    Nat.add_sub_cancel_left, bytes32_getD]

theorem State.readRegister_arg {a : Byte} {n : Fin 4} {k : Fin 2} (h : a.toNat = 0x14 + 2 * n.val + k.val) :
    s.readRegister a = byteOf (s.port.args[n]).toNat k.val := by
  rw [s.readRegister_ranges (by simp only [List.mem_cons, List.not_mem_nil, or_false]; omega), if_neg (by omega), if_pos (by omega), h,
    Nat.add_assoc, Nat.add_sub_cancel_left, argByte_eq]

theorem State.readRegister_window {a : Byte} (low : 0x40 ≤ a.toNat) (high : a.toNat ≤ 0x9D) :
    s.readRegister a = s.windowByte (a.toNat - 0x40) := by
  rw [s.readRegister_ranges (by simp only [List.mem_cons, List.not_mem_nil, or_false]; omega), if_neg (by omega), if_neg (by omega),
    if_neg (by omega), if_pos ⟨low, high⟩]

theorem State.readRegister_unnamed {a : Byte} (h : (0x0C ≤ a.toNat ∧ a.toNat ≤ 0x10) ∨ (0x1C ≤ a.toNat ∧ a.toNat ≤ 0x1F) ∨
    (0x28 ≤ a.toNat ∧ a.toNat ≤ 0x2F) ∨ (0x32 ≤ a.toNat ∧ a.toNat ≤ 0x3F) ∨ 0x9E ≤ a.toNat) : s.readRegister a = 0#8 := by
  rw [s.readRegister_ranges (by simp only [List.mem_cons, List.not_mem_nil, or_false]; omega), if_neg (by omega), if_neg (by omega),
    if_neg (by omega), if_neg (by omega)]

/-- A read of a register returns what 12.4 places there. -/
theorem State.readRegister_shows (a : Byte) : s.RegisterShows a.toNat (s.readRegister a) := by
  refine ⟨fun h => ?_, fun h => ?_, fun h => ?_, fun h => ?_, fun h => ?_, fun h => ?_, fun k n h low high => ?_, fun h => ?_, fun h => ?_,
    fun h => ?_, fun n k h => ?_, fun h => ?_, fun h => ?_, fun h => ?_, fun h => ?_, fun h => ?_, fun low high => ?_, fun h => ?_⟩
  · obtain rfl := byte_eq_ofNat h
    rfl
  · obtain rfl := byte_eq_ofNat h
    have := Config.revision.isLt
    have shown : (0x7#4 ++ Config.revision).toNat = 7 * 16 + Config.revision.toNat := by
      rw [BitVec.toNat_append, ← Nat.shiftLeft_add_eq_or_of_lt Config.revision.isLt]
      rfl
    show (0x7#4 ++ Config.revision).toNat / 16 = 7
    omega
  · obtain rfl := byte_eq_ofNat h
    exact s.modeByte_bits
  · obtain rfl := byte_eq_ofNat h
    have := s.freeCount_le
    exact toNat_byte (by omega)
  · obtain rfl := byte_eq_ofNat h
    have := s.failedCount_le
    exact toNat_byte (by omega)
  · obtain rfl := byte_eq_ofNat h
    exact (byteOf_zero _).symm
  · rw [s.readRegister_attnMask h, BitVec.getLsbD_extractLsb', decide_eq_true n.isLt, Bool.true_and]
    exact s.attnMaskShown_bit low high
  · obtain rfl := byte_eq_ofNat h
    obtain ⟨result, reason⟩ := resultByte_bits s.command.result
    have shown : s.readRegister (BitVec.ofNat 8 0x11) = BitVec.ofNat 8 s.command.result.bits := rfl
    rw [shown, result]
    refine ⟨fun r => by rw [r]; rfl, fun r => by rw [r]; rfl, fun r => by rw [r]; rfl, fun r => by rw [r]; rfl,
      fun why r => ⟨by rw [r]; rfl, ?_⟩⟩
    rw [reason why r, why.code_eq]
  · obtain rfl := byte_eq_ofNat h
    exact (byteOf_zero _).symm
  · obtain rfl := byte_eq_ofNat h
    rw [← lastCode_eq]
    exact s.command.statusByte_bits
  · exact s.readRegister_arg h
  · obtain rfl := byte_eq_ofNat h
    rfl
  · obtain rfl := byte_eq_ofNat h
    rfl
  · obtain rfl := byte_eq_ofNat h
    rfl
  · obtain rfl := byte_eq_ofNat h
    rfl
  · obtain rfl := byte_eq_ofNat h
    exact toNat_byte (by omega)
  · rw [s.readRegister_window low high, State.windowByte]
    refine ⟨fun none => by rw [none], fun w shown => ?_⟩
    rw [shown]
    exact w.bytes_shows _
  · exact s.readRegister_unnamed h

end

end Sys2Proof.Machine
end

section
/-! PROOFS. The bytes of a transfer at the management port (O48), and the reads that change their register (O49). -/

namespace Sys2Proof.Machine

/-! ### The port that does not answer (R185) -/

theorem exec_portCommand {c : Instr} (port : portCommand c) (s : State) : ∃ f : State → State, exec c s = .next (s.onPort f) := by
  cases c with
  | sync | retryEntry | discardEntry | setRegion | freezeRegion | writeConfig | reinit | clearCounters | inspectEntry | unknownCommand
  | pointerWrite | registerWrite | evdataRead | evlostRead | counterLowByteRead | cfgIndexWrite | cfgDataRead | cfgDataWrite | transferEnd =>
    exact ⟨_, rfl⟩
  | _ => exact port.elim

theorem State.onPort_silent {s : State} (silent : s.resetAsserted = true ∨ s.port.maddr = none) (f : State → State) :
    s.onPort f = s.setPort { s.port with reply := .nack } := by
  refine if_neg ?_
  rcases silent with reset | unsampled
  · simp [State.portAnswers, reset]
  · simp [State.portAnswers, unsampled]

/-! ### The pointer (R185) -/

theorem nextPointer_of {a : Byte} (evdata : a ≠ evdataAddr) (cfgData : a ≠ cfgDataAddr) : nextPointer a = a + 1#8 :=
  if_neg (not_or.mpr ⟨evdata, cfgData⟩)

theorem nextPointer_plain {a : Byte} (cfgData : a ≠ cfgDataAddr) : nextPointer a = if a = 0x0A#8 then 0x0A#8 else a + 1#8 := by
  by_cases evdata : a = 0x0A#8
  · rw [if_pos evdata, evdata]
    rfl
  · rw [if_neg evdata, nextPointer_of evdata cfgData]

/-! ### A byte written at the pointer (R185 to R187) -/

theorem setArgByte_eq (args : Vector (BitVec 16) 4) (n : Fin 4) (v : Byte) {k : Fin 8} (place : k.val / 2 = n.val) :
    setArgByte args k v = args.set n.val
      (if k.val % 2 = 0 then (args[n]).extractLsb' 8 8 ++ v else v ++ (args[n]).extractLsb' 0 8) n.isLt := by
  refine Vector.ext fun j inside => ?_
  rw [setArgByte, Vector.getElem_ofFn, Vector.getElem_set, place]
  by_cases here : n.val = j
  · subst here
    rw [if_pos rfl, if_pos rfl]
  · rw [if_neg (Ne.symm here), if_neg here]
    rfl

theorem State.writeEffect_arg (s : State) {a : Byte} (v : Byte) {k : Fin 8} (place : a.toNat = 0x14 + k.val) :
    s.writeEffect a v = s.writeArg k v := by
  rw [State.writeEffect, dif_pos (by omega)]
  exact congrArg (s.writeArg · v) (Fin.ext (by dsimp only; omega))

/-- A read-only register, and an address that names none, take no write (R185). -/
theorem State.writeEffect_ignored (s : State) {a : Byte} (v : Byte) (noArg : ¬ (0x14 ≤ a.toNat ∧ a.toNat ≤ 0x1B)) (noCmd : a.toNat ≠ 0x10)
    (noIndex : a.toNat ≠ 0x30) (noData : a.toNat ≠ 0x31) : s.writeEffect a v = s := by
  rw [State.writeEffect, dif_neg noArg]
  split
  case h_4 => rfl
  all_goals contradiction

/-- The place of a command in the list is one less than its code (12.4). -/
theorem cmdWrites_code {k : Nat} {c : Instr} {m : MgmtCommand} (place : cmdWrites[k]? = some (c, m)) : m.code.toNat = k + 1 := by
  have all : ∀ p ∈ cmdWrites.zipIdx, p.1.2.code.toNat = p.2 + 1 := by decide
  exact all ((c, m), k) (List.mem_zipIdx_iff_getElem?.mpr place)

theorem State.writeCmd_named (s : State) {k : Nat} {c : Instr} {m : MgmtCommand} (place : cmdWrites[k]? = some (c, m)) {value : Byte}
    (code : value.toNat = k + 1) : s.writeCmd value = s.runCommand m (commandOwner m) := by
  rw [BitVec.eq_of_toNat_eq (code.trans (cmdWrites_code place).symm), State.writeCmd, decodeCommand_code]

/-! ### A byte read at the pointer (R185, R186) -/

/-- A register whose read has no effect of its own. -/
theorem State.readEffect_none (s : State) {a : Byte} (other : a.toNat ∉ [0x0A, 0x0B, 0x20, 0x22, 0x24, 0x26, 0x31]) :
    s.readEffect a = s := by
  unfold State.readEffect
  split
  case h_8 => rfl
  all_goals
    rename_i listed
    rw [listed] at other
    exact absurd other (by decide)

theorem exec_readAtPointer {s : State} (reset : s.resetAsserted = false) (maddr : s.port.maddr.isSome) :
    exec (.counterLowByteRead .pointer) s = .next (s.busRead s.port.pointer) := congrArg Host.Outcome.next (s.onPort_answers reset maddr _)

/-- Settles O48: a silent port, a byte written by the register that the pointer names, and a byte read there. -/
theorem portTransferBytes : Obligations.PortTransferBytes := by
  unfold Obligations.PortTransferBytes
  refine ⟨fun s c port silent => ?_, fun s value reset maddr => ?_, fun s reset maddr => ?_⟩
  · obtain ⟨f, ran⟩ := exec_portCommand port s
    rw [ran, State.onPort_silent silent]
    rfl
  · have answers (f : State → State) : Host.Outcome.next (s.onPort f) = (.next (f s) : Answer) := congrArg _ (s.onPort_answers reset maddr f)
    have write : exec (.registerWrite value) s = .next ((s.writeEffect s.port.pointer value).wrote s.port.pointer) := answers _
    refine ⟨answers _, answers _, fun n place => ?_, fun n place => ?_, fun cmd => ⟨fun k c m listed code => ?_, fun other => ?_⟩,
      fun index => ?_, fun data => ?_, fun plain => ?_⟩
    · rw [write, s.writeEffect_arg value (k := ⟨2 * n.val, by omega⟩) place, State.writeArg, setArgByte_eq _ n value (by dsimp only; omega),
        if_pos (by dsimp only; omega), State.wrote, nextPointer_of (by bv_omega) (by bv_omega)]
      rfl
    · rw [write, s.writeEffect_arg value (k := ⟨2 * n.val + 1, by omega⟩) place, State.writeArg, setArgByte_eq _ n value (by dsimp only; omega),
        if_neg (by dsimp only; omega), State.wrote, nextPointer_of (by bv_omega) (by bv_omega)]
      rfl
    · rw [write, byte_eq_ofNat cmd, exec_cmdWrite (List.mem_of_getElem? listed), State.writeCommand, s.onPort_answers reset maddr,
        ← s.writeCmd_named listed code]
      rfl
    · rw [write, byte_eq_ofNat cmd, exec_unknownCommand reset maddr]
      rfl
    · rw [write, byte_eq_ofNat index]
      exact (answers fun t => t.busWrite cfgIndexAddr value).symm
    · rw [write, byte_eq_ofNat data]
      exact (answers fun t => t.busWrite cfgDataAddr value).symm
    · rw [write, s.writeEffect_ignored value (by omega) (by omega) (by omega) (by omega), State.wrote, nextPointer_plain (by bv_omega)]
      rfl
  · have readAt {a : Byte} (place : s.port.pointer = a) : exec (.counterLowByteRead .pointer) s = .next (s.onPort fun t => t.busRead a) := by
      rw [exec_readAtPointer reset maddr, place, s.onPort_answers reset maddr]
    refine ⟨fun place => readAt (byte_eq_ofNat place), fun place => readAt (byte_eq_ofNat place), fun place => readAt (byte_eq_ofNat place),
      fun k place => readAt place, fun plain => ⟨_, s.readRegister_shows s.port.pointer, ?_⟩⟩
    have evdata : s.port.pointer ≠ evdataAddr := fun here => plain (by rw [here]; decide)
    have cfgData : s.port.pointer ≠ cfgDataAddr := fun here => plain (by rw [here]; decide)
    rw [exec_readAtPointer reset maddr, State.busRead, s.readEffect_none plain, State.returned, nextPointer_of evdata cfgData]
    rfl

/-! ### The reads with an effect (R186, R190, R191) -/

theorem EventQueue.headByte_of {q : EventQueue} {r : EventRecord} {rest : List EventRecord} (records : q.records = r :: rest) :
    q.headByte = r.byte q.cursor := by rw [EventQueue.headByte, records]

theorem EventQueue.takeByte_empty {q : EventQueue} (empty : q.records = []) : q.takeByte = q := by rw [EventQueue.takeByte, empty]

theorem EventQueue.takeByte_of {q : EventQueue} {r : EventRecord} {rest : List EventRecord} (records : q.records = r :: rest) :
    q.takeByte = if q.cursor = 7 then { q with records := rest, cursor := 0 } else { q with cursor := q.cursor + 1 } := by
  unfold EventQueue.takeByte
  split
  · rename_i same
    obtain ⟨-, rfl⟩ := List.cons_eq_cons.mp (same.symm.trans records)
    rfl
  · rename_i empty
    exact absurd (empty.symm.trans records) nofun

section
variable (s : State)

theorem State.readEffect_counter (k : CounterId) : s.readEffect (counterLowAddr k) = s.setCounters (s.counters.hold k) := by cases k <;> rfl

theorem State.readRegister_counter (k : CounterId) : s.readRegister (counterLowAddr k) = (s.counters.value k).extractLsb' 0 8 := by
  cases k <;> rfl

theorem State.readRegister_held (k : CounterId) : s.readRegister (counterLowAddr k + 1#8) = s.counters.held k := by cases k <;> rfl

theorem nextPointer_counter (k : CounterId) : nextPointer (counterLowAddr k) = counterLowAddr k + 1#8 := by cases k <;> rfl

theorem Counters.held_hold_same (c : Counters) (k : CounterId) : (c.hold k).held k = (c.value k).extractLsb' 8 8 := by cases k <;> rfl

theorem Counters.held_hold_other (c : Counters) {j k : CounterId} (ne : j ≠ k) : (c.hold k).held j = c.held j := by
  revert ne
  cases k <;> cases j <;> simp [Counters.hold, Counters.held]

theorem Counters.value_hold (c : Counters) (j k : CounterId) : (c.hold k).value j = c.value j := by cases k <;> cases j <;> rfl

/-- The read of a counter's low byte. -/
theorem State.busRead_counter (k : CounterId) : s.busRead (counterLowAddr k) = { s with
    counters := s.counters.hold k
    port := { s.port with pointer := counterLowAddr k + 1#8, reply := .byte ((s.counters.value k).extractLsb' 0 8) } } := by
  rw [State.busRead, s.readEffect_counter, s.readRegister_counter, State.returned, nextPointer_counter]
  rfl

theorem State.attn_iff : s.attn = true ↔ ∃ r ∈ s.events.records, s.params.attnMask.getLsbD r.event.layout.1 = true := by
  simp only [State.attn, List.any_eq_true, Event.code_eq]

end

/-- Settles O49: the byte at the cursor as 12.3 lays the record out, and what each of the reads leaves at its register. -/
theorem readsThatChangeTheirRegister : Obligations.ReadsThatChangeTheirRegister := by
  unfold Obligations.ReadsThatChangeTheirRegister
  refine ⟨fun s reset maddr => ?_, fun s reset maddr => ⟨congrArg _ (s.onPort_answers reset maddr _), fun k => ?_⟩, State.attn_iff⟩
  · have read : exec .evdataRead s = .next { s with
        events := s.events.takeByte, port := { s.port with pointer := 0x0A#8, reply := .byte s.events.headByte } } :=
      congrArg _ (s.onPort_answers reset maddr _)
    refine ⟨fun empty => ?_, fun r rest records => ⟨r.byte s.events.cursor, r.byte_shows s.events.cursor, fun more => ?_, fun last => ?_⟩⟩
    · rw [read, EventQueue.takeByte_empty empty, EventQueue.headByte, empty]
    · rw [read, EventQueue.takeByte_of records, EventQueue.headByte_of records, if_neg (Fin.ne_of_lt more)]
    · rw [read, EventQueue.takeByte_of records, EventQueue.headByte_of records, if_pos last]
  · have ran : exec (.counterLowByteRead (.counter k)) s = .next (s.busRead (counterLowAddr k)) := congrArg _ (s.onPort_answers reset maddr _)
    rw [s.busRead_counter k] at ran
    refine ⟨_, ran, rfl, s.counters.held_hold_same k, ⟨_, exec_readAtPointer reset maddr, ?_⟩, fun j => s.counters.value_hold j k,
      fun _ ne => s.counters.held_hold_other ne⟩
    rw [← s.counters.held_hold_same k]
    exact congrArg PortReply.byte (State.readRegister_held _ k)

end Sys2Proof.Machine
end

section
/-! PROOFS. The bytes of a configuration record and its fields (O60), and the request of kind 3 (O16). -/

namespace Sys2Proof.Machine

/-! ### From the fields to the bytes and back (12.2) -/

theorem extractLsb'_append_bytes16 (x : BitVec 16) : x.extractLsb' 8 8 ++ x.extractLsb' 0 8 = x := at16_of_bytes16 x []

theorem extractLsb'_append_bytes32 (x : BitVec 32) :
    (x.extractLsb' 24 8 ++ x.extractLsb' 16 8) ++ (x.extractLsb' 8 8 ++ x.extractLsb' 0 8) = x := at32_of_bytes32 x []

theorem fieldsOf_bytes (f : RecordFields) (l : List Byte) : fieldsOf (f.bytes ++ l) = f := by
  simp only [fieldsOf, RecordFields.bytes, at32, at16, at8, bytes32, bytes16, List.cons_append, List.nil_append,
    List.getD_cons_succ, List.getD_cons_zero, extractLsb'_append_bytes16, extractLsb'_append_bytes32]

/-- The descriptors begin at byte 30, six bytes each. -/
theorem recordOf_regions (l : List Byte) (n : RegionIndex) : (recordOf l).regions[n] = rawRegionAt l (30 + 6 * n.val) := by
  fin_cases n <;> rfl

theorem ConfigRecord.at32_bytes_crc (r : ConfigRecord) : at32 r.bytes 78 = r.crc := by
  rw [ConfigRecord.bytes, ← length_recordBody r.fields r.regions, ← Nat.add_zero (List.length _), at32_append_right]
  exact at32_of_bytes32 r.crc []

theorem recordOf_bytes (r : ConfigRecord) : recordOf r.bytes = r := by
  have fields : (recordOf r.bytes).fields = r.fields := by
    rw [ConfigRecord.bytes, recordBody, List.append_assoc]
    exact fieldsOf_bytes _ _
  have regions : (recordOf r.bytes).regions = r.regions := Vector.ext fun n inside =>
    (recordOf_regions r.bytes ⟨n, inside⟩).trans (r.rawRegionAt_bytes ⟨n, inside⟩)
  calc recordOf r.bytes
      = ⟨(recordOf r.bytes).fields, (recordOf r.bytes).regions, at32 r.bytes 78⟩ := rfl
    _ = r := by rw [fields, regions, r.at32_bytes_crc]

/-! ### From the bytes to the fields and back (12.2) -/

/-- The fields before the descriptors spell bytes 0 to 29 of the list. -/
theorem bytes_fieldsOf_eq_map (l : List Byte) : (fieldsOf l).bytes = (List.range' 0 30).map (at8 l) := by
  simp only [RecordFields.bytes, fieldsOf, bytes32_at32, bytes16_at16]
  rfl

theorem bytes_rawRegionAt_eq_map (l : List Byte) (i : Nat) : (rawRegionAt l i).bytes = (List.range' i 6).map (at8 l) := by
  rw [RawRegion.bytes, rawRegionAt, bytes16_at16, bytes16_at16]
  rfl

/-- Offsets 0 to 81 are those of the fields, of the eight descriptors and of the CRC, in this order. -/
theorem bytes_recordOf {l : List Byte} (h : l.length = 82) : (recordOf l).bytes = l := by
  have regions : (recordOf l).regions.toList = (List.range 8).map fun n => rawRegionAt l (30 + 6 * n) := rfl
  have crc : bytes32 (recordOf l).crc = (List.range' 78 4).map (at8 l) := bytes32_at32 l 78
  have offsets : List.range 82 =
      List.range' 0 30 ++ (List.range 8).flatMap (fun n => List.range' (30 + 6 * n) 6) ++ List.range' 78 4 := rfl
  calc (recordOf l).bytes
      = (List.range 82).map (at8 l) := by
        rw [offsets, List.map_append, List.map_append, List.map_flatMap, ← bytes_fieldsOf_eq_map, ← crc]
        simp only [← bytes_rawRegionAt_eq_map]
        rw [ConfigRecord.bytes, recordBody, regions, List.flatMap_map]
        rfl
    _ = l := by rw [← h, map_at8_range]

/-- The check value of R198, computed bit by bit. -/
theorem crc32_check : crc32 [0x31#8, 0x32#8, 0x33#8, 0x34#8, 0x35#8, 0x36#8, 0x37#8, 0x38#8, 0x39#8] = 0xCBF43926#32 := by
  simp [crc32, crcByte, crcBit]

/-- Settles O60: the two round trips, and the check value of the CRC-32. -/
theorem recordBytesAndFieldsAgree : Obligations.RecordBytesAndFieldsAgree :=
  ⟨fun r => ⟨r.length_bytes, recordOf_bytes r⟩, fun _ length => bytes_recordOf length, crc32_check⟩

/-! ### The request of kind 3 (R197) -/

theorem exec_invalidKindRequest (s : State) (req : Requester) (addr : BitVec 24) : exec (.invalidKindRequest req addr) s =
    .next (if s.resetAsserted then s.respond .retry else s.refuseRead .format none req addr.toNat) := rfl

/-- The fault kinds are numbered from 1 to 6 (12.1). -/
theorem FaultKind.code_bounds (k : FaultKind) : 1 ≤ k.code ∧ k.code ≤ 6 := by cases k <;> decide

/-- Settles O16: RESET_N alone decides between the RETRY and the refusal; the mode is not looked at. -/
theorem requestOfNoKindIsAFormatFault : Obligations.RequestOfNoKindIsAFormatFault := by
  unfold Obligations.RequestOfNoKindIsAFormatFault
  refine ⟨fun s req addr => ⟨fun released => ?_, fun asserted => ?_⟩, fun k => ?_⟩
  · exact (exec_invalidKindRequest s req addr).trans (congrArg _ (if_neg (ne_true_of_eq_false released)))
  · exact (exec_invalidKindRequest s req addr).trans (congrArg _ (if_pos asserted))
  · have := k.code_bounds
    omega

end Sys2Proof.Machine
end

section
/-! PROOFS. The queue of commands: its front runs at a step (O1), and every command answers and leaves the queue alone (O2). -/

namespace Sys2Proof.Machine

theorem step_of_front {c : Instr} {rest : List Instr} {s : State} (front : s.pending = c :: rest) :
    step s = exec c { s with pending := rest } := by
  rw [step, front]

/-- Settles O1: the queue's front and rest are what `step_of_front` asks for. -/
theorem frontCommandRuns : Obligations.FrontCommandRuns := by
  unfold Obligations.FrontCommandRuns
  exact fun _ _ _ => step_of_front rfl

/-- Each meaning answers a next state, so no arm of `exec` gives a fault or a refusal. -/
theorem exec_answers (c : Instr) (s : State) : ∃ t, exec c s = .next t := by
  cases c <;> exact ⟨_, rfl⟩

/-- No command touches the queue (log entry 10), as the frame of its meaning says. -/
theorem exec_pending {s t : State} : ∀ {c : Instr}, exec c s = .next t → t.pending = s.pending
  | .writeRequest .., h => (execWriteRequest_frame _ _ _ _ s t h).1
  | .readRequest .., h => (execReadRequest_frame _ _ _ s t h).1
  | .fenceRequest .., h => (execFenceRequest_frame _ s t h).1
  | .invalidKindRequest .., h => (execInvalidKindRequest_frame _ _ s t h).1
  | .idleTimerExpiry .., h => (execIdleTimerExpiry_frame _ s t h).1
  | .openAgeTimerExpiry .., h => (execOpenAgeTimerExpiry_frame _ s t h).1
  | .takeHead, h => (execTakeHead_frame s t h).1
  | .arbiterDecision, h => (execArbiterDecision_frame s t h).1
  | .longOperationAccepted, h => (execLongOperationAccepted_frame s t h).1
  | .readCompletion .., h => (execReadCompletion_frame _ s t h).1
  | .pollTime, h => (execPollTime_frame s t h).1
  | .suspendAccepted, h => (execSuspendAccepted_frame s t h).1
  | .statusReply .., h => (execStatusReply_frame _ _ s t h).1
  | .suspendedFetchStep, h => (execSuspendedFetchStep_frame s t h).1
  | .endSuspension, h => (execEndSuspension_frame s t h).1
  | .resumeAccepted, h => (execResumeAccepted_frame s t h).1
  | .operationTimerExpiry, h => (execOperationTimerExpiry_frame s t h).1
  | .suspendWaitTimerExpiry, h => (execSuspendWaitTimerExpiry_frame s t h).1
  | .resetAccepted, h => (execResetAccepted_frame s t h).1
  | .resetWaitTimerExpiry, h => (execResetWaitTimerExpiry_frame s t h).1
  | .discardTimerExpiry .., h => (execDiscardTimerExpiry_frame _ s t h).1
  | .refreshStep, h => (execRefreshStep_frame s t h).1
  | .pfailAssertion, h => (execPfailAssertion_frame s t h).1
  | .pfailDeassertion, h => (execPfailDeassertion_frame s t h).1
  | .deferredDrainStart, h => (execDeferredDrainStart_frame s t h).1
  | .reinitClaim, h => (execReinitClaim_frame s t h).1
  | .drainCompletion, h => (execDrainCompletion_frame s t h).1
  | .powerOn .., h => (execPowerOn_frame _ _ s t h).1
  | .resetNAssertion, h => (execResetNAssertion_frame s t h).1
  | .resetNDeassertion .., h => (execResetNDeassertion_frame _ _ s t h).1
  | .size .., h => (execSize_frame _ s t h).1
  | .deviceReset, h => (execDeviceReset_frame s t h).1
  | .readA, h => (execReadA_frame s t h).1
  | .readB, h => (execReadB_frame s t h).1
  | .apply, h => (execApply_frame s t h).1
  | .startComplete, h => (execStartComplete_frame s t h).1
  | .sync, h => (execSync_frame s t h).1
  | .retryEntry, h => (execRetryEntry_frame s t h).1
  | .discardEntry, h => (execDiscardEntry_frame s t h).1
  | .setRegion, h => (execSetRegion_frame s t h).1
  | .freezeRegion, h => (execFreezeRegion_frame s t h).1
  | .writeConfig, h => (execWriteConfig_frame s t h).1
  | .reinit, h => (execReinit_frame s t h).1
  | .clearCounters, h => (execClearCounters_frame s t h).1
  | .inspectEntry, h => (execInspectEntry_frame s t h).1
  | .unknownCommand .., h => (execUnknownCommand_frame _ s t h).1
  | .pointerWrite .., h => (execPointerWrite_frame _ s t h).1
  | .registerWrite .., h => (execRegisterWrite_frame _ s t h).1
  | .evdataRead, h => (execEvdataRead_frame s t h).1
  | .evlostRead, h => (execEvlostRead_frame s t h).1
  | .counterLowByteRead .., h => (execCounterLowByteRead_frame _ s t h).1
  | .cfgIndexWrite .., h => (execCfgIndexWrite_frame _ s t h).1
  | .cfgDataRead, h => (execCfgDataRead_frame s t h).1
  | .cfgDataWrite .., h => (execCfgDataWrite_frame _ s t h).1
  | .transferEnd, h => (execTransferEnd_frame s t h).1

/-- Settles O2: `exec_answers` gives the next state, and `exec_pending` its queue. -/
theorem everyCommandAnswersAndKeepsTheQueue : Obligations.EveryCommandAnswersAndKeepsTheQueue := by
  unfold Obligations.EveryCommandAnswersAndKeepsTheQueue
  intro c s
  obtain ⟨t, h⟩ := exec_answers c s
  exact ⟨t, h, exec_pending h⟩

end Sys2Proof.Machine
end
